-- ==== Sys2Proof/Word.lean ====
section
/-!
DEFINITION. The word types of the device: every register is 32 bits wide (spec/00_scope.md R12), times are 64-bit
beat numbers (R11), quantities are signed integers in the units of R8.
-/
namespace Sys2Proof

/-- A register word (R12). -/
abbrev Word := BitVec 32
/-- A byte of a record or of host memory. -/
abbrev Byte := BitVec 8
/-- A 64-bit beat number (R8, R11). -/
abbrev Beat := BitVec 64

/-- A power phase P0 to P159, and the channel that starts at it (R5, R6). -/
abbrev PhaseNo := Fin 160
/-- A channel number, which is its base phase number (R6). -/
abbrev ChanNo := Fin 160
/-- A group G0 to G9 (R5). -/
abbrev GroupNo := Fin 10
/-- A channel engine E0 to E17 (R7). -/
abbrev EngineNo := Fin 18

end Sys2Proof
end

