-- ==== Sys2Proof/Inputs.lean ====
section
/-!
DEFINITION. Records that the world outside gives with a command: what a self-test step found (R434, R435), what the
census measured at a phase (R440 to R442), how a request to host memory ended (R290), what the host has written to
configuration space (R246).
-/
namespace Sys2Proof

/-- What the census measured at one phase (R440 to R442). -/
structure CensusIn where
  vPlus : Int                      -- mean at +10 mA, 10 nV
  vMinus : Int                     -- mean at −10 mA, 10 nV
  compliance : Bool                -- the injector was at its compliance
  v0 : Int                         -- probe off, µV
  v1 : Int                         -- probe on, µV
  peaks : List Nat                 -- peak in µA of a pulse of 40, 80, 160, 320 and 640 ns, as far as they ran
  crossed : Bool                   -- the current window was crossed
  mean : Nat                       -- mean peak of the sixteen pulses, µA
  rise : Int                       -- mean rise of the voltage samples during the pulses, µV
deriving DecidableEq, Repr

/-- Balls sampled at reset (R316, R463, R521), and what step 1 of the self-test finds of VDD_IO and of REFIN (R549, R550). -/
structure Pins where
  domLead : Bool
  testEn : Bool
  baddr : Fin 8
  vddIo : Nat                      -- mV
  refin : Bool                     -- REFIN has toggled for 100 µs
deriving DecidableEq, Repr

/-- The end of a self-test step (R434). -/
structure StepResult where
  code : Nat                       -- failure code of the step's own check; 0 it passed
  data : Word                      -- DATA of the failure code
  durUs : Nat                      -- duration, µs
  engFail : BitVec 18              -- step 5: engines that failed
  cal : Vector (Vector Int 17) 340 -- step 6: the sums of 20 samples at each point of every slice's first calibration
  sliceFail : List (Fin 10 × Bool × Fin 17)   -- step 6: slices that fail the DIRECT test: group, voltage, slice
  census : List (Fin 160 × CensusIn)          -- step 9
  badBanks : BitVec 2              -- step 4: banks with a part that fails its digest
  vlink : Int                      -- step 9: VLINK, µV
  hold : Int × Int                 -- step 10: VHOLD before and at the end of the presence test, µV
deriving DecidableEq, Repr

/-- How a read of host memory ends in error (R290). -/
inductive ReadErr where
  | unsupported | abort | poisoned | timeout
deriving DecidableEq, Repr

/-- What the read of a data buffer brings (R266, R290). -/
inductive HostData where
  | bytes (l : List Byte)
  | error (e : ReadErr)
deriving DecidableEq, Repr

/-- What the host sets in configuration space beside Bus Master Enable, PME_En and the MSI-X bits (R246, R249, R291). -/
structure PcieCfg where
  memSpace : Bool                  -- Memory Space Enable: only accesses made while it is 1 reach BAR0
  bar0 : BitVec 64                 -- bits 63:18, the base of BAR0
  mps : Nat                        -- Max_Payload_Size 128 · 2^mps bytes, at most 512
  mrrs : Nat                       -- Max_Read_Request_Size 128 · 2^mrrs bytes
  cplRange : Nat                   -- Device Control 2: completion timeout range
  cplOff : Bool                    -- Device Control 2: completion timeout disable
  ltrEn : Bool
  aspmL1 : Bool
  l1ss : BitVec 4                  -- L1.1 and L1.2 enables, ASPM and PCI-PM
  ecrcGen : Bool
  ecrcChk : Bool
deriving DecidableEq, Repr

/-- What an access on the debug port asks (R494): BYPASS, IDCODE or SAMPLE/PRELOAD of the boundary scan, EXTEST, or access to
the cores and memories. -/
inductive DebugReq where
  | scan | extest | core
deriving DecidableEq, Repr

end Sys2Proof
end

