-- ==== Sys2Proof/Syntax.lean ====
section
/-!
DEFINITION. The commands of the device: one constructor per row of spec/opcode_table.json. The operands of a command
carry what the world outside gives with it: a written value, the cycle of the beat, the level of a pin, the words of a
message, an analogue result.
-/
namespace Sys2Proof

/-- A command: a write or a read of a register, a message, an event on a pin, the end of a time. -/
inductive Instr where
  /-- SAMPLE_APERTURE (R21). All 340 slices sample together at an aperture of a beat's sample set. -/
  | sampleAperture (raw : Vector (BitVec 16) 340)
  /-- BEAT_BOUNDARY (R28). At each 500-cycle beat boundary the commit unit latches outputs of channels whose jobs are DONE, holds the others, makes slow results current, advances the beat counter and releases the new jobs. -/
  | beatBoundary
  /-- ENGINE_PICKUP (R44). An engine claims the next claimable job from its own queue head or another engine's tail. -/
  | enginePickup (e : EngineNo)
  /-- BEAT_JOB (R101). A channel's beat job completes: terminations, lane frame, authority resolution, mode equation, limits, governor cap, glide and phase codes. -/
  | beatJob (n : ChanNo) (cycles : Nat) (ctxError : Bool)
  /-- TENTH_BEAT_JOB (R27). A channel's tenth-beat job completes, giving the band code and tuck decision for the next tenth period. -/
  | tenthBeatJob (n : ChanNo) (cycles : Nat) (ctxError : Bool)
  /-- MILLI_JOB (R207). A channel's milli job completes, giving the slow estimates that take effect at the next milli boundary. -/
  | milliJob (n : ChanNo) (cycles : Nat) (ctxError : Bool)
  /-- OVERRUN_CLASSIFY (R49). At cycle 32 of a beat, jobs still outstanding at the boundary are classified as engine loss or beat overrun. -/
  | overrunClassify
  /-- RESIDUE_TRIP (R53). An engine's datapath residue check trips. -/
  | residueTrip (e : EngineNo)
  /-- PROGRESS_TIMEOUT (R53). An engine's progress signal stays still for 32 cycles while it runs a job. -/
  | progressTimeout (e : EngineNo)
  /-- JOB_OVERTIME (R53). A claimed job runs 64 cycles past its cost figure. -/
  | jobOvertime (e : EngineNo)
  /-- BUDGET_WRITE (R38). A write to BEAT_GRP_BUDGETg is held pending for its boundary. -/
  | budgetWrite (g : GroupNo) (v : Word) (cyc : Nat)
  /-- BEAT_NUM_LO_READ (R11). A read of BEAT_NUM_LO returns the low half and captures the high half for BEAT_NUM_HI. -/
  | beatNumLoRead
  /-- BEAT_PEAK_CLEAR (R47). A write of CLR to BEAT_PEAK resets the peak cycle count. -/
  | beatPeakClear (v : Word)
  /-- UPPER_EDGE_CROSSING (R63). The shunt voltage crosses the upper band edge, ending the high-side interval. -/
  | upperEdgeCrossing (n : PhaseNo) (tick : Nat)
  /-- LOWER_EDGE_CROSSING (R63). The shunt voltage crosses the lower band edge, ending the low-side interval. -/
  | lowerEdgeCrossing (n : PhaseNo) (tick : Nat)
  /-- DEAD_TIME_END (R68). A dead time expires and the opposite gate rises. -/
  | deadTimeEnd (n : PhaseNo) (tick : Nat)
  /-- MIN_ON_TIME_END (R69). The 40 ns minimum high-side on time expires and a pending upper-edge crossing is acted on. -/
  | minOnTimeEnd (n : PhaseNo) (tick : Nat)
  /-- MIN_OFF_TIME_END (R69). The 40 ns minimum high-side off time expires so GHn may rise again. -/
  | minOffTimeEnd (n : PhaseNo) (tick : Nat)
  /-- INTERLEAVE_SLOT (R77). A phase's interleave slot instant arrives and it raises GHn. -/
  | interleaveSlot (n : PhaseNo) (tick : Nat)
  /-- SLOT_DELAY_CAP (R77). A phase's slot delay reaches Tp/4 after its lower-edge crossing; it turns on and counts a slip. -/
  | slotDelayCap (n : PhaseNo) (tick : Nat)
  /-- PHASE_STOP_TIMEOUT (R66). No upper-edge crossing within 2 periods or 20 µs of a stop; the gates go low. -/
  | phaseStopTimeout (n : PhaseNo)
  /-- CURRENT_WINDOW_CROSSING (R164). A peak-high or peak-low current comparator asserts and the window's action and latch apply. -/
  | currentWindowCrossing (n : PhaseNo) (high : Bool)
  /-- LATCH_NV_WRITE (R95). A latch or release is written to NV within 10 ms. -/
  | latchNvWrite
  /-- PH_OC_CLR (R92). A write of KEY 0xA7 to PH_OC_CLR requests the release of a phase latch. -/
  | phOcClr (n : PhaseNo) (v : Word) (cyc : Nat)
  /-- CH_COMMIT (R98). A write of GO to CH_COMMIT takes a snapshot of the staged fields. -/
  | chCommit (n : ChanNo) (v : Word) (cyc : Nat)
  /-- CH_CLR (R106). A write of KEY 0xA7 to CH_CLR requests release of a channel-scope latch. -/
  | chClr (n : ChanNo) (v : Word) (cyc : Nat)
  /-- LANE_SLOT (R107). A setpoint lane slot of 48 clocks completes, delivering a frame and shifting out two acknowledgements. -/
  | laneSlot (clocks : Nat) (frame : BitVec 48) (cyc : Nat)
  /-- CALIBRATION_SLOT (R127). A 256-beat calibration slot begins or ends, moving the rotation on. -/
  | calibrationSlot (g : GroupNo)
  /-- SUBSTITUTION_TAKEOVER (R132). At beat S+6 the spare serves the suspect's position and the suspect is isolated. -/
  | substitutionTakeover (g : GroupNo) (voltage : Bool)
  /-- SUBSTITUTION_VERDICT (R133). At the boundary opening S+12 the DIRECT test verdict confirms or clears the suspect. -/
  | substitutionVerdict (g : GroupNo) (voltage : Bool)
  /-- SERIES_TEST_START (R136). A write of GO to GRP_DIAG_CTRL starts or refuses a SERIES test. -/
  | seriesTestStart (g : GroupNo) (v : Word)
  /-- SERIES_TEST_DONE (R136). A SERIES test completes and reports its result. -/
  | seriesTestDone (g : GroupNo) (reading : Int) (change : Int)
  /-- MET_CTRL_GO (R139). A write of GO to MET_CTRL starts or refuses a metrology conversion request. -/
  | metCtrlGo (p : Fin 4) (v : Word)
  /-- METROLOGY_DONE (R138). A metrology port completes its averaged conversions and writes MET_RESULT. -/
  | metrologyDone (p : Fin 4) (sum : Int)
  /-- CAL_ZERO (R141). STEP ZERO latches the range and starts 256 zero conversions. -/
  | calZero (p : Fin 4)
  /-- CAL_ZERO_DONE (R141). The zero conversions end; the mean is checked and held. -/
  | calZeroDone (p : Fin 4) (sum : Int) (sumSq : Nat)
  /-- CAL_FULL (R141). STEP FULL starts 256 full-scale conversions. -/
  | calFull (p : Fin 4)
  /-- CAL_FULL_DONE (R141). The full-scale conversions end; gain and offset are computed and checked. -/
  | calFullDone (p : Fin 4) (sum : Int) (sumSq : Nat)
  /-- CAL_STORE (R141). STEP STORE writes the new coefficients to NV and applies them. -/
  | calStore (p : Fin 4)
  /-- CAL_ABORT (R141). STEP ABORT returns the port to IDLE with the previous coefficients. -/
  | calAbort (p : Fin 4)
  /-- CAL_ABANDON_TIMEOUT (R142). A calibration step not followed within 3,600 s ends ABANDONED. -/
  | calAbandonTimeout (p : Fin 4)
  /-- OWNERSHIP_CHANGE (R140). A pending MET_OWN change takes effect when its port becomes idle. -/
  | ownershipChange (p : Fin 4)
  /-- TRANSFER_DUE (R144). A group's last transfer reaches INTERVAL and a transfer is queued. -/
  | transferDue (g : GroupNo)
  /-- MET_XFER_GO (R144). A write of GO to MET_XFER_CTRL queues transfers of the masked groups. -/
  | metXferGo (v : Word)
  /-- TRANSFER_START (R145). A queued transfer starts at a slot boundary on a free owned port, pausing rotations. -/
  | transferStart (p : Fin 4)
  /-- TRANSFER_DONE (R146). A transfer's measurements end and its coefficients are accepted or rejected. -/
  | transferDone (p : Fin 4) (refv : Vector Int 17) (refi : Vector Int 17)
  /-- TRANSFER_AGED (R147). An accepted transfer becomes 30 days old and the kind turns TRANSFER_AGED. -/
  | transferAged (g : GroupNo) (voltage : Bool)
  /-- CROSS_CHECK_DONE (R148). A cross-check conversion ends and is compared with the slice average. -/
  | crossCheckDone (p : Fin 4) (code : Int)
  /-- XCHK_TIMEOUT (R149). A cross-check finds no free owned port within 60 s. -/
  | xchkTimeout (n : ChanNo)
  /-- VOLTAGE_TRIP_CROSSING (R164). An OV or UV comparator asserts and the trip window's action applies. -/
  | voltageTripCrossing (n : PhaseNo) (high : Bool)
  /-- WINDOW_CROSSING_END (R157). A comparator de-asserts past its hysteresis and the crossing ends. -/
  | windowCrossingEnd (n : PhaseNo) (voltage : Bool) (high : Bool)
  /-- MOTH_DECISION (R161). A MOTH-mode comparator powers up and decides in its beat. -/
  | mothDecision (n : PhaseNo) (shunt : Int) (cell : Int)
  /-- WINDOW_THRESHOLD_WRITE (R158). A write of a window word loads both DACs or is refused when HIGH ≤ LOW. -/
  | windowThresholdWrite (n : PhaseNo) (w : Fin 3) (v : Word)
  /-- COMPARATOR_SETTLED (R162). A comparator finishes settling in its new mode. -/
  | comparatorSettled (n : PhaseNo)
  /-- TRIP_HOLD_EXPIRY (R168). A tripping window has been out of crossing for HOLD_MS. -/
  | tripHoldExpiry (n : PhaseNo) (w : Fin 3)
  /-- THRESHOLD_READBACK (R172). A threshold DAC readback visit completes and is compared with the code in force. -/
  | thresholdReadback (g : GroupNo) (voltage : Bool) (raws : Vector (BitVec 16) 12)
  /-- BARRIER_TIMEOUT (R198). A barrier wait limit expires and the step is interrupted. -/
  | barrierTimeout (n : ChanNo)
  /-- TEMP_LOST (R188). A reading older than 10 s interrupts a step carrying a TEMP termination. -/
  | tempLost (n : ChanNo)
  /-- REFERENCE_STALE (R235). The OCV reference becomes older than REF_AGE. -/
  | referenceStale (n : ChanNo)
  /-- FORGET (R214). A write of FORGET to CH_EST_CTRL clears the cell's learned state at the next milli boundary. -/
  | forget (n : ChanNo) (v : Word) (cyc : Nat)
  /-- LIFETIME_WRITE (R244). Every 600,000,000 beats the lifetime area is written to the next slot. -/
  | lifetimeWrite
  /-- HS_NTC_CONVERSION (R245). The housekeeping converter measures each enabled heatsink NTC. -/
  | hsNtcConversion (hs : Vector Nat 8) (ntc : Nat) (v : Int) (cur : Int) (vin : Int)
  /-- HS_HISTOGRAM_TICK (R245). Once per second each heatsink reading increments its bin. -/
  | hsHistogramTick
  /-- PERST_N_ASSERT (R251). PERST_N asserted resets the PCI Express core and disables the rings. -/
  | perstNAssert
  /-- HOT_RESET (R251). A hot reset resets the host interface and disables the rings. -/
  | hotReset
  /-- LINK_DOWN (R251). Link down resets the host interface and disables the rings. -/
  | linkDown
  /-- FUNCTION_LEVEL_RESET (R251). A function level reset resets the host interface with the link up. -/
  | functionLevelReset
  /-- D3HOT_TO_D0 (R251). A power state change from D3hot to D0 resets nothing. -/
  | d3hotToD0
  /-- BUS_MASTER_ENABLE_CHANGE (R290). Bus Master Enable changes, stopping or resuming all device memory requests. -/
  | busMasterEnableChange (on : Bool) (msix : Bool) (mask : Bool) (pci : PcieCfg) (clear : BitVec 48)
  /-- HRG_CMDQ_CFG (R254). A write to the CMDQ SIZE enables, disables or is refused. -/
  | hrgCmdqCfg (v : Word)
  /-- HRG_CPLQ_CFG (R254). A write to the CPLQ configuration enables, disables or is refused. -/
  | hrgCplqCfg (v : Word)
  /-- HRG_EVTQ_CFG (R254). A write to the EVTQ configuration enables, disables or is refused. -/
  | hrgEvtqCfg (v : Word)
  /-- HRG_DB_CMDQ (R257). The CMDQ doorbell sets the producer index. -/
  | hrgDbCmdq (v : Word)
  /-- HRG_DB_CPLQ (R257). The CPLQ doorbell sets the consumer index and frees entries. -/
  | hrgDbCplq (v : Word)
  /-- HRG_DB_EVTQ (R257). The EVTQ doorbell sets the consumer index and frees entries. -/
  | hrgDbEvtq (v : Word)
  /-- HRG_DB_TSQ (R300). A TSQ doorbell releases telemetry buffer units. -/
  | hrgDbTsq (k : Fin 8) (v : Word)
  /-- DESCRIPTOR_FETCH (R257). A descriptor read of up to 8 entries completes. -/
  | descriptorFetch (descs : List (List Byte))
  /-- FETCH_ERROR (R290). A descriptor read ends in error and fetching stops with FETCH_ERR. -/
  | fetchError (e : ReadErr)
  /-- NOP (R267). The NOP command completes with no effect. -/
  | nop
  /-- CONFIG_WRITE (R269). CONFIG_WRITE writes register pairs or loads an OCV or grade table. -/
  | configWrite (data : HostData) (cyc : Nat)
  /-- COMMIT (R270). COMMIT commits a mask of channels together, at once or at AT_BEAT. -/
  | commit (data : HostData) (cyc : Nat)
  /-- COMMIT_AT_BEAT (R270). In beat AT_BEAT − 1 before the cutoff the device writes GO for every selected channel. -/
  | commitAtBeat
  /-- RECIPE_LOAD (R271). RECIPE_LOAD checks and stores or deletes a recipe and mirrors it to NV. -/
  | recipeLoad (data : HostData)
  /-- RECIPE_START (R272). RECIPE_START checks and starts a recipe on a channel. -/
  | recipeStart (cyc : Nat)
  /-- CHANNEL_STOP (R273). CHANNEL_STOP stops one or every channel toward REST, OFF or CHRYSALIS. -/
  | channelStop (cyc : Nat)
  /-- CHANNEL_RESUME (R274). CHANNEL_RESUME continues an interrupted recipe at SAME or NEXT. -/
  | channelResume (cyc : Nat)
  /-- READ_STATE (R275). READ_STATE copies channel records snapshotted at one boundary. -/
  | readState (cut : Option Nat)
  /-- LOG_READ (R277). LOG_READ copies NV log records from a sequence number. -/
  | logRead (cut : Option Nat)
  /-- STREAM_CONFIG (R308). STREAM_CONFIG enables or disables a telemetry stream from a stream block. -/
  | streamConfig (data : HostData) (cyc : Nat)
  /-- CAL_SYSTEM (R279). CAL_SYSTEM performs one system calibration step on a port. -/
  | calSystem
  /-- TRAY_AUTH (R497). TRAY_AUTH runs the challenge exchange with a tray tag. -/
  | trayAuth (serial : Option (List Byte)) (ack : Bool)
  /-- LINK_POLICY (R372). LINK_POLICY checks and stores a link port policy block. -/
  | linkPolicy (data : HostData)
  /-- BUDGET_SET (R281). BUDGET_SET writes the governor budget. -/
  | budgetSet
  /-- TIME_SET (R281). TIME_SET sets the RTC and TIME_VALID. -/
  | timeSet
  /-- DIGEST_QUERY (R282). DIGEST_QUERY returns local digests or a domain digest report. -/
  | digestQuery (cut : Option Nat)
  /-- UPDATE_STAGE (R504). UPDATE_STAGE checks and writes one chunk of a firmware image into the inactive bank. -/
  | updateStage (data : HostData)
  /-- UPDATE_ACTIVATE (R508). UPDATE_ACTIVATE sets the staged bank PENDING, locally or across the domain. -/
  | updateActivate
  /-- UPDATE_CONFIRM (R512). UPDATE_CONFIRM confirms the running trial bank and retires the other. -/
  | updateConfirm
  /-- EVENT_RELEASE (R286). When EVTQ room returns, held events are written in order. -/
  | eventRelease
  /-- INTERRUPT_HOLDOFF (R289). MOD_US passes since the first unsignalled entry and the ring's vector is sent. -/
  | interruptHoldoff (evt : Bool)
  /-- BLOCK_WRITE (R297). A staged block is written to host memory, header last, then its vector. -/
  | blockWrite
  /-- TSQ_CFG (R305). A write to TSQk_CFG SIZE enables, disables or is refused. -/
  | tsqCfg (k : Fin 8) (v : Word) (cyc : Nat)
  /-- LINK_RETRAIN (R306). The link retrains to a lower rate and OVERCOMMIT may be posted. -/
  | linkRetrain (speed : Nat) (width : Nat)
  /-- RING_PORT_CHANGE (R310). A beat ring port goes UP or DOWN. -/
  | ringPortChange (ring : Bool) (up : Bool)
  /-- TRAIN_RECEIVE (R314). A train arrives and is forwarded with its ACC updated. -/
  | trainReceive (ring : Bool) (hdr : List Byte) (slots : List (List Byte)) (f : Nat) (t : Int)
  /-- ALIGNED_ENTRY (R322). After 1,000 beats with |e| ≤ 5 ns the member enters ALIGNED. -/
  | alignedEntry
  /-- ALIGNMENT_LOSS (R322). After 16 beats with |e| > 5 ns the member returns to ACQUIRE. -/
  | alignmentLoss
  /-- RING_SWITCH (R320). A member switches the ring it uses. -/
  | ringSwitch
  /-- LEADER_LOST (R338). No valid train from the leader for 16 beats; trim frozen and SEARCH entered. -/
  | leaderLost
  /-- ELECTION_WIN (R317). After 2,000 quiet beats a device whose key is best becomes leader. -/
  | electionWin
  /-- ELECTION_RESTART (R317). No leader train arrives within 2,000 further beats and the election restarts. -/
  | electionRestart
  /-- LEADER_COMPARE (R339). After 16 trains from another leader the two leaders are compared. -/
  | leaderCompare (ring : Bool)
  /-- REEPOCH (R339). An out-of-step member re-epochs once every channel allows it. -/
  | reepoch
  /-- EPOCH (R321). An EPOCH message is received and a member joins or checks its offset. -/
  | epoch (ring : Bool) (addr : Nat) (strap : Bool) (delta : Int)
  /-- INFO (R336). An INFO message carries roster, R_last, LEAD and Q. -/
  | info (ring : Bool) (addr : Nat) (roster : Nat) (rlast : Nat) (lead : Nat) (q : Nat)
  /-- RING_RELEASE (R330). A RELEASE message is received and held or discarded as late. -/
  | ringRelease (ring : Bool) (addr : Nat) (id : Nat) (offset : Nat) (rseq : Nat) (trainBeat : Nat)
  /-- ACTIVATE (R337). An ACTIVATE message with the armed tag is received. -/
  | activate (ring : Bool) (addr : Nat) (tag : Nat) (offset : Nat) (rseq : Nat) (trainBeat : Nat)
  /-- ACTIVATE_COMMIT (R337). In beat N − 1 an armed member writes GO for every masked channel. -/
  | activateCommit
  /-- MISMATCH (R332). A MISMATCH message raises DIGEST_MISMATCH on the member. -/
  | mismatch (ring : Bool) (addr : Nat) (trunc : List Byte)
  /-- UPD_RESET (R514). An UPD_RESET message is received and the member sets its bank PENDING or refuses. -/
  | updReset (ring : Bool) (addr : Nat) (offset : Nat) (rseq : Nat) (manifest : List Byte) (trainBeat : Nat)
  /-- UPD_RESET_ACTION (R514). At beat N a device with a PENDING bank resets. -/
  | updResetAction
  /-- STATUS (R327). The leader receives a member STATUS and updates its roster. -/
  | status (ring : Bool) (addr : Nat) (st : Nat) (flags : Nat) (dly : Nat)
  /-- DIGEST (R332). The leader receives a member's shared truncation. -/
  | digest (ring : Bool) (addr : Nat) (trunc : List Byte)
  /-- BAR_REPORT (R327). The leader receives a barrier report. -/
  | barReport (ring : Bool) (addr : Nat) (id : Nat) (ready : Bool) (waiting : Bool) (digest : List Byte)
  /-- STAGED (R335). The leader receives a STAGED report. -/
  | staged (ring : Bool) (addr : Nat) (tag : Nat) (count : Nat)
  /-- UPD_STAGED_MESSAGE (R337). The leader receives an UPD_STAGED report. -/
  | updStagedMessage (ring : Bool) (addr : Nat) (trunc : List Byte)
  /-- PING (R319). A PING is received and answered with a PONG. -/
  | ping (ring : Bool) (addr : Nat) (seq : Nat) (turn : Nat)
  /-- PONG (R319). A PONG is received and the input cable delay updated. -/
  | pong (ring : Bool) (addr : Nat) (seq : Nat) (turn : Nat) (rt : Nat)
  /-- CLAIM (R317). A CLAIM is received during the election. -/
  | claim (ring : Bool) (addr : Nat) (strap : Bool) (serial : Nat)
  /-- BARRIER_RELEASE_ISSUE (R327). In AUTO mode the leader issues a release once all conditions hold. -/
  | barrierReleaseIssue (id : Nat)
  /-- DOM_BAR_REL (R328). A write to DOM_BAR_REL requests a release in HOST mode. -/
  | domBarRel (v : Word)
  /-- BAR_REPORT_SEND (R326). A device sends BAR_REPORT on a change and every 1,000 beats. -/
  | barReportSend (id : Nat)
  /-- DIGEST_SEND (R332). An aligned member sends DIGEST once per sweep. -/
  | digestSend
  /-- STAGED_SEND (R334). An armed member sends STAGED every 1,000 beats. -/
  | stagedSend
  /-- UPD_STAGED_SEND (R514). An aligned device with a STAGED bank sends UPD_STAGED every 1,000 beats. -/
  | updStagedSend
  /-- PING_SEND (R319). A port sends a PING to measure its input cable. -/
  | pingSend (ring : Bool)
  /-- SWEEP_END (R332). At the end of a digest sweep the leader compares truncations. -/
  | sweepEnd
  /-- DOM_STAGE (R334). A write to DOM_STAGE arms or disarms a staged change. -/
  | domStage (v : Word)
  /-- DOM_ACT_GO (R335). A write of GO to DOM_ACT orders an activation at the leader. -/
  | domActGo (v : Word)
  /-- DOM_ACT_CANCEL (R335). A write of CANCEL to DOM_ACT ends a waiting order. -/
  | domActCancel (v : Word)
  /-- ACTIVATION_SEND (R335). The leader sends ACTIVATE once its conditions are met. -/
  | activationSend
  /-- ACTIVATION_TIMEOUT (R335). Activation conditions not met within 100,000 beats; result INCOMPLETE. -/
  | activationTimeout
  /-- DOM_CTRL_EN (R317). A write of DOM_CTRL.EN enters SEARCH or returns to OFF. -/
  | domCtrlEn (v : Word)
  /-- RLAST_CLR (R336). A write of RLAST_CLR sets R_last to the present roster. -/
  | rlastClr (v : Word)
  /-- DIGEST_RECOMPUTE (R331). A configuration digest is recomputed after a change. -/
  | digestRecompute
  /-- ACC_READING (R345). A link port's filtered ACC reading changes. -/
  | accReading (x : Fin 2) (mv : Int)
  /-- TOGGLE_PERIOD (R346). A dual-role port's alternation switches presentation. -/
  | togglePeriod (x : Fin 2)
  /-- ATTACH_DEBOUNCE (R347). A seen result holds for 100 ms and the port attaches. -/
  | attachDebounce (x : Fin 2)
  /-- DETACH (R347). The partner's presentation is gone for 10 ms and the port detaches. -/
  | detach (x : Fin 2)
  /-- REVERSED_WITHDRAW (R348). REVERSED for 100 ms withdraws the port to NONE. -/
  | reversedWithdraw (x : Fin 2)
  /-- REVERSED_RETURN (R348). ACC within ±0.15 V for 1 s returns a reversed port to SINK. -/
  | reversedReturn (x : Fin 2)
  /-- PACKET_SEND (R353). After 50 µs idle a port starts sending a packet. -/
  | packetSend (x : Fin 2) (v : Int) (cur : Int) (vlink : Int)
  /-- OFFER (R360). An OFFER is received and answered with a BID. -/
  | offer (x : Fin 2) (hdr : Nat) (objs : List Word) (crc : Word)
  /-- BID (R360). A BID is received and answered ACCEPT or REJECT. -/
  | bid (x : Fin 2) (hdr : Nat) (objs : List Word) (crc : Word)
  /-- ACCEPT (R360). An ACCEPT is received. -/
  | accept (x : Fin 2) (hdr : Nat) (objs : List Word) (crc : Word)
  /-- REJECT (R360). A REJECT is received. -/
  | reject (x : Fin 2) (hdr : Nat) (objs : List Word) (crc : Word)
  /-- LIVE (R360). A LIVE is received by the sink. -/
  | live (x : Fin 2) (hdr : Nat) (objs : List Word) (crc : Word)
  /-- ASK_OFFER (R374). An ASK_OFFER is received and answered with an OFFER. -/
  | askOffer (x : Fin 2) (hdr : Nat) (objs : List Word) (crc : Word)
  /-- SWAP_REQ (R366). A SWAP_REQ is received and answered ACCEPT, WAIT or REJECT. -/
  | swapReq (x : Fin 2) (hdr : Nat) (objs : List Word) (crc : Word)
  /-- WAIT (R366). A WAIT is received. -/
  | wait (x : Fin 2) (hdr : Nat) (objs : List Word) (crc : Word)
  /-- ACCORD_RELEASE (R362). A RELEASE is received, ending a contract. -/
  | accordRelease (x : Fin 2) (hdr : Nat) (objs : List Word) (crc : Word)
  /-- UNHANDLED (R354). An UNHANDLED is received. -/
  | unhandled (x : Fin 2) (hdr : Nat) (objs : List Word) (crc : Word)
  /-- UNKNOWN_PACKET (R354). A packet with an unknown type, count or role is acknowledged and answered UNHANDLED. -/
  | unknownPacket (x : Fin 2) (hdr : Nat) (objs : List Word) (crc : Word)
  /-- ECHO (R352). An ECHO is received and matched against the packet sent. -/
  | echo (x : Fin 2) (hdr : Nat) (objs : List Word) (crc : Word)
  /-- HARD_RESET_RECEIVED (R370). A hard-reset ordered set is received. -/
  | hardResetReceived (x : Fin 2)
  /-- ECHO_TIMEOUT (R352). No matching ECHO within 0.8 ms; retry or link error. -/
  | echoTimeout (x : Fin 2)
  /-- ANSWER_TIMEOUT (R353). No answer within 30 ms; a hard reset is sent. -/
  | answerTimeout (x : Fin 2)
  /-- OFFER_REPEAT (R352). Before the first acknowledgement the source repeats OFFER every 1 s. -/
  | offerRepeat (x : Fin 2)
  /-- DRAIN_COMPLETE (R358). The cable reads below VDRAIN for 10 ms and the source closes its switch. -/
  | drainComplete (x : Fin 2) (v : Int) (vlink : Int)
  /-- DRAIN_TIMEOUT (R358). The cable has not drained within 600 ms; LINK_DRAIN raised. -/
  | drainTimeout (x : Fin 2)
  /-- PRECHARGE_DONE (R358). The cable reaches VLINK within 1 V and default power begins. -/
  | prechargeDone (x : Fin 2) (v : Int) (vlink : Int)
  /-- PRECHARGE_TIMEOUT (R358). Precharge not done within 250 ms; switch opened and hard reset. -/
  | prechargeTimeout (x : Fin 2)
  /-- DEFAULT_OVERCURRENT (R358). Without a contract, link current above 2.2 A for 1 ms opens the switch. -/
  | defaultOvercurrent (x : Fin 2) (cur : Int)
  /-- SETTLE_TIMEOUT (R360). The source cannot send LIVE within tSettle and sends RELEASE. -/
  | settleTimeout (x : Fin 2)
  /-- LIVE_TIMEOUT (R365). The sink receives no LIVE within 300 ms and sends a hard reset. -/
  | liveTimeout (x : Fin 2)
  /-- SINK_CLOSE (R360). The sink's close conditions hold and it drives LKG_x high. -/
  | sinkClose (x : Fin 2) (v : Int) (vlink : Int)
  /-- CLOSE_TIMEOUT (R365). The sink cannot close within 250 ms of LIVE and sends RELEASE. -/
  | closeTimeout (x : Fin 2)
  /-- WINDOW_VIOLATION (R361). The cable voltage stays outside the window for 10 ms during a contract. -/
  | windowViolation (x : Fin 2) (v : Int)
  /-- CONTRACT_OVERCURRENT (R361). Contract-direction current above 1.1 × the contract for 1 ms. -/
  | contractOvercurrent (x : Fin 2) (cur : Int)
  /-- REVERSE_FLOW (R361). Current against the contract above 2 A for 100 ms. -/
  | reverseFlow (x : Fin 2) (cur : Int)
  /-- NO_FLOW (R361). Contract-direction current below 2 A for 10 s. -/
  | noFlow (x : Fin 2) (cur : Int)
  /-- SOURCE_VLINK_FAULT (R361). The source's VLINK lies outside 12 to 60 V for 10 ms. -/
  | sourceVlinkFault (x : Fin 2) (vlink : Int)
  /-- LINK_OCP_TRIP (R344). The link over-current comparator drives LKG_x low within 2 µs. -/
  | linkOcpTrip (x : Fin 2) (cur : Int)
  /-- SWAP_HANDOVER (R367). After the cable drains during a swap the ports exchange presentations. -/
  | swapHandover (x : Fin 2) (v : Int)
  /-- SWAP_TIMEOUT (R367). The new roles are not seen within 50 ms, or the drain takes too long; hard reset. -/
  | swapTimeout (x : Fin 2)
  /-- SWAP_BACKOFF_END (R366). The 2 s or 30 s SWAP_REQ holdoff expires. -/
  | swapBackoffEnd (x : Fin 2)
  /-- HARD_RESET_RECOVERY (R370). After 1 s with the cable drained the port restarts from attach. -/
  | hardResetRecovery (x : Fin 2) (v : Int)
  /-- ROLE_HOLD_EXPIRY (R370). A dual-role port not attached 1 s after recovery returns to TOGGLE. -/
  | roleHoldExpiry (x : Fin 2)
  /-- EXPORT_DESIRE (R374). Export desire is set or cleared by its VLINK timers. -/
  | exportDesire (x : Fin 2) (on : Bool) (vlink : Int)
  /-- IMPORT_DESIRE (R374). Import desire is set or cleared by its VLINK timers. -/
  | importDesire (x : Fin 2) (on : Bool) (vlink : Int)
  /-- ASK_OFFER_REPEAT (R374). A sink with import desire repeats ASK_OFFER every 10 s. -/
  | askOfferRepeat (x : Fin 2)
  /-- POLICY_APPLY (R373). An accepted policy takes effect when the exchange in progress ends. -/
  | policyApply (x : Fin 2)
  /-- LNK_CTRL_EN (R376). A write of LNK_CTRL.EN switches between FIXED and policy, or leaves LOCKOUT. -/
  | lnkCtrlEn (x : Fin 2) (v : Word)
  /-- LNK_CTRL_HRST (R369). A write of HRST sends a hard reset. -/
  | lnkCtrlHrst (x : Fin 2) (v : Word)
  /-- LNK_CTRL_SWAP (R374). A write of SWAP sends SWAP_REQ. -/
  | lnkCtrlSwap (x : Fin 2) (v : Word)
  /-- LNK_CTRL_REL (R374). A write of REL sends RELEASE with reason HOST. -/
  | lnkCtrlRel (x : Fin 2) (v : Word)
  /-- MAIN_LOST (R392). Main is detected lost; charger stopped, IDG low and the state action applied. -/
  | mainLost (byOk : Bool)
  /-- MAIN_RETURNED (R393). Main stays valid for 50 ms and counts as returned. -/
  | mainReturned
  /-- RIDE_THROUGH_END (R396). The ride-through window ends without main returned. -/
  | rideThroughEnd
  /-- VSTOP_REACHED (R395). VHOLD below VSTOP for 1 ms starts the orderly stop early. -/
  | vstopReached (v : Int)
  /-- VLINK_COLLAPSE (R395). VLINK below 10 V for 1 ms starts the orderly stop early. -/
  | vlinkCollapse (v : Int)
  /-- SAVE_SEAL (R398). The save image is sealed and what follows the seal begins. -/
  | saveSeal
  /-- IDEAL_DIODE_REVERSE (R382). Reverse current turns the path FET off within 1 µs. -/
  | idealDiodeReverse
  /-- CHG_EN_WRITE (R385). A write of CHG_EN stops the charger or sends it to DETECT. -/
  | chgEnWrite (v : Word)
  /-- CHG_SHORT_TEST_END (R385). The 100 ms short test ends in precharge or FAULT_SHORT. -/
  | chgShortTestEnd (vhold : Int)
  /-- CHG_PRECHARGE_END (R385). VHOLD above VPRE for 1 s moves precharge to FAST. -/
  | chgPrechargeEnd (vhold : Int)
  /-- CHG_PRECHARGE_TIMEOUT (R385). One hour in PRECHARGE raises CHG_TIMER. -/
  | chgPrechargeTimeout
  /-- CHG_VREG_REACHED (R385). VHOLD reaches VREG and the charger enters CV. -/
  | chgVregReached (vhold : Int)
  /-- CHG_TERMINATION (R385). Cell current ≤ ITERM for 60 s ends charging in DONE. -/
  | chgTermination (cur : Int)
  /-- CHG_SAFETY_TIMER (R389). The safety timer T or W expires and raises CHG_TIMER. -/
  | chgSafetyTimer
  /-- CHG_NTC_RANGE (R388). The cell NTC range changes, suspending or resuming charging. -/
  | chgNtcRange (st : Nat) (t : Int)
  /-- CHG_NTC_RECOVERED (R385). A valid NTC reading for 10 s leaves FAULT_NTC. -/
  | chgNtcRecovered (t : Int)
  /-- CHG_RECHARGE (R385). The resting voltage below VRECH for 10 s starts a new cycle. -/
  | chgRecharge (v : Int)
  /-- PRESENCE_TEST (R386). The once-per-second presence test loads VHOLD and judges the cell. -/
  | presenceTest (v0 : Int) (v2 : Int)
  /-- LEARN (R391). A write of LEARN in DONE starts a holdup capacity learning cycle. -/
  | learn (v : Word)
  /-- LEARN_ABORT (R391). A write of ABORT ends a learning cycle without a result. -/
  | learnAbort (v : Word)
  /-- HOLDUP_LEARN_REST (R391). The learning rest of REST_MIN ends and the second reference gives the capacity. -/
  | holdupLearnRest
  /-- RTC_SWITCH (R402). The RTC domain switches between VBACK and VRTC. -/
  | rtcSwitch (toVrtc : Bool)
  /-- RTC_RESET (R403). VRTCD below 1.6 V resets the RTC domain. -/
  | rtcReset
  /-- RTC_SECOND (R404). The calendar advances by one second. -/
  | rtcSecond
  /-- RTC_OSC_FAIL (R404). XRTC_I shows no edge for 1 s and TIME_VALID clears. -/
  | rtcOscFail
  /-- RTC_SUBSEC_READ (R405). A read of RTC_SUBSEC freezes the calendar shadows. -/
  | rtcSubsecRead (sub : Nat)
  /-- RTC_YEAR_READ (R405). A read of RTC_YEAR releases the shadows. -/
  | rtcYearRead
  /-- SHADOW_TIMEOUT (R405). The shadows are released 2 ms after the freeze. -/
  | shadowTimeout
  /-- RTC_LOAD (R406). A write of LOAD checks and loads the set buffer. -/
  | rtcLoad (v : Word)
  /-- VBACK_VALID (R411). VBACK first becomes valid and the sequencer profile is read. -/
  | vbackValid (crcOk : Bool)
  /-- POWER_UP_START (R413). The conditions of a common start hold and a power-up begins. -/
  | powerUpStart
  /-- SLOT_ON (R413). A slot's on-delay elapses and RAIL_ENk rises. -/
  | slotOn (k : Fin 12) (t : Nat)
  /-- PG_CHANGE (R410). A slot's filtered power-good reading changes. -/
  | pgChange (k : Fin 12) (mv : Nat) (t : Nat)
  /-- PG_TIMEOUT (R414). A slot is not good at its deadline. -/
  | pgTimeout (k : Fin 12) (t : Nat)
  /-- FLT_EXT (R416). FLT_N read low for 20 µs while not driven by this device. -/
  | fltExt
  /-- SLOT_OFF (R416). A slot's off-delay elapses and RAIL_ENk falls. -/
  | slotOff (k : Fin 12) (t : Nat)
  /-- OFF_TIMEOUT (R418). A slot has not counted as off at its off deadline: STUCK_ON. -/
  | offTimeout (k : Fin 12) (t : Nat)
  /-- GAP_END (R419). The retry gap ends and FLT_N is released for a new power-up. -/
  | gapEnd
  /-- RETRY_COUNT_RESET (R419). After 10 s of ON the retry count returns to 0. -/
  | retryCountReset
  /-- FLT_N_RISE (R420). FLT_N rises and waiting devices start together. -/
  | fltNRise
  /-- RESET_RELEASE (R423). A board reset's masked slots stay good for STRETCH and BRST_Nj releases. -/
  | resetRelease (j : Fin 4)
  /-- SEQ_RST_HOLD (R423). A write of HOLD to SEQ_RSTj forces BRST_Nj low. -/
  | seqRstHold (j : Fin 4) (v : Word)
  /-- MARGIN_WRITE (R425). A write to SEQ_MARGk sets a margin target. -/
  | marginWrite (k : Fin 12) (v : Word)
  /-- MARGIN_STEP (R425). Every 100 µs the applied margin code moves one step. -/
  | marginStep
  /-- PROFILE_STORE (R411). A write of STORE copies the sequencer profile to NV. -/
  | profileStore (v : Word) (ok : Bool)
  /-- SUPPLIES_VALID (R434). All core supplies stay in range for 1 ms and self-test starts. -/
  | suppliesValid (durUs : Nat) (pins : Pins)
  /-- SELFTEST_STEP_DONE (R434). A self-test step completes and the next runs or the outcome state is entered. -/
  | selftestStepDone (r : StepResult)
  /-- GLB_RESET (R432). GLB_CTRL.RESET with KEY 0x5A resets the device in COCOON or READY. -/
  | glbReset (v : Word)
  /-- GLB_CHRYSALIS (R432). GLB_CTRL.CHRYSALIS enters DEVICE_CHRYSALIS or is refused. -/
  | glbChrysalis (v : Word)
  /-- GLB_WAKE (R432). GLB_CTRL.WAKE leaves DEVICE_CHRYSALIS. -/
  | glbWake (v : Word)
  /-- CORE_SUPPLY_FAULT (R432). A core supply leaves its range for 10 µs and the core resets. -/
  | coreSupplyFault
  /-- CENSUS_ACCEPT (R443). A write of ACCEPT stores the present census as the baseline. -/
  | censusAccept (v : Word)
  /-- NO_PULSE_WRITE (R442). A write of NO_PULSE is stored in NV for later starts. -/
  | noPulseWrite (v : Word)
  /-- SVC_DATA_LO_READ (R448). A read of GLB_SVC_DATA_LO fetches an NV word and captures its high half. -/
  | svcDataLoRead (err : Bool)
  /-- SVC_DATA_HI_READ (R448). A read of GLB_SVC_DATA_HI returns the high half and advances INDEX. -/
  | svcDataHiRead
  /-- HOLD_RESPONDER_READ (R445). The hardwired responder answers a service port read in OTP_HOLD. -/
  | holdResponderRead (n : Nat)
  /-- SUPPLY_MONITOR_TRIP (R457). A supply monitor sees a rail out of its range and raises its fault source. -/
  | supplyMonitorTrip (k : Fin 6) (mv : Nat)
  /-- CLOCK_MONITOR_TRIP (R457). The clock monitor or a PLL loses the main clock. -/
  | clockMonitorTrip (pll : Bool) (refin : Bool)
  /-- DIE_OVERTEMP (R457). The on-die sensor crosses 132 °C or falls below 127 °C. -/
  | dieOvertemp (t : Int)
  /-- FLT_HIT_CLEAR (R453). A W1C write to FLT_HITj acknowledges sources so tripped channels may leave. -/
  | fltHitClear (j : Fin 4) (v : Word)
  /-- FLT_FIRST_CLEAR (R459). A write of VALID clears the first-fault record and OVF. -/
  | fltFirstClear (v : Word)
  /-- FLT_SOFT (R462). A write to FLT_SOFT raises software fault sources. -/
  | fltSoft (v : Word)
  /-- FLT_INJECT (R463). A write to FLT_INJECT raises a source in factory test mode or is refused. -/
  | fltInject (v : Word)
  /-- FLT_TESTKEY (R463). A write of the test key enters factory test mode. -/
  | fltTestkey (v : Word)
  /-- FLT_SEV_WRITE (R456). A write to FLT_SEVj stores severities no lower than their floors. -/
  | fltSevWrite (j : Fin 16) (v : Word)
  /-- WB_RESTART (R465). A write of RESTART restarts WINGBEAT or is refused. -/
  | wbRestart (v : Word)
  /-- WB_HOLD (R466). A write of HOLD holds or releases FAULT_N. -/
  | wbHold (v : Word)
  /-- WINGBEAT_TOGGLE (R464). Every 512 µs the running WINGBEAT output toggles. -/
  | wingbeatToggle
  /-- FAULT_N_PULSE_END (R466). The 128 µs FAULT_N pulse ends; the ball holds or releases. -/
  | faultNPulseEnd
  /-- CONFIG_CHECK (R461). Every 10 ms the safety monitor compares protected registers with its record. -/
  | configCheck
  /-- HEARTBEAT (R461). The 1 ms heartbeat exchange is checked; three missed raise SAFETY_ALIVE. -/
  | heartbeat (ok : Bool)
  /-- IC_T2_CLAIM (R471). A read of IC_T2_CLAIM claims the highest deliverable T2 source. -/
  | icT2Claim
  /-- IC_T2_COMPLETE (R472). A write to IC_T2_COMPLETE ends service of an active source. -/
  | icT2Complete (v : Word)
  /-- IC_SRC_WRITE (R474). A write to IC_SRCk sets sense, target and priority within the routing limits. -/
  | icSrcWrite (k : Fin 64) (v : Word)
  /-- WDT_EN (R477). A write of WDT_CTRL.EN starts the watchdog. -/
  | wdtEn (v : Word)
  /-- WDT_KEY (R479). A key word is written to WDT_KEY and checked. -/
  | wdtKey (v : Word)
  /-- WDT_CHECKIN (R480). A task checks in for the window. -/
  | wdtCheckin (v : Word)
  /-- WDT_OPEN (R478). The open part of a watchdog window begins. -/
  | wdtOpen
  /-- WDT_EARLY (R478). Half the open part passes without a key. -/
  | wdtEarly
  /-- WDT_WINDOW_END (R481). A watchdog window ends without an accepted key. -/
  | wdtWindowEnd
  /-- WDT_KEY_TIMEOUT (R481). No second key word within 1 ms of the first. -/
  | wdtKeyTimeout
  /-- WDT_DEFERRED_EXPIRY (R483). An expiry deferred for an NV operation acts when it completes. -/
  | wdtDeferredExpiry
  /-- SUPERVISOR_RESTART (R482). Galdor is back after a supervisor-only reset and aborts commands left running. -/
  | supervisorRestart
  /-- OTP_BURN (R487). SEC_OTP_CMD with OP BURN checks and starts an OTP burn. -/
  | otpBurn (v : Word)
  /-- OTP_FINALISE (R488). SEC_OTP_CMD with OP FINALISE burns a region's digest and FINAL bit. -/
  | otpFinalise (v : Word)
  /-- OTP_READ (R486). SEC_OTP_CMD with OP READ reads a logical word into SEC_OTP_RD. -/
  | otpRead (v : Word)
  /-- OTP_OPERATION_DONE (R487). An OTP burn or finalise completes and is verified. -/
  | otpOperationDone (fails : List (Nat × Word × Word))
  /-- ATTEST (R493). A write of ATTEST starts signing the nonce. -/
  | attest (v : Word)
  /-- ATTEST_DONE (R493). The attestation signature is ready and ATT_DONE set. -/
  | attestDone
  /-- DBG_OPEN (R494). A write of DBG_OPEN with KEY 0xD5 opens debug access when allowed. -/
  | dbgOpen (v : Word)
  /-- DEBUG_ACCESS (R494). An access on the debug port is allowed or refused with DEBUG_ATTEMPT. -/
  | debugAccess (q : DebugReq)
  /-- TRAY_MAP_WRITE (R495). A write to SEC_TRAYt_MAPj maps channels or is refused whole. -/
  | trayMapWrite (t : Fin 4) (j : Fin 5) (v : Word)
  /-- TRAY_REMOVED (R496). TRAYPRESt high for 100 µs removes the tray and stops its channels. -/
  | trayRemoved (t : Fin 4)
  /-- TRAY_INSERTED (R496). TRAYPRESt low for 100 ms inserts the tray. -/
  | trayInserted (t : Fin 4) (serial : Option (List Byte)) (ack : Bool)
  /-- TAG_RESPONSE_READ (R497). The tag response read is attempted 20 ms after the challenge and retried every 10 ms. -/
  | tagResponseRead (t : Fin 4) (resp : Option (List Byte)) (late : Bool)
  /-- TW_XCTL_GO (R529). A write of GO to TW_XCTLb starts or refuses a host transfer. -/
  | twXctlGo (b : Fin 5) (v : Word)
  /-- TW_TRANSFER_DONE (R529). A host transfer ends and TW_XRES reports its result. -/
  | twTransferDone (b : Fin 5) (res : Nat) (idx : Nat) (rd : List Byte)
  /-- POLL_PERIOD (R526). A tray bus poll period starts and its mapped sensor reads are queued. -/
  | pollPeriod (b : Fin 4)
  /-- POLL_READ_DONE (R528). A sensor poll read ends good or failed and updates mapped channels. -/
  | pollReadDone (b : Fin 4) (rd : Option (BitVec 16))
  /-- SCL_TIMEOUT (R523). SCL held low for SCL_TMO aborts the transfer. -/
  | sclTimeout (b : Fin 6)
  /-- SDA_TIMEOUT (R524). SDA held low for SDA_TMO sets SDA_STUCK and a controller clears the bus. -/
  | sdaTimeout (b : Fin 6) (cleared : Bool)
  /-- ARBITRATION_LOST (R531). The device loses board bus arbitration and stops driving. -/
  | arbitrationLost
  /-- ARBITRATION_RETRY (R532). A lost host transfer is retried once the bus is free. -/
  | arbitrationRetry
  /-- POINTER_FRAME (R535). A 3-byte write frame sets the target's pointer. -/
  | pointerFrame (svc : Bool) (off : Nat) (stop : Bool)
  /-- WRITE_FRAME (R535). A WRITE frame ends with a STOP and its words are checked and written. -/
  | writeFrame (svc : Bool) (bytes : List Byte) (stop : Bool) (cyc : Nat)
  /-- READ_WORD (R536). The target fetches and sends a word from the pointer. -/
  | readWord (svc : Bool) (first : Bool)
  /-- CH_TSENS_WRITE (R525). A write to CH_TSENS maps a sensor to a channel and clears its reading. -/
  | chTsensWrite (n : ChanNo) (v : Word)
  /-- REGISTER_WRITE (R13). A BAR0 write to a register with no row of its own acts under its access code. -/
  | registerWrite (off : Nat) (v : Word) (cyc : Nat) (width : Nat)
  /-- PCIE_LINK_UP (R436). The PCI Express link completes training and reaches L0, which step 11 records and which asserts interrupt source 46. -/
  | pcieLinkUp (speed : Nat) (width : Nat)
  /-- PERST_N_DEASSERT (R561). PERST_N rises and link training starts within 3 ms, with configuration requests answered from 20 ms after. -/
  | perstNDeassert
  /-- D0_TO_D3HOT (R247). The host moves the function to D3hot, after which WAKE_N is asserted while PME_En is set and a T2 interrupt is pending. -/
  | d0ToD3hot (pme : Bool)
  /-- VBACK_LOST (R381). VBACK falls away because both VCHG_IN and VHOLD are gone, resetting the always-on domain and ending any unsealed save. -/
  | vbackLost
  /-- NV_DONE (R283). An NV program and verify operation completes, so that a background UPDATE_STAGE chunk or another NV-bound command completes and a deferred watchdog expiry may act. -/
  | nvDone (ok : Bool)
  /-- DIE_THERMAL (R475). The on-die sensor crosses 120 °C and asserts interrupt source 39. -/
  | dieThermal
  /-- THERM_LIM (R388). The die crosses HLD_TIMER.TREG and the charger starts or stops reducing cell current, setting or clearing THERM_LIM. -/
  | thermLim (on : Bool)
  /-- SUPPLY_MONITOR_RECOVERY (R457). A monitored rail returns inside its range and its level fault source stops being ACTIVE. -/
  | supplyMonitorRecovery (k : Fin 6)
deriving DecidableEq, Repr

end Sys2Proof
end

