-- ==== Sys2Proof/Decode.lean ====
section
/-!
DEFINITION. The decoder of the block. No row of spec/opcode_table.json gives bits: commands reach the device as register
writes, messages and pin events, never as words, so no word spells a command (log entry 2).
-/
namespace Sys2Proof

/-- The command that a word spells by the table's bits: none. -/
def decodeTableWord (_nbits _w : Nat) : Option Instr := none

end Sys2Proof
end

