-- ==== Sys2Proof/Config.lean ====
section
/-!
DEFINITION. The values that the spec leaves open, as constants without a body: nothing can evaluate them, so a
statement that mentions one holds whatever it is. Each is named in a row of notes/assumptions.
-/
namespace Sys2Proof.Config

/-- Whether a quotient whose rounding the spec does not state rounds away from zero, by its numerator and denominator:
R209 gives the accumulator 32 fractional bits and no rounding rule, and so do some means and rates (log entry 3). -/
opaque roundUp : Int → Int → Bool

/-- The state of charge, in 0.01 %, that an OCV outside the range of its table or on a flat part of it gives: R232 of
spec/07_estimation_grading.md asks for the inverse of the table by linear interpolation between its points, which such
a value does not fix (log entry 11). -/
opaque socUnfixed : Int → BitVec 16

/-- DATA byte 0 of the STOP event of an orderly stop that the sequencer orders before a fault power-down: R408 of
spec/12_holdup_rtc.md codes five causes and R416 of spec/13_rail_sequencer.md orders this one (log entry 8). -/
opaque stopDataSequencer : Byte

/-- By how much, in 0.01 °C, a reading differs from the Beta equation of R245 of spec/07_estimation_grading.md, by the Beta
constant in K, the resistance at 25 °C in 100 Ω and the ratio of the reference in millionths: the spec gives a band of ±1 K, to
which the model limits it (log entry 12). -/
opaque ntcError : Nat → Nat → Nat → BitVec 16

/-- The reading, in 0.01 °C, outside the range for which R245 gives the band, and where the Beta equation has no value (log
entry 12). -/
opaque ntcTemp : Nat → Nat → Nat → BitVec 16

/-- The built-in OCV table of the holdup cell (R390 of spec/12_holdup_rtc.md) by chemistry and point, µV: the spec names it
and does not print it; its temperature coefficient is the value at 21 (log entry 13). -/
opaque holdupOcv : Bool → Nat → BitVec 32

/-- DATA byte 0 of an OVERCOMMIT event (R303 of spec/09_telemetry.md), by the event's SEQ: the byte holds "the stream", and
the event concerns the sum of all of them (log entry 15). -/
opaque overcommitStream : BitVec 32 → Byte

/-- What the TRNG of R492, R493 and R497 of spec/16_security_update.md draws, by the number of draws made (log entry 16). -/
opaque trng : Nat → BitVec 256

/-- The bits of a burn under way that a reset finds burnt, by draw and word: R516 of spec/16_security_update.md keeps those
burnt and does not say which they are (log entry 17). -/
opaque tornBurn : Nat → Nat → BitVec 32

/-- The SHA-256 hash of the Darfibel update key in ROM (R492 of spec/16_security_update.md), byte by byte: the spec names it
and does not print it (log entry 18). -/
opaque romKeyHash : Nat → Byte

/-- TW_XRES.RESULT of a host transfer that a restart of Galdor abandons (R482 of spec/15_faults_interrupts_watchdog.md), by
draw: the spec states no result for it (log entry 19). -/
opaque abandonedTransfer : Nat → BitVec 4

/-- The cause that LINK_HARD_RESET carries where no bullet of R369 names the case: 0 a received ordered set, 1 LIVE missing at
the sink (R365), 2 the source's VLINK out of range (R361); free (log entry 77). -/
opaque hardResetCause : Nat → Byte

/-- The PRIO that Galdor gives a source of T0 or T1 before READY (R475 of spec/15_faults_interrupts_watchdog.md), by target and
number: the spec states no value (log entry 80). -/
opaque galdorPrio : Nat → Nat → BitVec 4

end Sys2Proof.Config
end

