-- ==== Sys2Proof/Machine/Bits.lean ====
section
/-!
DEFINITION. Bit fields, byte order and integer division of the register and record layouts (spec/00_scope.md,
"Notation": fields [msb:lsb], multi-byte fields little-endian; divisions round as each rule says).
-/
namespace Sys2Proof.Machine

/-- Bit `i` of a word. -/
def bit (w : Word) (i : Nat) : Bool := w.getLsbD i

/-- The field of `n` bits from bit `lo` upward, as a number. -/
def fld (w : Word) (lo n : Nat) : Nat := (w.toNat / 2 ^ lo) % 2 ^ n

/-- The value `v` placed at bit `lo` of a word. -/
def at_ (v lo : Nat) : Word := BitVec.ofNat 32 (v * 2 ^ lo)

/-- A single flag placed at bit `lo`. -/
def flagAt (b : Bool) (lo : Nat) : Word := if b then BitVec.ofNat 32 (2 ^ lo) else 0

/-- A write under a mask: the masked bits take the written value, the others stay (R13, R14). -/
def maskWrite (old new mask : Word) : Word := (old &&& ~~~mask) ||| (new &&& mask)

/-- The two's complement reading of the low `n` bits of `v`. -/
def signed (n v : Nat) : Int :=
  let m := v % 2 ^ n
  if m < 2 ^ (n - 1) then (m : Int) else (m : Int) - (2 ^ n : Nat)

/-- A signed 32-bit register value (R8). -/
def sword (w : Word) : Int := w.toInt

/-- The 32-bit register word of an integer (R8). -/
def wordOf (i : Int) : Word := BitVec.ofInt 32 i

/-- Division that rounds toward zero. -/
def divZero (a b : Int) : Int := Int.tdiv a b

/-- Division that rounds to nearest, halves away from zero. -/
def divRound (a b : Int) : Int :=
  if b = 0 then 0
  else
    let s : Int := (if a < 0 then -1 else 1) * (if b < 0 then -1 else 1)
    s * (((2 * a.natAbs + b.natAbs) / (2 * b.natAbs) : Nat) : Int)

/-- A division whose rounding the spec leaves open: the quotient toward zero, or one more away from it (log entry 3). -/
def openDiv (num den : Int) : Int :=
  let q := Int.tdiv num den
  if q * den = num then q
  else if Config.roundUp num den then (if (num < 0) = (den < 0) then q + 1 else q - 1) else q

/-- Division of naturals that rounds up. -/
def ceilDiv (a b : Nat) : Nat := if b = 0 then 0 else (a + b - 1) / b

/-- A value limited to the range `lo` to `hi`. -/
def clampInt (lo hi v : Int) : Int := max lo (min hi v)

/-- The absolute value as an integer. -/
def absI (v : Int) : Int := (v.natAbs : Int)

/-- `n` little-endian bytes of a number. -/
def leBytes : Nat → Nat → List Byte
  | 0, _ => []
  | n + 1, v => BitVec.ofNat 8 v :: leBytes n (v / 256)

/-- The number that little-endian bytes spell. -/
def leNat : List Byte → Nat
  | [] => 0
  | b :: bs => b.toNat + 256 * leNat bs

/-- `n` bytes of `bs` from offset `off`, missing bytes reading 0. -/
def slice (bs : List Byte) (off n : Nat) : List Byte :=
  let t := (bs.drop off).take n
  t ++ List.replicate (n - t.length) 0

/-- The little-endian number in `n` bytes at offset `off` of a record. -/
def getLe (bs : List Byte) (off n : Nat) : Nat := leNat (slice bs off n)

/-- The signed little-endian number in `n` bytes at offset `off` of a record. -/
def getLeS (bs : List Byte) (off n : Nat) : Int := signed (8 * n) (getLe bs off n)

/-- A list of bytes cut or padded with 0 to exactly `n`. -/
def padTo (n : Nat) (bs : List Byte) : List Byte := slice bs 0 n

/-- One step of the reflected CRC-32 of IEEE 802.3 over a register `c`. -/
def crc32Bit (c : BitVec 32) : BitVec 32 :=
  if c.getLsbD 0 then (c >>> 1) ^^^ 0xEDB88320#32 else c >>> 1

/-- One byte of the CRC-32. -/
def crc32Byte (c : BitVec 32) (b : Byte) : BitVec 32 :=
  let c := c ^^^ b.setWidth 32
  crc32Bit (crc32Bit (crc32Bit (crc32Bit (crc32Bit (crc32Bit (crc32Bit (crc32Bit c)))))))

/-- The CRC-32 as used by IEEE 802.3 (R177). -/
def crc32 (bs : List Byte) : BitVec 32 := ~~~(bs.foldl crc32Byte 0xFFFFFFFF#32)

/-- One bit step of the CRC-8 of R108: polynomial 0x07, no reflection. -/
def crc8Bit (c : BitVec 8) : BitVec 8 :=
  if c.getLsbD 7 then (c <<< 1) ^^^ 0x07#8 else c <<< 1

/-- The CRC-8 of R108 over bytes in transmitted order. -/
def crc8 (bs : List Byte) : BitVec 8 :=
  bs.foldl (fun c b =>
    let c := c ^^^ b
    crc8Bit (crc8Bit (crc8Bit (crc8Bit (crc8Bit (crc8Bit (crc8Bit (crc8Bit c)))))))) 0

/-- A counter that stops at `top`. -/
def satInc (top v : Nat) : Nat := if v < top then v + 1 else top

/-- The indices below `n` of a fixed array. -/
def allFin (n : Nat) : List (Fin n) := List.finRange n

/-- A number made an index of a fixed array, where it is one. -/
def finOf (n v : Nat) : Option (Fin n) := if h : v < n then some ⟨v, h⟩ else none

end Sys2Proof.Machine
end

