-- ==== Sys2Proof/Machine/TypesCore.lean ====
section
/-!
DEFINITION. Events, log records, interrupt, fault, watchdog and device-state types (spec/14_startup_cocoon.md,
spec/15_faults_interrupts_watchdog.md; events R284 to R287 of spec/08_host_rings.md; log R427 of
spec/13_rail_sequencer.md).
-/
namespace Sys2Proof.Machine

/-- Subject kinds of events and fault sources (R284). -/
inductive Kind where
  | device | channel | phase | group | engine | port | faultSource | tray | slot
deriving DecidableEq, Repr

/-- The EVTQ KIND code of R284. -/
def Kind.code : Kind → Nat
  | .device => 0 | .channel => 1 | .phase => 2 | .group => 3 | .engine => 4
  | .port => 5 | .faultSource => 6 | .tray => 7 | .slot => 8

/-- An event as it is raised (R284, R285): the beat in which it arose, its subject, its type, its device-wide
number and its DATA bytes. -/
structure Event where
  beat : Beat
  kind : Kind
  subject : Nat
  typ : Nat
  seq : BitVec 32
  data : List Byte
deriving DecidableEq, Repr

/-- An event a channel job asks for; it is raised at the boundary at which the job's half is taken. -/
structure EvReq where
  beat : Beat
  kind : Kind
  subject : Nat
  typ : Nat
  data : List Byte
deriving DecidableEq, Repr

/-- A record of the NV log (R427). `slot` is its physical position in the ring of 2,048 records. -/
structure LogRec where
  slot : Nat
  seq : BitVec 32
  time : BitVec 32
  beat : BitVec 64
  source : Nat
  code : Nat
  flags : Nat
  data : List Byte
deriving DecidableEq, Repr

/-- The NV log: valid records oldest first, the write position, the next SEQ (R427, R428). -/
structure NvLog where
  recs : List LogRec
  pos : Nat
  nextSeq : BitVec 32
deriving DecidableEq, Repr

/-- Device states (R432). -/
inductive DevState where
  | powerup | otpHold | selftest | cocoon | ready | active | rideThrough | orderlyStop | chrysalis
deriving DecidableEq, Repr

/-- GLB_STATE.STATE codes (spec/14 "Global state registers"). -/
def DevState.code : DevState → Nat
  | .powerup => 0 | .otpHold => 1 | .selftest => 2 | .cocoon => 3 | .ready => 4 | .active => 5
  | .rideThrough => 6 | .orderlyStop => 7 | .chrysalis => 8

/-- Results of a self-test (R438). -/
inductive BootResult where
  | running | pass | cocoon | otpHold
deriving DecidableEq, Repr

def BootResult.code : BootResult → Nat
  | .running => 0 | .pass => 1 | .cocoon => 2 | .otpHold => 3

/-- What ordered the orderly stop that runs (R397, R454, R482). -/
inductive StopCause where
  | mainLost | faultS4 | watchdog | sequencer | vstop | vlink | windowEnd
deriving DecidableEq, Repr

/-- The device state block: GLB_STATE, GLB_BOOT_STAT, the self-test report, the census configuration and the
service window (spec/14). -/
structure Device where
  state : DevState
  step : Nat                       -- self-test step running, 0 none
  chryRefused : Bool
  rstRefused : Bool
  left : DevState                  -- the state left at main loss (R396)
  chryFrom : DevState              -- READY or ACTIVE, left at DEVICE_CHRYSALIS
  stopCause : Option StopCause     -- what ordered the stop that runs
  mainLostInStop : Bool            -- main was lost while the stop ran (R397)
  bootCount : BitVec 32
  result : BootResult
  passed : BitVec 16
  failStep : Nat
  failCode : Nat
  failData : BitVec 32
  reportTime : BitVec 32
  durations : List Nat             -- µs of steps 1 to 11 so far
  engFail : BitVec 18
  linkWord : BitVec 32
  sliceFail : List (BitVec 17 × BitVec 17)   -- per group: current, voltage
  absorbed : Bool
  absorbedList : List (Nat × BitVec 32)      -- code, DATA of absorbed faults of this start
  noPulse : Bool                   -- GLB_CEN_CFG.NO_PULSE as stored in NV (R442)
  baseline : Option (List (Nat × Nat))       -- accepted census: shunt µΩ, inductance nH per phase
  holdRegion : Nat                 -- failing region in OTP_HOLD (R445)
  boardDown : Bool                 -- board powered down, fresh power-up awaited (R399)
  svcArea : Bool                   -- false REPORT, true LOG
  svcIndex : Nat
  svcHi : Word
  svcRange : Bool
  svcNvErr : Bool
  lifetimeDue : Bool
  ioHigh : Bool                    -- 3.3 V I/O selected until the next POWERUP (R549)
  refin : Bool                     -- the main clock is REFIN, not the crystal, until the next POWERUP (R550)
deriving DecidableEq, Repr

/-- The first-fault record (R459). -/
structure FirstFault where
  injected : Bool
  severity : Nat
  subject : Nat
  kind : Nat
  source : Nat
  data : Word
  beat : BitVec 64
deriving DecidableEq, Repr

/-- The fault collector and the alive output (R450 to R467). -/
structure Faults where
  sev : Vector (BitVec 3) 128
  active : BitVec 128
  hit : BitVec 128
  first : Option FirstFault
  count : BitVec 16
  wbRefused : Bool
  injRefused : Bool
  ovf : Bool
  lock : Bool
  s4BoardOff : Bool
  wbSev : BitVec 3
  autoHold : Bool
  modeReg : Bool                   -- FLT_WB_CFG.MODE as written
  mode : Bool                      -- mode in force: true FAULT_N (R467)
  hold : Bool
  running : Bool
  level : Bool                     -- level of the ball
  pulse : Bool                     -- the 128 µs FAULT_N pulse runs (R466)
  prev : Word
  prevData : Word
  prevTime : Word
  rtcCopy : Option (FirstFault × BitVec 32)  -- first-fault copy in the RTC domain with its time (R460)
  ffLost : Bool                    -- FF_LOST: the copy was lost (R403)
  testEn : Bool                    -- TEST_EN sampled high at reset (R463)
  factory : Bool                   -- factory test mode (R463)
  monRec : List (Nat × Word)       -- the safety monitor's record of protected writes (R461)
  missed : Nat                     -- heartbeats missed in a row (R461)
  excuse : Nat                     -- µs of heartbeat excuse left after a supervisor reset (R461)
  s4First : Option Nat             -- uptime in µs of the first board-off S4, kept always-on (R454)
deriving DecidableEq, Repr

/-- One interrupt source (R468 to R475). -/
structure IrqSrc where
  pending : Bool
  active : Bool
  input : Bool
  sense : BitVec 2
  target : BitVec 2
  prio : BitVec 4
  heldTarget : Option (BitVec 2)   -- TARGET written while ACTIVE (R474)
deriving DecidableEq, Repr

/-- The interrupt controller: 64 shared sources, three private banks (R468, R476). -/
structure Irq where
  src : Vector IrqSrc 64
  bank : Vector (Vector IrqSrc 16) 3
  thresh : Vector (BitVec 4) 3
  badComplete : Bool
  routeRefused : Bool
  soft : BitVec 8
  irqN : Bool                      -- level of the IRQ_N ball, low while asserted
  delivered : Bool                 -- T2 had something deliverable when last settled
deriving DecidableEq, Repr

/-- The watchdog (R477 to R483). -/
structure Wdt where
  lock : Bool
  en : Bool
  cfg : Word                       -- WDT_CFG as written
  tasks : BitVec 8
  cfgRun : Word                    -- WDT_CFG in force in this window
  tasksRun : BitVec 8
  openPart : Bool
  firstWord : Bool                 -- 0x0000_A5C3 was accepted, the second word is awaited
  keyRefused : Bool
  lastReason : Nat
  lastTask : Nat
  checked : BitVec 8
  supCount : BitVec 16
  allCount : BitVec 16
  supTimes : List Nat              -- uptime in µs of SUPERVISOR expiries in the last 600 s
  deferred : Option (Nat × Nat)    -- reason and task of an expiry deferred for NV (R483)
  restarting : Bool                -- Galdor restarts after a supervisor-only reset (R482)
deriving DecidableEq, Repr

/-- What the block sends out: host memory writes, messages and pin or bus actions, oldest first. -/
inductive Out where
  | hostWrite (addr : Nat) (bytes : List Byte)          -- memory write request of the device (R249)
  | msix (vector : Nat)                                 -- MSI-X message (R288)
  | ltr (us : Nat)                                      -- LTR message (R247)
  | laneWord (word : BitVec 24)                         -- acknowledgement shifted out on SLDO (R116)
  | ringTrain (ring : Bool) (hdr : List Byte) (slots : List (List Byte))   -- a train on an output (R311): header, slots
  | linkPacket (port : Nat) (hdr : Nat) (objs : List Word) (crc : Word)   -- a Link Accord packet (R350, R351)
  | linkHardReset (port : Nat)
  | twWrite (bus : Nat) (addr : Nat) (bytes : List Byte)     -- two-wire write (R529)
  | twRead (bus : Nat) (addr : Nat) (n : Nat)
  | twBusClear (bus : Nat)
  | svcByte (b : Byte)                                  -- byte sent by the service or board target
  | readReply (data : Word)                             -- data of a BAR0 read completion (R12)
  | signature (bytes : List Byte)                       -- attestation (R493)
  | debug (granted : Bool)                              -- debug port answer (R494)
  | deviceReset                                         -- the core resets (R432, R482)
  | nvWrite (what : Nat) (index : Nat)                  -- NV program operation that leaves the block's logic
deriving DecidableEq, Repr

end Sys2Proof.Machine
end

