-- ==== Sys2Proof/Machine/TypesChannel.lean ====
section
/-!
DEFINITION. The state of phases and channels: staged and running configuration, context halves, step state,
counters (spec/01_beat_and_engines.md R25 to R27, spec/02_phase_control.md, spec/03_channels_setpoints.md,
spec/06_recipes.md).
-/
namespace Sys2Proof.Machine

/-- CH_STATE.STATE codes (spec/03). -/
inductive ChState where
  | off | chrysalis | glide | run | hold | tripped | latched
deriving DecidableEq, Repr

def ChState.code : ChState → Nat
  | .off => 0 | .chrysalis => 1 | .glide => 2 | .run => 3 | .hold => 4 | .tripped => 5 | .latched => 6

/-- Modes, coded as DMODE (CH_CFG). -/
inductive Mode where
  | off | rest | cc | cv | cp | cr
deriving DecidableEq, Repr

def Mode.code : Mode → Nat
  | .off => 0 | .rest => 1 | .cc => 2 | .cv => 3 | .cp => 4 | .cr => 5

/-- DMODE 0 to 5; 6 and 7 are no mode (R100 SETPT). -/
def Mode.ofCode : Nat → Option Mode
  | 0 => some .off | 1 => some .rest | 2 => some .cc | 3 => some .cv | 4 => some .cp | 5 => some .cr
  | _ => none

/-- States of the ramp generator (R82), coded as PH_CH_STAT.GLIDE. -/
inductive Ramp where
  | zero | start | ramp | settled | stopRamp
deriving DecidableEq, Repr

def Ramp.code : Ramp → Nat
  | .zero => 0 | .start => 1 | .ramp => 2 | .settled => 3 | .stopRamp => 4

/-- Tuck states (R88), coded as PH_CH_STAT.TUCK. -/
inductive Tuck where
  | steady | shed1 | shed2 | readd1
deriving DecidableEq, Repr

def Tuck.code : Tuck → Nat
  | .steady => 0 | .shed1 => 1 | .shed2 => 2 | .readd1 => 3

/-- The state a stop leads to (R81, R194, R197, R273). -/
inductive StopTarget where
  | rest | off | chrysalis | hold
deriving DecidableEq, Repr

/-- Reasons of an interruption (R203). -/
inductive Reason where
  | hostStop | governorPause | barrierTimeout | powerLoss | trip | trayRemoved | stepOverBudget | tempLost
deriving DecidableEq, Repr

def Reason.code : Reason → Nat
  | .hostStop => 1 | .governorPause => 2 | .barrierTimeout => 3 | .powerLoss => 4 | .trip => 5
  | .trayRemoved => 6 | .stepOverBudget => 7 | .tempLost => 8

/-- The words of the base-phase window shared by a channel (R74). -/
structure BaseCfg where
  flock : Word
  bandLim : Word
  tuck : Word
  glideI : Word
  glideV : Word
  lowcell : Word
deriving DecidableEq, Repr

/-- The RWS words of one phase window (spec/02 "Phase window registers", PH_GANG of spec/03). -/
structure PhaseCfg where
  cfg : Word
  shunt : Word
  gang : Word
  base : BaseCfg
deriving DecidableEq, Repr

/-- The RWS words of one channel window (spec/03 "Channel window registers"). -/
structure ChanCfg where
  cfg : Word
  ilimHi : Word
  ilimLo : Word
  vlimHi : Word
  vlimLo : Word
  setI : Word
  setV : Word
  setP : Word
  setR : Word
  gain : Word
  trim : Word
deriving DecidableEq, Repr

/-- Which dead time of a phase runs (R68). -/
inductive DeadTime where
  | none | hl | lh
deriving DecidableEq, Repr

/-- PH_STAT.STATE (spec/02). -/
inductive PhState where
  | off | stopped | switching | lowcell | shedding | tucked | latched
deriving DecidableEq, Repr

def PhState.code : PhState → Nat
  | .off => 0 | .stopped => 1 | .switching => 2 | .lowcell => 3 | .shedding => 4 | .tucked => 5 | .latched => 6

/-- The lifetime record of a phase (R243). -/
structure LifePhase where
  peakPos : Int
  peakNeg : Int
  swCycles : Nat
  throughput : Nat                 -- absolute charge, µA µs
  switchSec : Nat
  contacts : Nat
deriving DecidableEq, Repr

/-- One phase: its configuration, gates, timers, latch and measurements (spec/02), census results (R438 to R443). -/
structure Phase where
  staged : PhaseCfg
  run : PhaseCfg
  gh : Bool
  gl : Bool
  dead : DeadTime
  minOn : Bool                     -- the 40 ns minimum on time runs (R69)
  minOff : Bool                    -- the 40 ns minimum off time runs
  upperPending : Bool              -- an upper-edge crossing waits for the minimum on time
  riseReady : Bool                 -- the dead time before GH has expired
  slotDue : Bool                   -- the slot instant of R77 has arrived
  stopping : Bool                  -- the stop of R66 has taken effect; gates fall at the next upper edge
  switching : Bool                 -- the phase switches
  enabled : Bool                   -- gate enable latched at the last boundary
  latched : Bool
  latchScope : Bool                -- true: by a latch of scope CHANNEL
  ocHi : Bool
  ocLo : Bool
  clrRefused : Bool
  latchNow : Bool                  -- latched in the present beat (R94)
  clearedNow : Bool                -- a clear was accepted in the present beat (R94)
  rejoin : Option Beat             -- cleared, waits to rejoin at the boundary that opens this beat (R24, R93)
  sat : Bool
  minTimeNow : Bool
  minTime : Bool
  setpt : BitVec 16
  band : BitVec 10
  edgesNow : Nat
  firstEdge : Nat
  lastEdge : Nat
  riseAt : Option Int               -- last GH rising edge, ticks from the present tenth boundary
  edges : Nat
  span : Nat
  period : Nat                     -- last full period in 2.5 ns ticks, 0 none measured
  slot : Nat
  slips : BitVec 16
  swcnt : Word
  cenL : Word
  cenSh : Word
  cenV0 : Int
  cenCell : Nat
  cenInd : Nat
  cenShunt : Nat
  iMean : Int                      -- beat-mean current of the last completed beat, µA
  mI : Int                         -- sums of the position's samples of the milli period, 1/256 µV, with their counts
  mIn : Nat
  mV : Int
  mVn : Nat
  avI : Int                        -- the sums of the last full milli period: its metrology averages (R150)
  avIn : Nat
  avV : Int
  avVn : Nat
  nvLatch : Bool                   -- latch state as recorded in NV (R95)
  life : LifePhase
  switchBeats : Nat                -- beats switched towards the next second of SWITCH_SEC
deriving DecidableEq, Repr

/-- An entry (L, E, remaining) of the loop stack (R192). -/
structure LoopEntry where
  head : Nat
  last : Nat
  remaining : Nat
deriving DecidableEq, Repr

/-- Causes of a step end, coded as CH_STEP_END.CAUSE (spec/06). -/
inductive EndCause where
  | none | term0 | term1 | term2 | term3 | duration | builtin | release | interrupted
deriving DecidableEq, Repr

def EndCause.code : EndCause → Nat
  | .none => 0 | .term0 => 1 | .term1 => 2 | .term2 => 3 | .term3 => 4 | .duration => 5 | .builtin => 6
  | .release => 7 | .interrupted => 8

/-- An interruption record (R203). -/
structure Intr where
  recipe : Nat
  step : Nat
  reason : Reason
  crc : Word
  stack : List LoopEntry
deriving DecidableEq, Repr

/-- The base part of the channel state: what remains when trip, latch and ramp are left aside (R201). -/
inductive BaseState where
  | off | chrysalis | run | hold
deriving DecidableEq, Repr

/-- A direct mode committed during a stop, which waits for the ramp generator to reach ZERO (R29). -/
inductive AfterZero where
  | none
  | mode (m : Mode)
deriving DecidableEq, Repr

/-- Step state of a context half (R25, R178 to R205). -/
structure StepState where
  base : BaseState
  running : Bool
  recipe : Nat
  step : Nat
  mode : Mode                      -- mode in force
  stepBeat : Beat
  beats : Nat                      -- beats the step has run
  qual : List Nat                  -- QUAL counts of TERM0 to TERM3
  armed : Bool
  cvReached : Bool
  capLow : Nat                     -- beats in a row with V̄ ≤ cutoff (R184)
  inPulse : Bool                   -- PULSE at B, DCIR in a pulse
  edgeBeats : Nat                  -- beats of the PULSE or DCIR pattern begun (R183, R87)
  edgeKind : Nat                   -- kind of the own edge in the output of the last job, 0 none (R226)
  stack : List LoopEntry
  endStep : Nat
  endNext : Nat
  endCause : EndCause
  intr : Option Intr
  resumed : Bool
  anyResumed : Bool
  holdBeats : Nat                  -- beats in HOLD (R198)
  wakeCount : Nat                  -- beats above WAKE in a row (R202)
  wakeReq : Bool                   -- a wake condition was found by the job
  entered : Bool                   -- the last job resolved a transition into a new step (R39)
  fresh : Bool                     -- the step in force was entered at a boundary; no beat has run
  after : AfterZero
  stopTo : StopTarget
  forced : Bool                    -- the stop that runs is forced (R81)
  gradeDue : Bool                  -- END with GRADE reached, evaluation due (R194)
deriving DecidableEq, Repr

/-- A lane transition in force (R111 to R114). -/
structure LaneTarget where
  tag : Nat
  voltage : Bool
  target : Int
  rate : Nat                       -- µA or µV per ms, 0 bypass
  isOpen : Bool                    -- not yet answered REACHED
  isNew : Bool                     -- accepted in this beat: its transition starts (R111)
deriving DecidableEq, Repr

/-- Loop state of a context half (R80 to R89, R102 to R104). -/
structure LoopState where
  ramp : Ramp
  ref : Int                        -- current reference i_ref, µA
  refFrac : Nat                    -- fraction in 1/1,000 (R80)
  rate : Nat                       -- bound rate of the transition, µA per ms, 0 bypass
  target : Int                     -- target of the transition
  vref : Int
  vrefFrac : Nat
  acc : Int                        -- CV accumulator a, µA
  accLim : Int                     -- accumulator of the soft voltage limit that regulates (R104)
  vclamp : Bool
  clampHi : Bool                   -- which limit clamps: true the upper one (R104)
  trims : List Int
  lowcell : Bool
  tuck : Tuck
  shed : Nat                       -- index of the shedding phase
  tucked : List Bool               -- per phase of the gang
  half : List Bool                 -- phases on half share (R85, R86)
  shedOff : Bool                   -- the stop of the shedding phase takes effect with this output (R85)
  tuckSusp : Bool                  -- tuck was suspended in the last job (R87)
  tuckBreak : Bool                 -- suspension, demand or a change of the set since the tenth boundary (R84, R88)
  signs : List Int                 -- sign of the last share that was not 0 (R102)
  startDue : Bool                  -- the output starts switching: ZERO to START (R72, R82)
  maxAbs : Int                     -- largest |I_ch| of the tenth period so far
  lane : Option LaneTarget
  kApplied : Nat                   -- governor factor applied, 1/65,536 (R119)
  kRate : Nat                      -- factor ramp per beat in CV
  govRate : Nat                    -- governor rate of the transition running, µA a beat; 0 = none (R81)
  uncapped : Int                   -- uncapped target current of the last job (R118)
  constBeats : Nat                 -- beats the latched reference has been constant (R221)
  prevail : Int                    -- prevailing target after authority resolution (R276 TARGET)
  lastK : Nat                      -- governor factor at the last job (R81)
  modeWas : Mode                   -- mode of the last job, for entry into CV (R79, R103)
deriving DecidableEq, Repr

/-- Band lock results of a tenth-beat area (R71, R72). -/
structure BandState where
  band : Nat
  pf : Int
  nolock : Nat
  locked : Nat
  flLimit : Bool
  shedNow : Bool                   -- the shed starts at the boundary (R84)
  qual : Nat
deriving DecidableEq, Repr

/-- Counters with 32 fractional bits (R209, R210). -/
structure Counters where
  runQ : Int
  runE : Int
  stepQ : Int
  stepE : Int
  refQ : Int
  through : Nat
deriving DecidableEq, Repr

/-- Sums of an impedance record's windows (R222): beats counted, V sum and I sum. -/
structure WinSum where
  n : Nat
  v : Int
  i : Int
deriving DecidableEq, Repr

/-- An open impedance record (R221 to R226). -/
structure OpenZ where
  kind : Nat
  beatE : Beat
  step : Nat
  stepBeat : Beat                  -- first beat of that step (R228)
  temp : Int
  rE : Int
  fs : Int                         -- full scale of the channel as the quotient fs / rsh µA (R75)
  rsh : Nat
  pre : WinSum
  zi : WinSum
  z1 : WinSum
  z10 : WinSum
  z100 : WinSum
  validTo : Nat                    -- valid points so far; one that fails ends the record (R223)
  done : Bool
deriving DecidableEq, Repr

/-- A load step that has started and not completed (R221): the reference before it, beats since its start, the pre
window frozen at its start. -/
structure ZTrack where
  rBefore : Int
  age : Nat
  pre : WinSum
  kind : Nat                       -- kind by the edge that started it (R226)
deriving DecidableEq, Repr

/-- An acknowledgement the channel's job asks for (R112, R115). -/
structure Ack where
  chan : Nat
  tag : Nat
  code : Nat
deriving DecidableEq, Repr

/-- The output record of a half: setpoint and band DAC codes, gate enables, interleave slots, saturation (R25). -/
structure OutRec where
  codes : List Int
  bands : List Nat
  sat : List Bool
  enable : List Bool
  slots : List Nat                 -- position j of R77, which sets the interleave delay
  iref : Int
deriving DecidableEq, Repr

/-- The end of an executing step as the estimator takes it (R206, R212, R213). -/
structure StepEnd where
  recipe : Nat
  step : Nat
  typ : Nat
  set1 : Int
  cause : EndCause
  termKind : Nat                   -- KIND of the termination that ended it, 0 none
  cvReached : Bool
  resumed : Bool
  lane : Bool                      -- a lane target was in force in a beat of the step
  reason : Nat                     -- interruption reason, 0 none
  charge : Int
  energy : Int
  endBeat : Beat
  beats : Nat                      -- beats the step has run
deriving DecidableEq, Repr

/-- One half of a context (R25). -/
structure Context where
  out : OutRec
  iPrev : Int                      -- reference latched one boundary before this half's (R221)
  loop : LoopState
  step : StepState
  cnt : Counters
  openZ : Option OpenZ
  zTrack : Option ZTrack
  doneZ : List OpenZ               -- records complete, waiting for the milli job (R224)
  zSmall : Nat                     -- kind of a small-step record that opens in this beat, 0 none (R225)
  ends : List StepEnd              -- step ends resolved by the last job
  preHist : List (Int × Int)       -- last 100 beat means V̄, Ī, newest first (R222 Pre)
  evs : List EvReq
  acks : List Ack
  iMean : Int
  vMean : Int
  bad : Bool                       -- uncorrectable error in this half (R52)
deriving DecidableEq, Repr

/-- Windows of a position (R156 on). -/
inductive Win where
  | current | vtrip | vwarn
deriving DecidableEq, Repr

def Win.code : Win → Nat
  | .current => 0 | .vtrip => 1 | .vwarn => 2

/-- Causes that hold a channel in TRIPPED, each ended under its own rule (R168, R453, R57, R134, R170). -/
inductive TripCause where
  | window (pos : PhaseNo) (w : Win)
  | groupWindow (pos : PhaseNo) (w : Win)
  | fault (src : Fin 128)
  | unserved (pos : PhaseNo) (voltage : Bool)
deriving DecidableEq, Repr

/-- A snapshot taken by CH_COMMIT (R98): the channel window's set and the phases' sets. -/
structure Snapshot where
  due : Beat                       -- first boundary (beat it opens) at which it may take effect (R24)
  chan : ChanCfg
  gang : Word
  phases : List (PhaseNo × PhaseCfg)
deriving DecidableEq, Repr

/-- A host request that waits for its boundary (R272 to R274). -/
inductive Request where
  | stop (target : StopTarget) (reason : Reason) (forced : Bool)
  | start (recipe : Nat)
  | resume (next : Bool) (auto : Bool)
deriving DecidableEq, Repr

/-- A request with the command that waits for it (`cid` slot of the running command list, if any). -/
structure ReqEntry where
  req : Request
  due : Beat                       -- first boundary (beat it opens) at which it may act (R24)
  cmd : Option Nat
deriving DecidableEq, Repr

/-- Governor classes (R118), coded as CH_GOV.CLASS. -/
inductive GovClass where
  | neutral | deferrable | measuring
deriving DecidableEq, Repr

def GovClass.code : GovClass → Nat
  | .neutral => 0 | .deferrable => 1 | .measuring => 2

end Sys2Proof.Machine
end

