-- ==== Sys2Proof/Machine/TypesEst.lean ====
section
/-!
DEFINITION. The estimator's records and the channel record that holds everything of one channel
(spec/07_estimation_grading.md; spec/01 R25 to R27; spec/03; spec/17 R525 to R528 for the temperature).
-/
namespace Sys2Proof.Machine

/-- A capacity result (R215). -/
structure CapResult where
  endBeat : Beat
  charge : Int
  energy : Int
  mask : Nat
  flags : Nat
  temp : Int                       -- −32768 when there is no reading
  rate : Nat
  efficiency : Nat
  isCharge : Bool
  step : Nat
  recipe : Nat
  intr : Nat
  vEnd : Int
deriving DecidableEq, Repr

/-- What is kept of the most recent executing step with current (R212). -/
structure StartRec where
  typ : Nat                        -- step type code
  positive : Bool                  -- SET1 > 0
  endBeat : Beat                   -- its last beat
  good : Bool                      -- ended by the end condition R212 asks of a start condition
  resumed : Bool
  charge : Nat                     -- |charge| of its qualified CAP_CHARGE result, 0 none
  intr : Nat                       -- first interruption reason since its end, 0 none
  ride : Bool                      -- RIDE_THROUGH since its end
deriving DecidableEq, Repr

/-- A measuring step in progress, or ended and waiting for its cross-checks (R213, R218, R219). -/
structure MeasStep where
  typ : Nat
  set1 : Int
  set2 : Int
  start : Option StartRec          -- the start-condition candidate at its first beat
  tempOut : Bool
  tempUnknown : Bool
  tempSum : Int
  tempN : Nat
  countOver : Bool
  xPending : List PhaseNo          -- positions still to cross-check
  xFail : Bool
  xTimeout : Bool
  ride : Bool                      -- RIDE_THROUGH while the step ran
  ended : Option CapResult         -- the step has ended; its result waits for the checks
  past : Bool                      -- a RECIPE_START has ended the run it belongs to
deriving DecidableEq, Repr

/-- An impedance record as kept (R226). -/
structure ZRec where
  beatE : Beat
  kind : Nat
  valid : Nat
  temp : Int
  step : Nat
  iPre : Int
  vPre : Int
  z : List Int
  di : List Int
deriving DecidableEq, Repr

/-- Sums of the DCIR_ON records of the run's last DCIR step, per point (R228). -/
structure DcirSum where
  step : Nat
  startBeat : Beat
  sums : List Int
  counts : List Nat
  tempSum : Int
  tempN : Nat
deriving DecidableEq, Repr

/-- An OCV reference (R232). -/
structure OcvRef where
  value : Int
  temp : Int
  soc : Nat
  unc : Nat
  beat : Beat
  savedAge : Nat                   -- age in beats carried over a power-off (R236)
  corr : Int                       -- model corrections since, 0.01 % (R235)
deriving DecidableEq, Repr

/-- A grade record (R242). -/
structure GradeRec where
  beat : Beat
  table : Nat
  code : Nat
  conf : Nat
  bin : Nat
  flags : Nat
  cap25 : Int
  zi25 : Int
  z10025 : Int
  ocv25 : Int
  sd25 : Int
  avail : Nat
  recipe : Nat
  version : Word
deriving DecidableEq, Repr

/-- What the estimator learns of a run, in the order in which it happened (R206). -/
inductive EstEv where
  | runStart
  | stepStart (recipe step typ : Nat) (set1 set2 : Int) (beat : Beat)
  | stepEnd (e : StepEnd) (det subst calOff : Bool)
  | intr (reason : Nat)
  | ride
  | grade (recipe table : Nat) (version : Word) (det subst calOff resumed : Bool)
deriving DecidableEq, Repr

/-- What one milli period gives the estimator beside the context (R206): frozen at the boundary that opens the next. -/
structure EstPeriod where
  evs : List EstEv
  temp : Int                       -- reading at the boundary that opened the period
  tempOld : Bool                   -- none, or older than 2 s
  rest : Option Beat               -- first beat of the qualified rest that holds (R229)
  n : Nat                          -- beats counted
  iSum : Int
  iMin : Int
  iMax : Int
  stepLane : Bool                  -- a lane target was in force in the present step
deriving DecidableEq, Repr

/-- The estimator state of a channel (R206 to R242). -/
structure Est where
  caps : List CapResult            -- oldest first, at most 8
  qualCap : Nat                    -- |µC|, 0 none
  start : Option StartRec
  meas : Option MeasStep           -- the measuring step that runs
  await : List MeasStep            -- ended steps that wait for their cross-checks
  zring : List ZRec                -- oldest first, at most 16
  zt : List Nat
  ztTemp : Int
  ztSet : List Bool
  ztCount : Nat                    -- valid records since the last clear (CH_ZT_TEMP.COUNT)
  dcir : Option DcirSum
  relax : List Int                 -- five points (R230)
  relaxRest : Option Beat          -- the rest they belong to
  inStep : Bool                    -- an executing step is in force
  vHist : List (Int × Int)         -- V_m and temperature of the step's milli periods, newest first (R186, R231)
  endOcv : Option (Int × Int)      -- end-of-step OCV and its temperature (R231)
  sdp : Option (Int × Int)         -- self-discharge proxy of the run and its temperature
  sdpLast : Int                    -- CH_SDP
  ref : Option OcvRef
  soc : Nat                        -- 0.01 %, 0xFFFF none
  unc : Nat
  stale : Bool
  corr : WinSum                    -- beats of the present 600,000-beat window (R235)
  corrMin : Int
  corrMax : Int
  grade : Option GradeRec
  forget : Option Beat             -- FORGET awaits the first milli boundary from this beat on (R24, R214)
  zeroQ : Bool                     -- the charge since the reference restarts when the result takes effect (R232)
  zeroThrough : Bool               -- the throughput restarts
  xAsk : List PhaseNo              -- cross-checks to request when the result takes effect (R219)
  posts : List EvReq               -- events of the result, posted when it takes effect
  irqs : List (Fin 64)             -- and its interrupt sources
deriving DecidableEq, Repr

/-- Tray sensor mapping and reading of a channel (R525, R528). -/
structure TempReading where
  map : Word                       -- CH_TSENS
  value : Int                      -- 0.01 °C, −32768 none
  age : Nat                        -- µs since the last good read, saturating
  since : Nat                      -- µs since the mapping
  failing : Bool                   -- STATE FAILING (R528)
  oldRead : Bool                   -- a read of the pair runs that serves the mapping before the last write (R540)
deriving DecidableEq, Repr

/-- The accumulators and the configuration that a tenth-beat job reads: those of the boundary that opens its period
(R27, R49, R70). -/
structure TenthIn where
  base : BaseCfg
  gang : Nat
  rsh : Nat
  latched : List Bool
  tucked : List Bool
  steady : Bool                    -- tuck state STEADY
  suspended : Bool                 -- tuck suspended or its count broken in the period (R84, R87, R88)
  maxAbs : Int                     -- Imax of R84
  switching : Bool
  edges : Nat                      -- EDGES and SPAN of the lock phase (R70, R71)
  span : Nat
  band : BandState
deriving DecidableEq, Repr

/-- What a milli job reads of the configuration in force at the boundary that opens its period (R27). -/
structure MilliIn where
  fs : Int                         -- full scale as the quotient fs / rsh µA
  rsh : Nat
  nom : Nat
  learnT : Word
  learnRate : Word
  phases : List PhaseNo
deriving DecidableEq, Repr

/-- The estimator registers as the boundaries before `due` still find them (R24). -/
structure LateEst where
  due : Beat
  cfg : Word
  learnT : Word
  learnRate : Word
deriving DecidableEq, Repr

/-- Everything of one channel. -/
structure Chan where
  staged : ChanCfg
  run : ChanCfg
  seq : BitVec 8                   -- CH_COMMIT_STAT.SEQ
  commitPhase : Nat
  commitResult : Nat
  commitBeat : Beat
  snap : Option Snapshot
  halves : Vector Context 2        -- half 0, half 1 (R25)
  curHalf : Bool                   -- half made current at the last boundary
  tin : TenthIn                    -- what the tenth-beat job reads (R27)
  frozenM : Context                -- accumulators frozen at the milli boundary
  tenth : Vector BandState 2       -- tenth areas A, B
  tenthCur : Bool
  bandStart : Bool                 -- a start of switching has set the band in force since the tenth boundary (R72)
  pfZero : Bool                    -- the lock phase has latched since then (R91)
  ep : EstPeriod                   -- the present milli period
  epFrozen : EstPeriod             -- frozen at the milli boundary (R27)
  milliIn : MilliIn                -- configuration frozen at the milli boundary
  estCur : Est                     -- milli area in force
  estNext : Est                    -- milli area being written
  held : Bool
  detLapsed : Bool
  sliceSubst : Bool
  trips : List TripCause
  ctxTrip : Bool                   -- tripped under R52
  ovrTrip : Bool                   -- tripped under R56
  latched : Bool
  latchWins : List (PhaseNo × Win) -- windows whose latch action latched the channel (R169)
  clearNow : Bool                  -- CH_CLR was accepted in the present beat (R94)
  releaseDue : Option Beat         -- CH_CLR accepted; RUN at the boundary that opens this beat (R24, R106)
  tripNow : Bool                   -- tripped or latched in the present beat (R205)
  wakeDue : Bool                   -- wake found; first part at the next boundary (R202)
  waking : Bool                    -- comparators settling after the wake
  firstStart : Bool                -- next start is the first after a change of the lock fields (R72)
  requests : List ReqEntry
  gClass : GovClass
  paused : Bool
  pausedP : Int                    -- demand recorded at the pause, mW (R121)
  pauseRamp : Bool                 -- the ramp of its pause ran at the last tenth-period boundary (R118)
  govK : Nat                       -- applied cap factor (CH_GOV.K)
  tP : Int                         -- sum of V̄ × Ī of the tenth period, pW
  tV : Int                         -- sum of V̄ of the tenth period, µV
  tN : Nat
  vm : Int                         -- metrology averages V_m (µV) and I_m (µA) frozen (R150)
  im : Int
  estLate : Option LateEst         -- a write too late for the next boundary, with what stands until then (R24)
  estCfg : Word
  estCfgRun : Word                 -- in force from the milli boundary
  learnT : Word
  learnRate : Word
  chry : Word                      -- CH_CHRY.WAKE
  temp : TempReading
  hiCaps : List (Nat × Word)       -- captured high halves by register offset
  nomCharge : Nat                  -- NOM_CHARGE of the recipe running or last run (R233)
  restored : Option (Nat × Nat)    -- gang of a restored image and how its commit acts: 0 by the host, 1 by AUTO_RESUME
                                   -- with a POWER_LOSS record, 2 by AUTO_RESUME without one (R400)
deriving DecidableEq, Repr

end Sys2Proof.Machine
end

