-- ==== Sys2Proof/Machine/TypesBeat.lean ====
section
/-!
DEFINITION. The beat unit, the claim table and the engine array (spec/01_beat_and_engines.md), the setpoint lane and
the governor (spec/03_channels_setpoints.md), the recipe store (spec/06_recipes.md).
-/
namespace Sys2Proof.Machine

/-- The four classes of job (R31). -/
inductive JobClass where
  | catchUp | beat | tenth | milli
deriving DecidableEq, Repr

/-- BEAT_OVR.CLASS (spec/01). -/
def JobClass.ovrCode : JobClass → Nat
  | .catchUp => 1 | .beat => 1 | .tenth => 2 | .milli => 3

/-- A claim-table entry's state (R43). -/
inductive Claim where
  | free
  | claimed (e : EngineNo)
  | done
  | failed
deriving DecidableEq, Repr

/-- What a beat job reads beside its half, its sample set, its frames and the channel's configuration: as it stands at the
boundary that releases the job, so that neither pickup nor a re-run changes a result (R27, R45, R48). -/
structure JobIn where
  latched : List Bool              -- latched phases of the gang
  temp : Int                       -- cell temperature, 0.01 °C, −32768 none
  tempOld : Bool                   -- no reading, or older than 2 s (R188)
  zTemp : Int                      -- the reading at the boundary that opened the milli period (R206)
  vHist : List (Int × Int)         -- V_m of the step's milli periods with the temperature, newest first
  govK : Nat
  deferrable : Bool                -- class of the tenth period, and not paused (R118, R119)
  wake : Nat                       -- CH_CHRY.WAKE
  stopped : Bool                   -- TRIPPED or LATCHED
  band : Nat                       -- band code in force (R25)
deriving DecidableEq, Repr

/-- A released job with its claim-table entry (R42, R43). -/
structure Job where
  cls : JobClass
  chan : ChanNo
  beat : Beat                      -- its beat; for a slow job the first beat of its period
  home : EngineNo
  claim : Claim
  ran : Option EngineNo            -- engine that last ran or claimed it in the current beat (R54)
  late : Bool                      -- outstanding at the last boundary, not yet classified (R49)
  ended : Option JobClass          -- class in which it completed before its engine was lost (R54)
  inp : JobIn                      -- its inputs, kept for a re-run (R48)
deriving DecidableEq, Repr

/-- One corrected sample pair of a position, 1/256 µV; invalid samples reach no channel (R126, R128). -/
structure Pair where
  a : Int
  b : Int
  validA : Bool
  validB : Bool
deriving DecidableEq, Repr

/-- A sample set: per phase two shunt samples, per voltage position two cell samples (R22). -/
structure SampleSet where
  beat : Beat
  cur : Vector Pair 160
  volt : Vector Pair 160
deriving DecidableEq, Repr

/-- Causes of an engine loss, coded as BEAT_LOSS.CAUSE (R53). -/
inductive LossCause where
  | none | residue | progress | overtime
deriving DecidableEq, Repr

def LossCause.code : LossCause → Nat
  | .none => 0 | .residue => 1 | .progress => 2 | .overtime => 3

/-- Results of a budget write, coded as BEAT_BUDGET_STAT.RESULT (R38). -/
inductive BudgetResult where
  | ok | belowFloor | overLimit | pending
deriving DecidableEq, Repr

def BudgetResult.code : BudgetResult → Nat
  | .ok => 0 | .belowFloor => 1 | .overLimit => 2 | .pending => 3

/-- Diagnostics of an engine (BEAT_ENG_DIAGe). -/
structure EngDiag where
  pickups : BitVec 16
  busy : Nat
  busyNow : Nat
deriving DecidableEq, Repr

/-- A pending write of BEAT_GRP_BUDGETg (R24, R38). -/
structure BudgetWrite where
  group : GroupNo
  value : Nat
  due : Beat
deriving DecidableEq, Repr

/-- The beat timer, claim table and engine array. -/
structure BeatUnit where
  number : Beat
  hiCap : Word
  running : Bool                   -- a beat is counting (R459)
  uptime : Nat                     -- µs counted by the model, never re-epoched (model's own)
  engMap : BitVec 18
  lost : List (EngineNo × LossCause)   -- declared lost, removed at the next boundary (R54)
  lossHeld : Nat
  lossCause : LossCause
  lossEngine : Nat
  lossBeat : Beat
  limitCut : Bool
  ovrChan : Nat
  ovrClass : Nat
  ovrCount : BitVec 16
  ovrBeat : Beat
  peak : Nat
  peakNow : Nat
  budgets : Vector Nat 10
  writes : List BudgetWrite
  statGroup : Nat
  statResult : BudgetResult
  diag : Vector EngDiag 18
  jobs : List Job
  sets : List SampleSet            -- kept sample sets, newest first, at most three (R56)
  forming : SampleSet              -- the sample set being formed
  formed : Nat                     -- apertures taken of the set being formed
deriving DecidableEq, Repr

/-- A frame as it arrived on the lane (R108, R110). -/
structure LaneFrame where
  chan : Nat
  tag : Nat
  kind : Nat
  target : Int
  slew : Nat
  crcOk : Bool
deriving DecidableEq, Repr

/-- The setpoint lane (R107 to R117). -/
structure Lane where
  en : Bool
  inputs : List (Beat × LaneFrame) -- frames with the beat they are an input of, arrival order
  queue : List (BitVec 24)         -- acknowledgements queued, oldest first
  crcErr : BitVec 16
  frameErr : BitVec 16
  frames : Word
  ackDrop : BitVec 16
  ovf : Bool
  crcSeen : Bool
  frameSeen : Bool
deriving DecidableEq, Repr

/-- The power governor (R118 to R121). -/
structure Governor where
  budget : Word
  cfg : Word
  k : Nat
  overB : Bool
  draw : Int
  nonDef : Int
  demand : Int
deriving DecidableEq, Repr

/-- A termination entry (R185). -/
structure Term where
  kind : Nat
  next : Nat
  qual : Nat
  value : Nat
deriving DecidableEq, Repr

/-- A step record (R178). -/
structure StepRec where
  typ : Nat
  flags : Nat
  dnext : Nat
  count : Nat
  duration : Nat
  set1 : Int
  set2 : Int
  param1 : Nat
  param2 : Nat
  ilim : Nat
  vsoft : Int
  terms : List Term
deriving DecidableEq, Repr

/-- A recipe in the store: the bytes as loaded and its decoded steps (R175, R177). -/
structure Recipe where
  number : Nat
  shared : Bool
  nomCharge : Nat
  gradeTable : Nat
  version : Word
  crc : Word
  steps : List StepRec
  image : List Byte
deriving DecidableEq, Repr

/-- An OCV table (R234). -/
structure OcvTable where
  unc : Nat
  beta : Int
  points : List Int
  shared : Bool
  image : List Byte
deriving DecidableEq, Repr

/-- A bin of a grade table (R237). -/
structure GradeBin where
  code : Nat
  mask : Nat
  mins : List Int                  -- CAP, ZI, Z100, OCV, SD
  maxs : List Int
deriving DecidableEq, Repr

/-- A grade table (R237). -/
structure GradeTable where
  required : Nat
  fallback : Nat
  alphas : List Int                -- CAP_ALPHA, ZI_ALPHA, Z100_ALPHA, OCV_BETA, SD_ALPHA
  us : List Int                    -- U_CAP, U_ZI, U_Z100, U_OCV, U_SD
  bins : List GradeBin
  shared : Bool
  image : List Byte
deriving DecidableEq, Repr

/-- One heatsink input (R245). -/
structure HsInput where
  state : Nat                      -- GLB_HS_Tk.STATE
  value : Int
  bins : List Nat                  -- 16 bins of seconds
  highest : Int
  lowest : Int
  any : Bool
deriving DecidableEq, Repr

/-- A written slot of the lifetime area (R244). -/
structure LifeSlot where
  seq : Nat
  phases : List LifePhase
  hs : List HsInput
  closures : List Nat
  crcOk : Bool                     -- its CRC-32 matches; not so in a slot that a power loss has torn (R244)
deriving DecidableEq, Repr

/-- The recipe store, the tables and the lifetime area. -/
structure Store where
  recipes : List Recipe
  ocv : Vector (Option OcvTable) 4
  ocvNext : List (Fin 4 × OcvTable)    -- accepted, in effect at the next milli boundary (R269)
  grade : Vector (Option GradeTable) 16
  gradeRun : Vector (Option GradeTable) 16   -- those the milli jobs of the present period read (R27)
  hs : Vector HsInput 8
  hsCfg : Word                     -- GLB_HS_NTC_CFG
  hsLimit : Word
  closures : Vector Nat 2
  lifeSeq : Nat
  lifeSlots : Vector (Option LifeSlot) 4
deriving DecidableEq, Repr

/-- The tables at a milli boundary: accepted OCV tables take effect (R269), the grade tables in force are those of the new
period (R27). -/
def Store.ocvTake (t : Store) : Store :=
  { t with ocv := t.ocvNext.foldl (fun v x => v.set x.1 (some x.2)) t.ocv, ocvNext := [], gradeRun := t.grade }

end Sys2Proof.Machine
end

