-- ==== Sys2Proof/Machine/Pipeline.lean ====
section
/-!
DEFINITION. The arithmetic of a channel's beat job: sharing and codes (R64, R76, R102), the CV loop and the soft
limits (R103, R104), the ramp generator (R79 to R82), tuck (R85 to R89). Everything here is integer arithmetic on
plain data; nothing reads the machine state.
-/
namespace Sys2Proof.Machine

/-! ### Fields of the configuration words -/

/-- Gang size coded by PH_GANG (spec/03): 0 none, 1, 2, 4, 8; other codes are no gang size. -/
def gangSize (gang : Word) : Nat :=
  match fld gang 0 3 with
  | 1 => 1 | 2 => 2 | 3 => 4 | 4 => 8 | _ => 0

/-- Declared shunt in µΩ (PH_SHUNT). -/
def shuntOf (c : PhaseCfg) : Nat := fld c.shunt 0 20

/-- Phase full scale 100 mV / Rsh in µA (R76). -/
def phaseFs (rsh : Nat) : Nat := if rsh = 0 then 0 else 100000000000 / rsh

/-- Channel full scale in µA (R75). -/
def chanFs (gang rsh : Nat) : Nat := if rsh = 0 then 0 else gang * 100000000000 / rsh

def fTarget (b : BaseCfg) : Nat := fld b.flock 0 11
def ilEn (b : BaseCfg) : Bool := bit b.flock 16
def bandMin (b : BaseCfg) : Nat := fld b.bandLim 0 10
def bandMax (b : BaseCfg) : Nat := fld b.bandLim 16 10
def tuckTh (b : BaseCfg) : Nat := fld b.tuck 0 10
def readdTh (b : BaseCfg) : Nat := fld b.tuck 16 10
/-- TUCK_MIN: 1 to 7 as themselves, 0 codes 8 (R83). -/
def tuckMin (b : BaseCfg) : Nat := let v := fld b.tuck 28 3; if v = 0 then 8 else v
def lowcellMv (b : BaseCfg) : Nat := fld b.lowcell 0 10
def dmodeOf (c : ChanCfg) : Nat := fld c.cfg 0 3
def laneOf (c : ChanCfg) : Nat := fld c.cfg 8 2
def kpOf (c : ChanCfg) : Int := (fld c.gain 16 16 : Nat)
def kiOf (c : ChanCfg) : Int := (fld c.gain 0 16 : Nat)
def ktOf (c : ChanCfg) : Int := (fld c.trim 0 8 : Nat)

/-- Element `i` of a list of integers, 0 outside. -/
def getI (l : List Int) (i : Nat) : Int := l.getD i 0
/-- Element `i` of a list of flags, false outside. -/
def getB (l : List Bool) (i : Nat) : Bool := l.getD i false

/-! ### Codes and shares -/

/-- The setpoint code of a current (R64): rounded half away from zero and clamped; the flag says that it was
clamped. -/
def codeOf (i : Int) (rsh : Nat) : Int × Bool :=
  let c := divRound (i * rsh * 32768) 100000000000
  (clampInt (-32768) 32767 c, decide (c < -32768 ∨ 32767 < c))

/-- The active phases of a gang (R76): not tucked and not latched. -/
def activeList (gang : Nat) (tucked latched : List Bool) : List Bool :=
  (List.range gang).map fun i => !getB tucked i && !getB latched i

/-- How many phases are active. -/
def countB (l : List Bool) : Nat := (l.filter id).length

/-- Index of the lock phase, the lowest-numbered active phase (R71). -/
def lockIdx (active : List Bool) : Nat := active.findIdx id

/-- The shares of R76, the half shares of R85 and R86 included: a phase on half share carries half of its R76
share, and the other active phases divide the rest under R76. -/
def sharesOf (iref : Int) (active half : List Bool) : List Int :=
  let m := countB active
  if m = 0 then active.map fun _ => 0
  else
    let base := divZero iref m
    let halfShare := divZero base 2
    let halves := (List.range active.length).filter fun i => getB active i && getB half i
    let full := (List.range active.length).filter fun i => getB active i && !getB half i
    let rest := iref - halfShare * halves.length
    let mf := full.length
    if mf = 0 then
      (List.range active.length).map fun i => if getB active i then halfShare else 0
    else
      let b := divZero rest mf
      let rem := rest - b * mf
      let first := full.headD 0
      (List.range active.length).map fun i =>
        if !getB active i then 0
        else if getB half i then halfShare
        else if i = first then b + rem else b

/-- The share has the sign opposite to `sign`, that of the last share that was not 0 (R102). -/
def signFlips (share sign : Int) : Bool := decide (share < 0 ∧ 0 < sign) || decide (0 < share ∧ sign < 0)

/-- The sign of the last share that was not 0, this share included. -/
def signAfter (share sign : Int) : Int := if share = 0 then sign else if share < 0 then -1 else 1

/-- The trim of one phase (R102). -/
def trimStep (t share sign iMean : Int) (kt : Int) (rsh : Nat) (starting : Bool) : Int :=
  let lim : Int := (phaseFs rsh * 5 / 100 : Nat)
  if starting || signFlips share sign then 0
  else clampInt (-lim) lim (t + divZero ((share - iMean) * kt) 256)

/-! ### Loops -/

/-- The proportional part of the CV loop with its accumulator (R103). -/
def cvOut (c : ChanCfg) (vref v acc : Int) : Int := divZero (kpOf c * (vref - v)) 1000 + acc

/-- The accumulator after the beat (R103): not advanced where the output lies at a limit and the error pushes on. -/
def cvAcc (c : ChanCfg) (vref v acc out hi lo : Int) : Int :=
  let e := vref - v
  if (hi ≤ out ∧ 0 < e) ∨ (out ≤ lo ∧ e < 0) then acc else acc + divZero (kiOf c * e) 1000000

/-- The CP equation of R101: P × 10^9 / max(V̄, 500,000), in µA with P in mW and V̄ in µV. -/
def cpCurrent (p v : Int) : Int := divZero (p * 1000000000) (max v 500000)

/-- The CR equation of R101. -/
def crCurrent (r : Nat) (v : Int) : Int :=
  if 0 < v ∧ r ≠ 0 then divZero (-v * 1000000) r else 0

/-! ### The ramp generator -/

/-- One beat of a ramp (R80): the value, its fraction in 1/1,000 and the target; rate 0 is bypass (R79). -/
def rampStep (v : Int) (frac : Nat) (target : Int) (rate : Nat) : Int × Nat :=
  if rate = 0 then (target, 0)
  else
    let total := frac + rate
    let whole : Int := (total / 1000 : Nat)
    let f := total % 1000
    if v < target then (if target ≤ v + whole then (target, 0) else (v + whole, f))
    else if target < v then (if v - whole ≤ target then (target, 0) else (v - whole, f))
    else (target, 0)

/-- The bound rate of an ordinary stop (R81), µA per ms. -/
def ordinaryRate (glideI : Nat) (iref : Int) : Nat := max glideI (ceilDiv iref.natAbs 10)

/-- The bound rate of a forced stop (R81), µA per ms: |I_ref| / 900 µs. -/
def forcedRate (glideI : Nat) (iref : Int) : Nat := max glideI (ceilDiv (iref.natAbs * 10) 9)

/-- The bound rate of a governor change (R81): ΔI / 500 µs with ΔI = |old k − new k| × i_vc. -/
def governorRate (glideI oldK newK : Nat) (ivc : Int) : Nat :=
  let dk := if oldK ≤ newK then newK - oldK else oldK - newK
  max glideI (ceilDiv (2 * dk * ivc.natAbs) 65536)

/-- The start of a stop on the loop state (R82): the generator enters STOP_RAMP toward 0 at its bound rate, or is at
ZERO already. A forced stop raises the rate of an ordinary one that runs. -/
def loopStop (l : LoopState) (glideI : Nat) (forced : Bool) : LoopState :=
  match l.ramp with
  | .zero => { l with lane := none }
  | .stopRamp =>
      if forced then { l with rate := max l.rate (forcedRate glideI l.ref), lane := none }
      else { l with lane := none }
  | _ =>
      { l with ramp := .stopRamp, target := 0, refFrac := 0, lane := none
               rate := if forced then forcedRate glideI l.ref else ordinaryRate glideI l.ref }

/-- The tuck state STEADY with no phase on half share; the qualification count resets (R88). -/
def tuckSteady (l : LoopState) : LoopState :=
  { l with tuck := .steady, half := [], shedOff := false, tuckBreak := true }

/-- The loop state right after a trip or latch (R82): reference 0 at once, no ramp. DESIGN CHOICE (log entry 60): a channel
that has come to rest, by a stop or by a trip, has no tucked phase. -/
def loopTrip (l : LoopState) : LoopState :=
  { tuckSteady l with ramp := .zero, ref := 0, refFrac := 0, target := 0, lane := none, vclamp := false, acc := 0
                      tucked := [], startDue := false }

end Sys2Proof.Machine
end

