-- ==== Sys2Proof/Machine/Steps.lean ====
section
/-!
DEFINITION. Recipes as data: record layouts (R177, R178, R185), the load checks of R199, loops and chains
(R191 to R193), levels of PULSE and DCIR (R183), costs of steps and states (R33, R34, R36).
-/
namespace Sys2Proof.Machine

/-! ### Step types (R179) -/

def tREST : Nat := 0x00
def tCC : Nat := 0x01
def tCV : Nat := 0x02
def tCCCV : Nat := 0x03
def tCP : Nat := 0x04
def tCR : Nat := 0x05
def tPULSE : Nat := 0x06
def tDCIR : Nat := 0x07
def tOCV : Nat := 0x08
def tCAPD : Nat := 0x09
def tCAPC : Nat := 0x0A
def tGOTO : Nat := 0x10
def tLOOP : Nat := 0x11
def tBARRIER : Nat := 0x12
def tEND : Nat := 0x13

/-- A TYPE code of R179. -/
def isType (t : Nat) : Bool := t ≤ 0x0A || (0x10 ≤ t && t ≤ 0x13)
/-- GOTO, LOOP and END execute no beats (R191). -/
def isChainType (t : Nat) : Bool := t = tGOTO || t = tLOOP || t = tEND
/-- A step that executes beats with a mode; BARRIER apart. -/
def isExecType (t : Nat) : Bool := t ≤ 0x0A
/-- The measuring steps of R118. -/
def isMeasuring (t : Nat) : Bool := t = tDCIR || t = tCAPD || t = tCAPC || t = tOCV

/-- The mode a step supplies (R179). CCCV and CAP_CHARGE read CC until CV_REACHED (R182). -/
def modeOfType (t : Nat) (cvReached : Bool) : Mode :=
  if t = tCC ∨ t = tPULSE ∨ t = tDCIR ∨ t = tCAPD then .cc
  else if t = tCV then .cv
  else if t = tCCCV ∨ t = tCAPC then (if cvReached then .cv else .cc)
  else if t = tCP then .cp
  else if t = tCR then .cr
  else .rest

/-! ### Record layouts -/

/-- A termination entry of 8 bytes (R185). -/
def parseTerm (bs : List Byte) (off : Nat) : Term :=
  { kind := getLe bs off 1, next := getLe bs (off + 1) 1, qual := getLe bs (off + 2) 2, value := getLe bs (off + 4) 4 }

/-- A step record of 64 bytes (R178). -/
def parseStep (bs : List Byte) : StepRec :=
  { typ := getLe bs 0 1, flags := getLe bs 1 1, dnext := getLe bs 2 1, count := getLe bs 3 1
    duration := getLe bs 4 4, set1 := getLeS bs 8 4, set2 := getLeS bs 12 4, param1 := getLe bs 16 4
    param2 := getLe bs 20 4, ilim := getLe bs 24 4, vsoft := getLeS bs 28 4
    terms := [parseTerm bs 0x20, parseTerm bs 0x28, parseTerm bs 0x30, parseTerm bs 0x38] }

/-- The step records of a recipe image (R177). -/
def parseSteps (bs : List Byte) (n : Nat) : List StepRec :=
  (List.range n).map fun i => parseStep (slice bs (64 * (i + 1)) 64)

/-- The recipe that an image spells, its header taken as R177 lays it out. -/
def parseRecipe (bs : List Byte) : Recipe :=
  { number := getLe bs 3 1, shared := (getLe bs 6 2) % 2 = 1, nomCharge := getLe bs 8 8
    gradeTable := getLe bs 0x10 1, version := BitVec.ofNat 32 (getLe bs 0x14 4)
    crc := BitVec.ofNat 32 (getLe bs 0x3C 4), steps := parseSteps bs (getLe bs 4 2), image := bs }

/-- Step `i` of a recipe; a step that is not there reads as END with action REST. -/
def Recipe.stepAt (r : Recipe) (i : Nat) : StepRec :=
  r.steps.getD i { typ := tEND, flags := 0, dnext := 0, count := 0, duration := 0, set1 := 0, set2 := 0,
                   param1 := 0, param2 := 0, ilim := 0, vsoft := 0, terms := [] }

/-- The step taken for a NEXT or DEFAULT_NEXT code: 0xFF is the following index (R178, R185). -/
def nextIdx (code i : Nat) : Nat := if code = 0xFF then i + 1 else code

/-! ### Chains and loops -/

/-- Where a transition leads (R191, R192, R194). -/
inductive Landing where
  | step (idx : Nat) (stack : List LoopEntry)       -- an executing step or BARRIER
  | finish (idx : Nat) (action : Nat) (grade : Bool)
deriving DecidableEq, Repr

/-- A loop-back of R192: the source is the end of the top entry's body and the target the index after it. -/
def loopBack (stack : List LoopEntry) (src tgt : Nat) : List LoopEntry × Nat :=
  match stack with
  | e :: es =>
      if e.last = src ∧ tgt = src + 1 then
        (if 1 < e.remaining then ({ e with remaining := e.remaining - 1 } :: es, e.head + 1) else (es, tgt))
      else (stack.filter fun e => e.head < tgt && tgt ≤ e.last, tgt)
  | [] => ([], tgt)

/-- The chain of a transition from `src` to `tgt`, at most `fuel` GOTO, LOOP and END steps (R191, R35). -/
def resolveChain (r : Recipe) : Nat → List LoopEntry → Nat → Nat → Landing
  | 0, _, _, tgt => .finish tgt 0 false
  | fuel + 1, stack, src, tgt =>
      let (stack, tgt) := loopBack stack src tgt
      let st := r.stepAt tgt
      if st.typ = tGOTO then resolveChain r fuel stack tgt st.param1
      else if st.typ = tLOOP then
        (if st.param1 = 0 then resolveChain r fuel stack tgt (st.param2 + 1)
         else resolveChain r fuel ({ head := tgt, last := st.param2, remaining := st.param1 } :: stack) tgt (tgt + 1))
      else if st.typ = tEND then .finish tgt st.param1 (st.flags % 2 = 1)
      else .step tgt stack

/-- The start of a recipe at step 0, chained steps resolved first (R200). -/
def resolveStart (r : Recipe) : Landing :=
  let st := r.stepAt 0
  if st.typ = tGOTO then resolveChain r 9 [] 0 st.param1
  else if st.typ = tLOOP then
    (if st.param1 = 0 then resolveChain r 9 [] 0 (st.param2 + 1)
     else resolveChain r 9 [{ head := 0, last := st.param2, remaining := st.param1 }] 0 1)
  else if st.typ = tEND then .finish 0 st.param1 (st.flags % 2 = 1)
  else .step 0 []

/-! ### Levels of the pulse steps (R183) -/

/-- The level of beat `j` (from 1) of a PULSE step: SET1 for PARAM1 beats, then SET2 for PARAM2 beats. -/
def pulseAtB (st : StepRec) (j : Nat) : Bool :=
  let p := st.param1 + st.param2
  p ≠ 0 && decide (st.param1 ≤ (j - 1) % p)

/-- Whether beat `j` (from 1) of a DCIR step lies in a pulse: COUNT pairs of base and pulse, then base. -/
def dcirAtPulse (st : StepRec) (j : Nat) : Bool :=
  let p := st.param1 + st.param2
  p ≠ 0 && decide ((j - 1) / p < st.count) && decide (st.param1 ≤ (j - 1) % p)

/-- The DCIR built-in end: the end of the base that follows the last pair. -/
def dcirEnd (st : StepRec) (j : Nat) : Bool :=
  decide (st.count * (st.param1 + st.param2) + st.param1 ≤ j)

/-! ### Costs (R33, R34, R36) -/

/-- Beat-job and milli-job figures of a step type (R33). -/
def stepCost (t : Nat) : Nat × Nat :=
  if t = tREST then (14, 1200) else if t = tCC then (22, 1400) else if t = tCV then (30, 1400)
  else if t = tCCCV then (34, 1600) else if t = tCP then (28, 1400) else if t = tCR then (28, 1400)
  else if t = tPULSE then (30, 1800) else if t = tDCIR then (36, 2000) else if t = tOCV then (18, 1600)
  else if t = tCAPD then (32, 2000) else if t = tCAPC then (36, 2000) else if t = tBARRIER then (12, 400)
  else (14, 1200)

/-- Figures of a direct mode: those of the step type of the same mode. -/
def modeCost (m : Mode) : Nat × Nat :=
  match m with
  | .off => (0, 0) | .rest => stepCost tREST | .cc => stepCost tCC | .cv => stepCost tCV
  | .cp => stepCost tCP | .cr => stepCost tCR

/-- The tenth-beat figure (R34). -/
def tenthCost (gang : Nat) (switching : Bool) : Nat :=
  if switching then (if gang ≤ 1 then 36 else if gang = 2 then 48 else if gang = 4 then 72 else 120) else 20

/-- The reserved cost of R36 from the three figures. -/
def reserveOf (b t m : Nat) : Nat := b + ceilDiv t 10 + ceilDiv m 1000

/-! ### The load checks (R199) -/

/-- Which of SET1, SET2, PARAM1, PARAM2, ILIM, VSOFT, COUNT and DURATION/TERMs a type uses (R179). -/
structure Uses where
  set1 : Bool
  set2 : Bool
  p1 : Bool
  p2 : Bool
  ilim : Bool
  vsoft : Bool
  count : Bool
  time : Bool
  dnext : Bool
deriving DecidableEq, Repr

def usesOf (t : Nat) : Uses :=
  let base : Uses := { set1 := false, set2 := false, p1 := false, p2 := false, ilim := false, vsoft := false,
                       count := false, time := isExecType t, dnext := isExecType t || t == tBARRIER }
  if t = tCC ∨ t = tCP ∨ t = tCR then { base with set1 := true, vsoft := true }
  else if t = tCV then { base with set1 := true, ilim := true }
  else if t = tCCCV then { base with set1 := true, set2 := true }
  else if t = tPULSE then { base with set1 := true, set2 := true, p1 := true, p2 := true, vsoft := true }
  else if t = tDCIR then { base with set1 := true, set2 := true, p1 := true, p2 := true, count := true }
  else if t = tCAPD ∨ t = tCAPC then { base with set1 := true, set2 := true }
  else if t = tGOTO ∨ t = tEND then { base with p1 := true }
  else if t = tLOOP ∨ t = tBARRIER then { base with p1 := true, p2 := true }
  else base

/-- A termination entry inside its ranges (R180, R185, R186). -/
def termOk (t : Term) : Bool :=
  if t.kind = 0 then t.next = 0 && t.qual = 0 && t.value = 0
  else if t.kind = 1 ∨ t.kind = 5 ∨ t.kind = 6 then t.qual = 0
  else if t.kind = 7 then 1 ≤ t.qual
  else if t.kind = 8 ∨ t.kind = 9 then
    decide (-32768 ≤ signed 32 t.value) && decide (signed 32 t.value ≤ 32767)
  else t.kind ≤ 9

/-- Ranges of the used fields and zeros of the unused ones (R179, R180, R196). -/
def fieldsOk (st : StepRec) (gradeTable : Nat) : Bool :=
  let u := usesOf st.typ
  let big := 1000000000
  (u.set1 || st.set1 == 0) && (u.set2 || st.set2 == 0) && (u.p1 || st.param1 == 0) && (u.p2 || st.param2 == 0) &&
  (u.ilim || st.ilim == 0) && (u.vsoft || st.vsoft == 0) && (u.count || st.count == 0) &&
  (u.time || (st.duration == 0 && st.terms.all fun t => t.kind == 0 && termOk t)) &&
  (u.dnext || st.dnext == 0) && st.terms.all termOk && decide (st.flags < 4) &&
  (st.flags % 2 == 0 || (st.typ == tEND && gradeTable != 0xFF)) &&
  (st.typ != tCR || decide (0 < st.set1)) &&
  ((st.typ != tPULSE && st.typ != tDCIR) ||
    (1 ≤ st.param1 && st.param1 ≤ big && 1 ≤ st.param2 && st.param2 ≤ big)) &&
  (st.typ != tDCIR || 1 ≤ st.count) &&
  (st.typ != tLOOP || st.param1 ≤ 65535) &&
  (st.typ != tBARRIER || 1 ≤ st.param1) &&
  (st.typ != tEND || st.param1 ≤ 2)

/-- The targets of step `i`: its NEXT codes, its DEFAULT_NEXT or its GOTO target, as indices. -/
def targetsOf (st : StepRec) (i : Nat) : List Nat :=
  let ts := (st.terms.filter fun t => t.kind != 0).map fun t => nextIdx t.next i
  if st.typ = tGOTO then [st.param1]
  else if (usesOf st.typ).dnext then nextIdx st.dnext i :: ts else ts

/-- The explicit targets of step `i`, the following index left aside. -/
def explicitTargets (st : StepRec) : List Nat :=
  let ts := ((st.terms.filter fun t => t.kind != 0).map fun t => t.next).filter fun c => c != 0xFF
  if st.typ = tGOTO then [st.param1]
  else if (usesOf st.typ).dnext then (if st.dnext = 0xFF then ts else st.dnext :: ts) else ts

/-- The bodies (L, E) of a recipe's LOOP steps. -/
def bodiesOf (steps : List StepRec) : List (Nat × Nat) :=
  ((List.range steps.length).zip steps).filterMap fun (i, st) => if st.typ = tLOOP then some (i, st.param2) else none

/-- `x` lies in the body of a loop. -/
def inBody (b : Nat × Nat) (x : Nat) : Bool := b.1 < x && x ≤ b.2

/-- Two bodies are neither disjoint nor nested with the inner end strictly before the outer (R193). -/
def bodiesClash (b c : Nat × Nat) : Bool :=
  !(decide (b.2 < c.1 + 1) || decide (c.2 < b.1 + 1) || (inBody c b.1 && decide (b.2 < c.2)) || (inBody b c.1 && decide (c.2 < b.2)))

/-- Step `i` keeps the loop structure of R193: its own body, the nesting of it in the bodies of the LOOPs before it, the
depth at which it lies, its targets. DESIGN CHOICE (log entry 72): of two bodies that clash the LOOP with the higher index
is the step at fault. -/
def loopStepOk (steps : List StepRec) (i : Nat) (st : StepRec) : Bool :=
  let bs := bodiesOf steps
  (st.typ != tLOOP || (decide (i < st.param2) && decide (st.param2 + 2 ≤ steps.length) &&
    (bs.filter fun b => b.1 < i).all fun b => !bodiesClash b (i, st.param2))) &&
  decide ((bs.filter fun b => inBody b i).length ≤ 4) &&
  ((explicitTargets st).all fun t => bs.all fun b => !inBody b t || inBody b i)

/-- Longest chain of GOTO, LOOP and END steps from `i` on, cut at `fuel`; a chain that does not end within the fuel
counts as too long (R35). A LOOP may continue at its body, or past its end when its count is 0 or is used up. -/
def chainLen (steps : List StepRec) : Nat → Nat → Nat
  | 0, _ => 9
  | fuel + 1, i =>
      match steps[i]? with
      | none => 0
      | some st =>
          if st.typ = tGOTO then
            let back := (bodiesOf steps).find? fun b => b.2 == i && st.param1 == i + 1
            1 + max (chainLen steps fuel st.param1)
              (match back with | some b => chainLen steps fuel (b.1 + 1) | none => 0)
          else if st.typ = tLOOP then
            (if st.param1 = 0 then 1 + chainLen steps fuel (st.param2 + 1) else 1 + chainLen steps fuel (i + 1))
          else if st.typ = tEND then 1 else 0

/-- No path chains more than 8 steps without an executing step (R35). -/
def chainsOk (steps : List StepRec) : Bool := (List.range steps.length).all fun i => chainLen steps 9 i ≤ 8

/-- The sign and termination rules of the measuring capacity steps (R179). -/
def capOk (st : StepRec) : Bool :=
  let noCount := st.terms.all fun t => t.kind != 5 && t.kind != 6
  if st.typ = tCAPD then decide (st.set1 < 0) && noCount
  else if st.typ = tCAPC then decide (0 < st.set1) && noCount && st.terms.any fun t => t.kind == 4
  else true

/-- An executing step that would never end (NO_END of R199). -/
def neverEnds (st : StepRec) : Bool :=
  isExecType st.typ && st.typ != tCAPD && st.typ != tDCIR && st.duration == 0xFFFFFFFF &&
    st.terms.all fun t => t.kind == 0

/-- The first step at fault under a check. -/
def firstBad (steps : List StepRec) (p : Nat → StepRec → Bool) : Option Nat :=
  (((List.range steps.length).zip steps).find? fun (i, st) => !p i st).map Prod.fst

/-- The header faults of R177 (BAD_HEADER of R199). -/
def headerOk (bs : List Byte) : Bool :=
  getLe bs 0 2 == 0x5152 && getLe bs 2 1 == 1 && 1 ≤ getLe bs 4 2 && getLe bs 4 2 ≤ 256 && getLe bs 6 2 < 2 &&
  getLe bs 8 8 != 0 && getLe bs 0x11 3 == 0 && getLe bs 0x28 20 == 0

/-- The CRC of a recipe image (R177): the header up to 0x3B followed by all step records. -/
def recipeCrc (bs : List Byte) (n : Nat) : Word := crc32 (slice bs 0 0x3C ++ slice bs 64 (64 * n))

/-- The checks of R199 from BAD_TYPE on: status and step index, or none when every check passes. -/
def stepChecks (steps : List StepRec) (gradeTable : Nat) : Option (Nat × Nat) :=
  let n := steps.length
  match firstBad steps (fun _ st => isType st.typ) with
  | some i => some (20, i)
  | none =>
  match firstBad steps (fun _ st => fieldsOk st gradeTable) with
  | some i => some (21, i)
  | none =>
  match firstBad steps (fun _ st => (explicitTargets st).all fun t => t < n) with
  | some i => some (22, i)
  | none =>
  match firstBad steps (fun i st => !(i + 1 == n && (isExecType st.typ || st.typ == tBARRIER)) ||
      (targetsOf st i).all fun t => t < n) with
  | some i => some (23, i)
  | none =>
  match firstBad steps (loopStepOk steps) with
  | some i => some (24, i)
  | none =>
  if !chainsOk steps then
    some (25, ((List.range n).find? fun i => 8 < chainLen steps 9 i).getD 0)
  else
  match firstBad steps (fun _ st => !neverEnds st) with
  | some i => some (26, i)
  | none =>
  match firstBad steps (fun _ st => capOk st) with
  | some i => some (27, i)
  | none => none

/-- A recipe that holds a TEMP termination (R188). -/
def Recipe.hasTemp (r : Recipe) : Bool := r.steps.any fun st => st.terms.any fun t => t.kind == 8 || t.kind == 9

/-- A CV, CCCV or CAP_CHARGE voltage target outside the channel's limits (R200). -/
def Recipe.targetOutside (r : Recipe) (lo hi : Int) : Bool :=
  r.steps.any fun st =>
    let v := if st.typ = tCV then some st.set1 else if st.typ = tCCCV ∨ st.typ = tCAPC then some st.set2 else none
    match v with
    | some v => decide (v < lo) || decide (hi < v)
    | none => false

/-- A CAP_DISCHARGE cutoff at or below the lower voltage limit (R200). -/
def Recipe.cutoffAtVlim (r : Recipe) (lo : Int) : Bool :=
  r.steps.any fun st => st.typ == tCAPD && decide (st.set2 ≤ lo)

end Sys2Proof.Machine
end

