-- ==== Sys2Proof/Machine/JobCore.lean ====
section
/-!
DEFINITION. The beat job of a channel as a function of its input half and of what R22, R26, R101 and R206 let it
read: counting (R209), terminations and transitions (R189 to R197), the lane frame (R111), the pipeline (R101), tuck
demand (R86), impedance windows (R221 to R226).
-/
namespace Sys2Proof.Machine

/-- What a beat job reads beside its half (R26, R101, R206). -/
structure JobEnv extends JobIn where
  chan : Nat
  beat : Beat                      -- the job's beat N
  cfg : ChanCfg
  base : BaseCfg
  gang : Nat
  rsh : Nat
  pairs : List Pair                -- current samples of the gang's phases
  volt : Pair
  frames : List LaneFrame          -- the channel's frames that are inputs of the beat, arrival order
  recipe : Option Recipe           -- the recipe that runs
  release : Bool                   -- a release of the barrier waited at applies for beat N + 1 (R197)
deriving DecidableEq, Repr

/-! ### Measurements -/

/-- A phase current in µA of one sample (R126). -/
def sampleI (x : Int) (rsh : Nat) : Int := divRound (x * 1000000) (256 * rsh)

/-- A voltage sample in µV. -/
def sampleV (x : Int) : Int := divRound x 256

/-- Beat-mean current of a phase (R150). -/
def phaseMean (p : Pair) (rsh : Nat) : Int :=
  match p.validA, p.validB with
  | true, true => divRound ((p.a + p.b) * 1000000) (512 * rsh)
  | true, false => sampleI p.a rsh
  | false, true => sampleI p.b rsh
  | false, false => 0

/-- Beat-mean voltage of the cell (R101, R150). -/
def voltMean (p : Pair) : Int :=
  match p.validA, p.validB with
  | true, true => divRound (p.a + p.b) 512
  | true, false => sampleV p.a
  | false, true => sampleV p.b
  | false, false => 0

def sumI (l : List Int) : Int := l.foldl (· + ·) 0

/-- Channel current, the sum over its phases (R101, R150). -/
def chanMean (env : JobEnv) : Int := sumI (env.pairs.map fun p => phaseMean p env.rsh)

/-- The counters after both samples of the beat's set (R209, R210). Invalid samples add nothing (R128). -/
def countBeat (env : JobEnv) (c : Counters) : Counters :=
  let iA := sumI (env.pairs.map fun p => if p.validA then sampleI p.a env.rsh else 0)
  let iB := sumI (env.pairs.map fun p => if p.validB then sampleI p.b env.rsh else 0)
  let okA := env.volt.validA
  let okB := env.volt.validB
  let q := openDiv (iA * 2147483648) 1000000 + openDiv (iB * 2147483648) 1000000
  let eA := if okA then openDiv (sampleV env.volt.a * iA * 2147483648) 1000000000000 else 0
  let eB := if okB then openDiv (sampleV env.volt.b * iB * 2147483648) 1000000000000 else 0
  { c with runQ := c.runQ + q, runE := c.runE + (eA + eB), stepQ := c.stepQ + q, stepE := c.stepE + (eA + eB),
           refQ := c.refQ + q, through := c.through + q.natAbs }

/-- The visible integer part of a counter, rounded toward zero (R209). -/
def visible (x : Int) : Int := divZero x 4294967296

/-! ### Terminations (R185 to R190) -/

/-- The level condition of a termination in a beat, before its QUAL count (R186). -/
def termHolds (env : JobEnv) (kApplied : Nat) (c : Counters) (t : Term) (v i : Int) (armed : Bool)
    (ran : Nat) : Bool :=
  match t.kind with
  | 1 => decide (max 1 (1000 * t.value) ≤ ran)
  | 2 => decide (signed 32 t.value ≤ v)
  | 3 => decide (v ≤ signed 32 t.value)
  | 4 => armed && kApplied = 65536 && (env.govK = 65536 || !env.deferrable) && decide (i.natAbs ≤ t.value)
  | 5 => decide (1000 * t.value ≤ (visible c.stepQ).natAbs)
  | 6 => decide (1000 * t.value ≤ (visible c.stepE).natAbs)
  | 7 =>
      (match env.vHist.head?, env.vHist[1000 * t.qual]? with
       | some (a, _), some (b, _) =>
           decide (1000000 * t.qual ≤ ran) && decide ((a - b).natAbs * 3600 ≤ t.value * t.qual)
       | _, _ => false)
  | 8 => !env.tempOld && decide (env.temp ≠ -32768) && decide (signed 32 t.value ≤ env.temp)
  | 9 => !env.tempOld && decide (env.temp ≠ -32768) && decide (env.temp ≤ signed 32 t.value)
  | _ => false

/-- Kinds whose QUAL is a count of beats (R185). -/
def qualKind (k : Nat) : Bool := k = 2 || k = 3 || k = 4 || k = 8 || k = 9

/-- The QUAL counts after the beat (R190 item 1). -/
def qualUpdate (holds : List Bool) (old : List Nat) : List Nat :=
  (List.range 4).map fun k => if getB holds k then old.getD k 0 + 1 else 0

/-- A termination that fires: its condition holds and, for the level kinds, has held QUAL beats in a row. -/
def termFires (t : Term) (holds : Bool) (count : Nat) : Bool :=
  t.kind ≠ 0 && holds && (!qualKind t.kind || decide (max 1 t.qual ≤ count))

/-- What ends the step in this beat, in the order of R190: cause and NEXT code. -/
def stepEnds (st : StepRec) (ran capLow edge : Nat) (holds : List Bool) (counts : List Nat) :
    Option (EndCause × Nat) :=
  let fires := fun k => termFires (st.terms.getD k { kind := 0, next := 0, qual := 0, value := 0 }) (getB holds k)
    (counts.getD k 0)
  let nx := fun k => (st.terms.getD k { kind := 0, next := 0, qual := 0, value := 0 }).next
  if (st.typ = tCAPD ∧ 16 ≤ capLow) ∨ (st.typ = tDCIR ∧ dcirEnd st edge = true) then some (.builtin, st.dnext)
  else if fires 0 then some (.term0, nx 0)
  else if fires 1 then some (.term1, nx 1)
  else if fires 2 then some (.term2, nx 2)
  else if fires 3 then some (.term3, nx 3)
  else if st.duration ≠ 0xFFFFFFFF ∧ max 1 (1000 * st.duration) ≤ ran then some (.duration, st.dnext)
  else none

/-! ### Transitions -/

/-- The step-event request of a step with NOTIFY (R178, R287 type 1). -/
def stepEvent (env : JobEnv) (beat : Beat) (recipe step isEnd cause next : Nat) : EvReq :=
  { beat := beat, kind := .channel, subject := env.chan, typ := 1,
    data := [BitVec.ofNat 8 recipe, BitVec.ofNat 8 step, BitVec.ofNat 8 isEnd, BitVec.ofNat 8 cause, BitVec.ofNat 8 next] }

/-- ABANDONED for a transition that is still open when its override ends (R114). -/
def abandonAcks (chan : Nat) (l : LoopState) : List Ack :=
  match l.lane with
  | some t => if t.isOpen then [{ chan := chan, tag := t.tag, code := 4 }] else []
  | none => []

/-- The loop state after the lane override has ended (R114). -/
def loopNoLane (l : LoopState) : LoopState := { l with lane := none }

/-- The fields of a step at its first beat (R189, R204). -/
def freshStep (st : StepState) (idx : Nat) (first : Beat) (stack : List LoopEntry) : StepState :=
  { st with step := idx, stepBeat := first, beats := 0, qual := [0, 0, 0, 0], armed := false, cvReached := false,
            capLow := 0, inPulse := false, edgeBeats := 1, stack := stack, resumed := false, holdBeats := 0 }

/-- The step-state part of reaching a landing (R189, R194, R197): `stop` is the stop that the landing asks of the
ramp generator. -/
def land (r : Recipe) (st : StepState) (first : Beat) : Landing → StepState × Option StopTarget
  | .step idx stack =>
      let rec_ := r.stepAt idx
      let st := freshStep st idx first stack
      if rec_.typ = tBARRIER then ({ st with mode := .rest, running := true, entered := true }, some .hold)
      else if modeOfType rec_.typ false = .rest then
        ({ st with mode := .rest, running := true, entered := true, base := .run }, some .rest)
      else ({ st with mode := modeOfType rec_.typ false, running := true, entered := true, base := .run }, none)
  | .finish _ action grade =>
      let st := { st with running := false, stack := [], mode := .rest, gradeDue := st.gradeDue || grade,
                          base := .run, entered := false, cvReached := false }
      (st, some (if action = 1 then .off else if action = 2 then .chrysalis else .rest))

/-- The channel's step state where a stop has reached ZERO (R82, R201). -/
def arrive (st : StepState) (dest : StopTarget) : StepState :=
  match dest with
  | .rest => { st with base := .run, mode := .rest, forced := false }
  | .off => { st with base := .off, mode := .off, forced := false }
  | .chrysalis => { st with base := .chrysalis, mode := .rest, forced := false, wakeCount := 0 }
  | .hold => { st with base := .hold, mode := .rest, forced := false, holdBeats := 0 }

/-- A stop asked of a half: the generator enters STOP_RAMP, or the target is reached at once when it is at ZERO. -/
def stopHalf (c : Context) (chan glideI : Nat) (dest : StopTarget) (forced : Bool) : Context :=
  let acks := abandonAcks chan c.loop
  let dest := if c.loop.ramp = .stopRamp ∧ c.step.forced = true ∧ c.step.stopTo = .off then .off
            else if c.loop.ramp = .stopRamp ∧ c.step.forced = true ∧ forced = false then c.step.stopTo else dest
  let loop := loopStop c.loop glideI forced
  let st := { c.step with stopTo := dest, forced := forced || c.step.forced, after := .none }
  if loop.ramp = .zero then { c with loop := loop, step := arrive st dest, acks := c.acks ++ acks }
  else { c with loop := loop, step := { st with mode := .rest }, acks := c.acks ++ acks }

/-- An empty termination entry. -/
def noTerm : Term := { kind := 0, next := 0, qual := 0, value := 0 }

/-- A transition of the running recipe from `src` to the step that `code` names (R189 to R194). -/
def transition (env : JobEnv) (r : Recipe) (c : Context) (code : Nat) (cause : EndCause) : Context :=
  let src := c.step.step
  let old := r.stepAt src
  let landing := resolveChain r 9 c.step.stack src (nextIdx code src)
  let next := match landing with | .step i _ => i | .finish i _ _ => i
  let st := { c.step with endStep := src, endNext := next, endCause := cause }
  let (st, stop) := land r st (env.beat + 1) landing
  let evEnd := if old.flags / 2 % 2 = 1 then [stepEvent env env.beat c.step.recipe src 1 cause.code next] else []
  let evStart := match landing with
    | .step i _ => if (r.stepAt i).flags / 2 % 2 = 1 then [stepEvent env (env.beat + 1) c.step.recipe i 0 0 0] else []
    | .finish i action _ =>
        [{ beat := env.beat, kind := .channel, subject := env.chan, typ := 2,
           data := [BitVec.ofNat 8 c.step.recipe, BitVec.ofNat 8 i, BitVec.ofNat 8 action] }]
  let fin : StepEnd := { recipe := c.step.recipe, step := src, typ := old.typ, set1 := old.set1, cause := cause
                         termKind := match cause with
                           | .term0 => (old.terms.getD 0 noTerm).kind | .term1 => (old.terms.getD 1 noTerm).kind
                           | .term2 => (old.terms.getD 2 noTerm).kind | .term3 => (old.terms.getD 3 noTerm).kind
                           | _ => 0
                         cvReached := c.step.cvReached, resumed := c.step.resumed, lane := false, reason := 0
                         charge := visible c.cnt.stepQ, energy := visible c.cnt.stepE, endBeat := env.beat
                         beats := c.step.beats }
  let c := { c with step := st, cnt := { c.cnt with stepQ := 0, stepE := 0 }, ends := [fin]
                    evs := c.evs ++ evEnd ++ evStart,
                    acks := c.acks ++ abandonAcks env.chan c.loop, loop := loopNoLane c.loop }
  match stop with
  | some t => stopHalf c env.chan (fld env.base.glideI 0 32) t false
  | none => c

/-- The evaluation of R190 in one beat of an executing step. -/
def evalStep (env : JobEnv) (r : Recipe) (c : Context) (v i : Int) : Context :=
  let st := c.step
  let rec_ := r.stepAt st.step
  let ran := st.beats + 1
  let armed := st.armed || c.loop.ramp == .settled
  let capLow := if rec_.typ = tCAPD ∧ v ≤ rec_.set2 then st.capLow + 1 else 0
  let holds := rec_.terms.map fun t => termHolds env c.loop.kApplied c.cnt t v i armed ran
  let counts := qualUpdate holds st.qual
  let c := { c with step := { st with beats := ran, armed := armed, capLow := capLow, qual := counts } }
  match stepEnds rec_ ran capLow st.edgeBeats holds counts with
  | some (cause, code) => transition env r c code cause
  | none => c

/-- One beat in HOLD at a BARRIER (R197, R198): a release for the next beat moves the channel on. The wait limit is
BARRIER_TIMEOUT's own step. -/
def evalHold (env : JobEnv) (r : Recipe) (c : Context) : Context :=
  let rec_ := r.stepAt c.step.step
  let c := { c with step := { c.step with holdBeats := c.step.holdBeats + 1, beats := c.step.beats + 1 } }
  if env.release then transition env r c rec_.dnext .release else c

/-! ### The lane frame (R111) -/

/-- The lane target of a frame in µA or µV (R108): one rounding of the exact product, phase full scale being 10^11 / Rsh. -/
def frameTarget (env : JobEnv) (f : LaneFrame) : Int :=
  if f.kind = 1 then f.target * 50
  else divZero (f.target * (env.gang * 100000000000 : Nat)) (env.rsh * 131072)

/-- The rate of a frame: M × 10^E, 0 bypass (R108). -/
def frameRate (f : LaneFrame) : Nat := (f.slew / 8 % 32) * 10 ^ (f.slew % 8)

/-- The limits in force for a channel: those of its window, tightened by the step (R105, R181). -/
def ilimits (env : JobEnv) (st : StepState) : Int × Int :=
  let lo := sword env.cfg.ilimLo
  let hi := sword env.cfg.ilimHi
  match env.recipe with
  | some r =>
      let s := r.stepAt st.step
      if st.running ∧ s.ilim ≠ 0 then (max lo (-(s.ilim : Int)), min hi s.ilim) else (lo, hi)
  | none => (lo, hi)

/-- The voltage limits in force; VSOFT acts on the side of the target's sign (R181). -/
def vlimits (env : JobEnv) (st : StepState) (target : Int) : Int × Int :=
  let lo := sword env.cfg.vlimLo
  let hi := sword env.cfg.vlimHi
  match env.recipe with
  | some r =>
      let s := r.stepAt st.step
      if st.running ∧ s.vsoft ≠ 0 then
        (if 0 < target then (lo, min hi s.vsoft) else if target < 0 then (max lo s.vsoft, hi) else (lo, hi))
      else (lo, hi)
  | none => (lo, hi)

/-- The answer of R111 to a frame with a good CRC on a configured channel that has a beat job: the code, or 1 when
it is ACCEPTED. -/
def frameAnswer (env : JobEnv) (c : Context) (f : LaneFrame) : Nat :=
  let st := c.step
  let rate := frameRate f
  let tgt := frameTarget env f
  let (ilo, ihi) := ilimits env st
  if 2 ≤ f.kind then 12
  else if laneOf env.cfg / 2 ^ f.kind % 2 = 0 then 9
  else if st.base = .chrysalis ∧ env.stopped = false then 5
  else if env.stopped = true ∨ st.base ≠ .run ∨ c.loop.ramp = .stopRamp then 11
  else if (f.kind = 0 ∧ st.mode ≠ .cc) ∨ (f.kind = 1 ∧ st.mode ≠ .cv) then 12
  else if f.kind = 0 ∧ ((rate ≠ 0 ∧ (rate < 1000 ∨ 100000000 < rate)) ∨ tgt < ilo ∨ ihi < tgt) then 10
  else if f.kind = 1 ∧ ((rate ≠ 0 ∧ (rate < 10 ∨ 1000000 < rate)) ∨ tgt < sword env.cfg.vlimLo ∨
      sword env.cfg.vlimHi < tgt) then 10
  else 1

/-- The frames of the beat acted on (R110 to R113). The last frame in arrival order is the one acted on, so an earlier one is
never ACCEPTED; DEDUCED (log entry 61): that holds too where the last one fails its CRC. -/
def laneAct (env : JobEnv) (c : Context) : Context :=
  match env.frames.reverse with
  | [] => c
  | f :: earlier =>
      let past := earlier.reverse.map fun g => ({ chan := env.chan, tag := g.tag, code := if g.crcOk then 3 else 8 } : Ack)
      let code := if f.crcOk then frameAnswer env c f else 8
      let ack : Ack := { chan := env.chan, tag := f.tag, code := code }
      if code = 1 then
        let old := match c.loop.lane with
          | some t => if t.isOpen then [({ chan := env.chan, tag := t.tag, code := 3 } : Ack)] else []
          | none => []
        let lt : LaneTarget := { tag := f.tag, voltage := f.kind == 1, target := frameTarget env f,
                                 rate := frameRate f, isOpen := true, isNew := true }
        { c with acks := c.acks ++ past ++ old ++ [ack], loop := { c.loop with lane := some lt } }
      else if code = 5 then
        { c with acks := c.acks ++ past ++ [ack], step := { c.step with wakeReq := true } }
      else { c with acks := c.acks ++ past ++ [ack] }

/-! ### The prevailing target and the mode equation -/

/-- The target of the step or the direct mode for the output of the next beat: current, voltage, power or
resistance by mode; the second part says that an edge of the step's own pulses falls there (R81, R183). DEDUCED (log
entry 21): the start of the pattern is an edge of it. -/
def stepTarget (env : JobEnv) (st : StepState) : Int × Bool :=
  match env.recipe, st.running with
  | some r, true =>
      let s := r.stepAt st.step
      if s.typ = tPULSE then
        (if pulseAtB s st.edgeBeats then s.set2 else s.set1, st.entered || st.fresh || pulseAtB s st.edgeBeats != st.inPulse)
      else if s.typ = tDCIR then
        (if dcirAtPulse s st.edgeBeats then s.set2 else s.set1, st.entered || st.fresh || dcirAtPulse s st.edgeBeats != st.inPulse)
      else (s.set1, false)
  | _, _ =>
      match st.mode with
      | .cc => (sword env.cfg.setI, false)
      | .cv => (sword env.cfg.setV, false)
      | .cp => (sword env.cfg.setP, false)
      | .cr => (env.cfg.setR.toNat, false)
      | _ => (0, false)

/-- A CCCV or CAP_CHARGE step runs (R182). -/
def inCccv (env : JobEnv) (st : StepState) : Option StepRec :=
  match env.recipe, st.running with
  | some r, true => let s := r.stepAt st.step; if s.typ = tCCCV ∨ s.typ = tCAPC then some s else none
  | _, _ => none

/-- What the mode equation and the limits give: i_vc, the loop state after them, CV_REACHED (R101 to R104, R182). -/
structure ModeOut where
  ivc : Int
  loop : LoopState
  cvReached : Bool
deriving DecidableEq, Repr

/-- The prevailing target of the beat (R276): in the CV part of CCCV and CAP_CHARGE the voltage target. -/
def prevailIn (env : JobEnv) (st : StepState) (cv : Bool) (p : Int) (lane : Option LaneTarget) : Int :=
  match inCccv env st, cv, lane with
  | some s, true, some lt => if lt.voltage then lt.target else s.set2
  | some s, true, none => s.set2
  | _, _, _ => p

/-- One soft voltage limit in a beat (R104): `hi` says which, `vl` is its voltage. The beat of entry starts its accumulator at
i_lim and sets VCLAMP; from the next beat on the limit releases where the loop output no longer restricts i_lim. -/
def softLimit (env : JobEnv) (l : LoopState) (hi : Bool) (vl ilim v ilo ihi : Int) : Int × LoopState :=
  let held := l.vclamp && l.clampHi == hi
  let a := if held then l.accLim else ilim
  let out := cvOut env.cfg vl v a
  let restricts := if hi then decide (out < ilim) else decide (ilim < out)
  (if hi then min ilim out else max ilim out,
   { l with accLim := cvAcc env.cfg vl v a out ihi ilo, vclamp := !held || restricts, clampHi := hi })

/-- The soft voltage limits on i_lim (R104). A limit whose sign of i_lim has gone releases. -/
def softLimits (env : JobEnv) (l : LoopState) (ilim v vlo vhi ilo ihi : Int) : Int × LoopState :=
  if 0 < ilim ∧ ((l.vclamp && l.clampHi) = true ∨ vhi ≤ v) then softLimit env l true vhi ilim v ilo ihi
  else if ilim < 0 ∧ ((l.vclamp && !l.clampHi) = true ∨ v ≤ vlo) then softLimit env l false vlo ilim v ilo ihi
  else (ilim, { l with vclamp := false })

/-- The mode equation with the limits (R101): current modes, CV with its glided reference, CCCV, whose CC part takes the
current path of R101 with the soft limits of R104 (R182). `starting` is the start of switching (R82). DESIGN CHOICE (log
entry 62): in the beat of entry into CV the reference takes its first glide step from V̄. -/
def modeOut (env : JobEnv) (l : LoopState) (st : StepState) (target v : Int) (starting : Bool) : ModeOut :=
  let (ilo, ihi) := ilimits env st
  match inCccv env st with
  | some s =>
      if s.set1 = 0 then { ivc := 0, loop := l, cvReached := false }
      else
        let a := if st.entered || st.fresh then l.ref else l.acc
        let set1 := match l.lane with | some t => if t.voltage then s.set1 else t.target | none => s.set1
        -- a VOLTAGE frame moves the CV reference of the step at its own rate (R111); else SET2 without glide
        let (vr, vf) := match l.lane with
          | some t => if t.voltage then rampStep l.vref l.vrefFrac t.target t.rate else (s.set2, 0)
          | none => (s.set2, 0)
        let c := cvOut env.cfg vr v a
        let im := if 0 < set1 then max 0 (min set1 c) else min 0 (max set1 c)
        let acc := if im = set1 then a else cvAcc env.cfg vr v a c ihi ilo
        let cv := st.cvReached || decide (im.natAbs < set1.natAbs)
        let l := { l with vref := vr, vrefFrac := vf, acc := acc }
        let il := clampInt ilo ihi im
        let (ivc, l) := if cv then (il, { l with vclamp := false })
          else softLimits env l il v (sword env.cfg.vlimLo) (sword env.cfg.vlimHi) ilo ihi
        { ivc := ivc, loop := l, cvReached := cv }
  | none =>
      match st.mode with
      | .cv =>
          let entry := starting || l.modeWas != .cv
          let v0 := if entry then v else l.vref
          let rate := match l.lane with
            | some t => if t.voltage then t.rate else fld env.base.glideV 0 32
            | none => fld env.base.glideV 0 32
          let (vr, vf) := rampStep v0 (if entry then 0 else l.vrefFrac) target rate
          let a := if entry then l.ref else l.acc
          let out := cvOut env.cfg vr v a
          { ivc := clampInt ilo ihi out
            loop := { l with vref := vr, vrefFrac := vf, acc := cvAcc env.cfg vr v a out ihi ilo, vclamp := false }
            cvReached := st.cvReached }
      | m =>
          let im := match m with
            | .cc => target
            | .cp => cpCurrent target v
            | .cr => crCurrent target.toNat v
            | _ => 0
          let il := clampInt ilo ihi im
          let (vlo, vhi) := vlimits env st im
          let (ivc, l') := softLimits env l il v vlo vhi ilo ihi
          { ivc := ivc, loop := l', cvReached := st.cvReached }

/-- The applied governor factor of the beat (R119): at once on the current path, ramped in CV and in the CV part of
CCCV. DEDUCED (log entry 21): a further change of k never slows a governor transition that still runs. -/
def applyK (env : JobEnv) (l : LoopState) (ivc : Int) (cvPart : Bool) : LoopState :=
  let k := if env.deferrable then env.govK else 65536
  if !cvPart then { l with kApplied := k, kRate := 0, lastK := k }
  else
    let rate :=
      if k = l.lastK then l.kRate
      else
        let dk := if k ≤ l.kApplied then l.kApplied - k else k - l.kApplied
        let di := dk * ivc.natAbs / 65536
        let rate := if di = 0 then dk
          else max 1 (ceilDiv (dk * governorRate (fld env.base.glideI 0 32) l.kApplied k ivc) (1000 * di))
        if l.kApplied = l.lastK then rate else max l.kRate rate
    let ka := if l.kApplied < k then min k (l.kApplied + rate) else max k (l.kApplied - rate)
    { l with kApplied := if rate = 0 then k else ka, kRate := rate, lastK := k }

/-! ### Output -/

/-- The slot positions of R77: 0 to m − 1 over the active phases in ascending order, while IL_EN is 1 and m ≥ 2. -/
def slotsOf (b : BaseCfg) (active : List Bool) : List Nat :=
  (List.range active.length).map fun k =>
    if ilEn b && decide (2 ≤ countB active) && getB active k then countB (active.take k) else 0

/-- Codes of the gang's phases from shares, trims and low-cell mode (R64, R67, R102). -/
def encode (env : JobEnv) (l : LoopState) (shares : List Int) (active : List Bool) (switching : Bool) : OutRec :=
  let cs := (List.range env.gang).map fun k =>
    if switching && getB active k then
      let i := getI shares k + getI l.trims k
      let i := if l.lowcell then max 0 i else i
      codeOf i env.rsh
    else (0, false)
  { codes := cs.map Prod.fst, bands := List.replicate env.gang env.band, sat := cs.map Prod.snd
    enable := (List.range env.gang).map fun k => switching && getB active k
    slots := slotsOf env.base active
    iref := if switching then l.ref else 0 }

/-- The phases that carry current: the active ones but a phase that sheds in SHED2 (R85). -/
def carryingOf (env : JobEnv) (l : LoopState) : List Bool :=
  let active := activeList env.gang l.tucked env.latched
  if l.tuck = .shed2 then (List.range env.gang).map fun k => getB active k && k != l.shed else active

/-- The output record with code 0 for a phase in SHED2, its enable off from the boundary at which its stop takes effect. -/
def shedOut (env : JobEnv) (l : LoopState) (o : OutRec) : OutRec :=
  let shed := fun (k : Nat) => l.tuck == .shed2 && k == l.shed
  { o with codes := (List.range env.gang).map fun k => if shed k then 0 else getI o.codes k
           enable := (List.range env.gang).map fun k => getB o.enable k && !(shed k && l.shedOff) }

/-- Trims and output for the reference of the loop state (R76, R85, R86, R102). -/
def outputOf (env : JobEnv) (l : LoopState) (starting : Bool) : LoopState × OutRec :=
  let carrying := carryingOf env l
  let m := countB carrying
  let lim : Int := (chanFs m env.rsh : Nat)
  let iref := clampInt (-lim) lim l.ref
  let shares := sharesOf iref carrying l.half
  let trims := (List.range env.gang).map fun k =>
    trimStep (getI l.trims k) (getI shares k) (getI l.signs k)
      (phaseMean (env.pairs.getD k { a := 0, b := 0, validA := false, validB := false }) env.rsh) (ktOf env.cfg) env.rsh
      (starting || !getB carrying k)
  let signs := (List.range env.gang).map fun k =>
    if starting || !getB carrying k then 0 else signAfter (getI shares k) (getI l.signs k)
  let l := { l with trims := trims, signs := signs, ref := iref }
  (l, shedOut env l (encode env l shares (activeList env.gang l.tucked env.latched) true))

/-- The output record of a channel that does not switch. -/
def idleOut (gang : Nat) : OutRec :=
  { codes := List.replicate gang 0, bands := List.replicate gang 0, sat := List.replicate gang false
    enable := List.replicate gang false, slots := List.replicate gang 0, iref := 0 }

/-- The step type in force as tuck sees it: that of the running recipe's step, CC in a direct mode. -/
def tuckType (env : JobEnv) (st : StepState) : Nat :=
  match env.recipe, st.running with | some r, true => (r.stepAt st.step).typ | _, _ => tCC

/-- The full gang is required (R87): a DCIR or PULSE step. -/
def tuckFull (env : JobEnv) (st : StepState) : Bool := tuckType env st == tDCIR || tuckType env st == tPULSE

/-- Tuck is suspended in the beat of a job (R87). -/
def tuckSuspended (env : JobEnv) (l : LoopState) (st : StepState) (moving : Bool) : Bool :=
  tuckFull env st || tuckType env st == tOCV || l.lowcell || l.ramp == .start || l.ramp == .stopRamp || moving

/-- Phases `chosen` are added again with half their share (R86). -/
def readdStart (gang : Nat) (chosen : List Nat) (l : LoopState) : LoopState :=
  { tuckSteady l with tuck := .readd1
                      tucked := (List.range gang).map fun k => getB l.tucked k && !chosen.contains k
                      half := (List.range gang).map fun k => chosen.contains k }

/-- How many tucked phases demand calls for (R86): none unless |I_target| > READD_TH × m, then as many as bring it to
READD_TH × m or below. -/
def readdNeed (env : JobEnv) (l : LoopState) (target : Int) : Nat :=
  let m := countB (activeList env.gang l.tucked env.latched)
  let th := readdTh env.base * 100000000000
  let t := target.natAbs * 1024 * env.rsh
  -- DESIGN CHOICE (log entry 60): with TUCK_TH 0 tuck is disabled, and phases tucked before stay so
  if tuckTh env.base = 0 ∨ t ≤ m * th then 0
  else if th = 0 then env.gang else ceilDiv t th - m

/-- Tuck in the beat job (R85 to R88): aborts, the next shed boundary, re-adds. The phase that sheds is marked tucked at the
boundary after it has stopped, in State.retuck. -/
def tuckStep (env : JobEnv) (l : LoopState) (st : StepState) (target : Int) (moving : Bool) : LoopState :=
  let m := countB (activeList env.gang l.tucked env.latched)
  let susp := tuckSuspended env l st moving
  let demand := decide (tuckTh env.base * (m - 1) * 100000000000 ≤ target.natAbs * 1024 * env.rsh)
  let cand := (List.range env.gang).filter fun k => getB l.tucked k && !getB env.latched k
  let l := { l with tuckSusp := susp, tuckBreak := l.tuckBreak || susp }
  if tuckFull env st && !cand.isEmpty then readdStart env.gang cand l
  else match l.tuck with
  | .shed1 => if susp || demand then tuckSteady l else { l with tuck := .shed2, half := [] }
  | .shed2 => if susp || demand then tuckSteady l else { l with shedOff := true }
  | .readd1 => { l with tuck := .steady, half := [] }
  | .steady =>
      let chosen := cand.take (readdNeed env l target)
      if chosen.isEmpty then l else readdStart env.gang chosen l

/-- Low-cell entry and exit on the beat-mean cell voltage (R67). -/
def lowcellStep (env : JobEnv) (c : Context) (v : Int) : Context :=
  let th : Int := (lowcellMv env.base * 1000 : Nat)
  let now := if c.loop.lowcell then decide (v ≤ th + 100000) else decide (v < th)
  if now = c.loop.lowcell then c
  else { c with loop := { c.loop with lowcell := now }
                evs := c.evs ++ [{ beat := env.beat, kind := .channel, subject := env.chan, typ := 6,
                                   data := [if now then 1 else 0] }] }

/-- The record kind of an edge of the step's own pulses (R226). -/
def edgeCode (s : Option StepRec) (pulse : Bool) : Nat :=
  match s with
  | some s => if s.typ = tDCIR then (if pulse then 1 else 2) else if s.typ = tPULSE then 3 else 0
  | none => 0

/-- The pipeline of R101 from the prevailing target to the output record. -/
def pipeline (env : JobEnv) (c : Context) (v : Int) : Context :=
  let st := c.step
  let glideI := fld env.base.glideI 0 32
  if c.loop.ramp = .stopRamp then
    let (r, f) := rampStep c.loop.ref c.loop.refFrac 0 c.loop.rate
    let l := { c.loop with ref := r, refFrac := f, vclamp := false, uncapped := 0, prevail := 0, modeWas := .rest }
    let (l, o) := outputOf env (tuckStep env l st 0 false) false
    if r = 0 then
      let zero := { tuckSteady l with ramp := .zero, tucked := [], trims := [], signs := [], acc := 0, refFrac := 0 }
      let st' := match st.after with
        -- OFF of a tray removal prevails (R496): the mode waits there for the tray
        | .mode m => if st.forced && st.stopTo == .off then arrive st .off
            else { st with after := .none, base := .run, mode := m, forced := false }
        | .none => arrive st st.stopTo
      -- R66: the phases first run a full beat with c = 0
      { c with loop := zero, step := st'
               out := { o with codes := List.replicate env.gang 0, sat := List.replicate env.gang false } }
    else { c with loop := l, out := o }
  else if st.base ≠ .run ∨ st.mode = .rest ∨ st.mode = .off then
    { c with loop := { c.loop with ramp := .zero, ref := 0, uncapped := 0, prevail := 0, modeWas := .rest },
             out := idleOut env.gang }
  else
    let starting := c.loop.ramp == .zero
    let l0 := if starting then { c.loop with ref := 0, refFrac := 0, target := 0, trims := [], signs := []
                                             acc := 0, startDue := true }
              else c.loop
    let (t, edge) := stepTarget env st
    let prevail := match l0.lane with | some lt => lt.target | none => t
    let edge := edge && l0.lane.isNone
    let mo := modeOut env l0 st prevail v starting
    let cvPart := match inCccv env st with | some _ => mo.cvReached | none => st.mode == .cv
    let l1 := applyK env { mo.loop with uncapped := mo.ivc } mo.ivc cvPart
    let icap := divZero (l1.kApplied * mo.ivc) 65536
    let newLane := match l0.lane with | some lt => lt.isNew | none => false
    let typMode := match inCccv env st with | some _ => modeOfType tCCCV mo.cvReached | none => st.mode
    let l2 :=
      if st.mode = .cv ∧ (inCccv env st).isNone = true then
        let rmp := if l1.vref = prevail then Ramp.settled else if starting then .start
                    else if l0.ramp = .start ∧ prevail = l0.prevail ∧ newLane = false then .start else .ramp
        { l1 with ref := icap, refFrac := 0, target := icap, ramp := rmp, govRate := 0 }
      else
        let kChanged := l1.kApplied != l0.kApplied && !starting
        let newT := starting || icap != l0.target || edge || kChanged || newLane
        let laneRate := match l0.lane with
          | some lt => if lt.isOpen && !lt.voltage then some lt.rate else none
          | none => none
        -- DEDUCED (log entry 21): the governor's bound holds until its transition ends; with the factor ramped
        -- (CV part of CCCV) it is taken once, on the whole change
        let newK := !starting && (l1.lastK != l0.lastK || (kChanged && !cvPart))
        let gov := if edge then 0
          else if newK then max l0.govRate (governorRate glideI l0.kApplied l1.lastK mo.ivc)
          else l0.govRate
        let rate := if !newT then l0.rate
          else if edge then 0
          else if kChanged then gov
          else max gov (laneRate.getD glideI)
        let (r, f) := rampStep l0.ref l0.refFrac icap rate
        let rmp := if r = icap then Ramp.settled
          else if starting then .start
          else if l0.ramp = .start ∧ newT = false then .start else .ramp
        { l1 with ref := r, refFrac := f, target := icap, rate := rate, ramp := rmp
                  govRate := if rmp = .settled ∧ l1.kApplied = l1.lastK then 0 else gov }
    let l2 := { l2 with modeWas := st.mode, prevail := prevailIn env st mo.cvReached prevail l0.lane }
    let moving := match l2.lane with
      | some lt => lt.isOpen && (if lt.voltage then l2.vref != lt.target else l2.ref != l2.target)
      | none => false
    let l3 := tuckStep env l2 st icap moving
    let (l4, o) := outputOf env l3 starting
    let reached := match l4.lane with
      | some lt => lt.isOpen && (if lt.voltage then l4.vref == lt.target else l4.ref == lt.target)
      | none => false
    let acks := match l4.lane, reached with
      | some lt, true => [({ chan := env.chan, tag := lt.tag, code := 2 } : Ack)]
      | _, _ => []
    let l5 := { l4 with lane := l4.lane.map fun lt => { lt with isOpen := lt.isOpen && !reached, isNew := false } }
    let s := match env.recipe, st.running with | some r, true => some (r.stepAt st.step) | _, _ => none
    let pulse := match s with
      | some s => if s.typ = tPULSE then pulseAtB s st.edgeBeats else if s.typ = tDCIR then dcirAtPulse s st.edgeBeats
                  else false
      | none => false
    { c with loop := l5, out := o, acks := c.acks ++ acks
             step := { st with mode := typMode, cvReached := mo.cvReached, inPulse := pulse, fresh := false
                               edgeKind := if edge && !st.entered && !st.fresh then edgeCode s pulse else 0 } }

/-- The pattern clock of PULSE and DCIR (R183): it waits while tucked phases are re-added at the step's start
(R87). -/
def edgeClock (c : Context) : Context :=
  if c.step.entered || c.step.beats = 0 then c
  else if c.loop.tuck = .readd1 then c
  else { c with step := { c.step with edgeBeats := c.step.edgeBeats + 1 } }

/-! ### Impedance windows (R221 to R225) -/

/-- The sum of a window after one more beat. -/
def WinSum.add (w : WinSum) (v i : Int) : WinSum := { n := w.n + 1, v := w.v + v, i := w.i + i }

/-- The pre window: the means of the last 100 beats (R222). -/
def preOf (hist : List (Int × Int)) : WinSum :=
  (hist.take 100).foldl (fun w (v, i) => w.add v i) { n := 0, v := 0, i := 0 }

/-- Z of the point `w` of a record against its pre window, from the sums of their beats (R222); none where ΔI is 0. -/
def zOhm (z : OpenZ) (w : WinSum) : Option Int :=
  let di := w.i * z.pre.n - z.pre.i * w.n
  if w.n = 0 ∨ z.pre.n = 0 ∨ di = 0 then none else some (divRound ((w.v * z.pre.n - z.pre.v * w.n) * 1000000) di)
/-- The conditions of R223 and R225 on a complete window: |ΔI| large enough and Z ≥ 0. -/
def zGood (z : OpenZ) (w : WinSum) : Bool :=
  let th : Int := if 4 ≤ z.kind then 5 else 25
  let di := w.i * z.pre.n - z.pre.i * w.n
  w.n != 0 && z.pre.n != 0 && decide (z.fs * th * (w.n * z.pre.n) ≤ di.natAbs * 1000 * z.rsh) &&
    (match zOhm z w with | some o => decide (0 ≤ o) | none => false)

/-- The window of a record that beat `k` after beat e completes (R222). -/
def zWindow (z : OpenZ) (k : Nat) : Option WinSum :=
  if k = 2 then some z.zi else if k = 1000 then some z.z1 else if k = 10000 then some z.z10
  else if k = 100000 then some z.z100 else none

/-- Windows of an open record in beat N, `k` beats after beat e (R222, R223). A point that fails closes the record: no later
one is valid (R223, R224). -/
def zBeat (z : OpenZ) (k : Nat) (v i r : Int) (ok : Bool) : OpenZ :=
  if z.done then z
  else if !ok || decide (z.fs < (r - z.rE).natAbs * 100 * z.rsh) then { z with done := true }
  else
    let z := { z with zi := if k = 2 then z.zi.add v i else z.zi
                      z1 := if 991 ≤ k ∧ k ≤ 1000 then z.z1.add v i else z.z1
                      z10 := if 9901 ≤ k ∧ k ≤ 10000 then z.z10.add v i else z.z10
                      z100 := if 99001 ≤ k ∧ k ≤ 100000 then z.z100.add v i else z.z100 }
    match zWindow z k with
    | none => z
    | some w =>
        let good := zGood z w
        { z with validTo := if good then z.validTo + 1 else z.validTo
                 done := !good || decide ((if 4 ≤ z.kind then 1000 else 100000) ≤ k) }

/-- The capture of impedance windows in the beat job (R221 to R224): `rNow` is the reference latched at the boundary
that opened N, `rBefore` the one before it, `rNext` the one this job computes, `was` the step state of beat N. -/
def zCapture (env : JobEnv) (was : StepState) (c : Context) (v i rBefore rNow rNext : Int) : Context :=
  let fs : Int := env.gang * 100000000000
  let hist := (v, i) :: c.preHist.take 99
  let ok := !env.stopped && was.base == .run
  let open1 := c.openZ.map fun z => zBeat z (env.beat - z.beatE).toNat v i rNow ok
  let track := match c.zTrack with
    | some t => if 9 ≤ t.age then none else some { t with age := t.age + 1 }
    | none => if rNow ≠ rBefore ∧ 100 ≤ c.loop.constBeats then
        some { rBefore := rBefore, age := 0, pre := preOf hist, kind := was.edgeKind } else none
  let const := if rNow = rBefore then c.loop.constBeats + 1 else 1
  let c := { c with preHist := hist, loop := { c.loop with constBeats := const } }
  match track with
  | some t =>
      if rNext = rNow then
        if fs ≤ (rNow - t.rBefore).natAbs * 10 * env.rsh then
          let z : OpenZ :=
            { kind := t.kind, beatE := env.beat, step := if was.running then was.step else 0xFF, stepBeat := was.stepBeat,
              temp := env.zTemp, rE := rNow, fs := fs, rsh := env.rsh, pre := t.pre,
              zi := ⟨0, 0, 0⟩, z1 := ⟨0, 0, 0⟩, z10 := ⟨0, 0, 0⟩, z100 := ⟨0, 0, 0⟩, validTo := 0, done := false }
          { c with openZ := some z, zTrack := none, doneZ := c.doneZ ++ (open1.map fun o => { o with done := true }).toList }
        else { c with openZ := open1, zTrack := none }
      else { c with openZ := open1, zTrack := some t }
  | none => { c with openZ := open1, zTrack := none }

/-- A small-step record opens in the first beat of a shed or a re-add when no other record is open (R225). -/
def zSmallOpen (env : JobEnv) (was : StepState) (c : Context) (rNow : Int) : Context :=
  let free := match c.openZ with | some z => z.done | none => true
  if c.zSmall ≠ 0 ∧ free = true then
    { c with zSmall := 0
             doneZ := c.doneZ ++ c.openZ.toList
             openZ := some { kind := c.zSmall, beatE := env.beat, step := if was.running then was.step else 0xFF
                             stepBeat := was.stepBeat, temp := env.zTemp, rE := rNow, fs := env.gang * 100000000000, rsh := env.rsh
                             pre := preOf c.preHist, zi := ⟨0, 0, 0⟩, z1 := ⟨0, 0, 0⟩, z10 := ⟨0, 0, 0⟩
                             z100 := ⟨0, 0, 0⟩, validTo := 0, done := false } }
  else { c with zSmall := 0 }

/-! ### The whole job -/

/-- The beat job of R101 on the half written in beat N − 1, which holds the reference latched at the boundary that opened N
and the one latched one boundary earlier (R221). -/
def jobStep (env : JobEnv) (h : Context) : Context :=
  let v := voltMean env.volt
  let i := chanMean env
  let rNow := h.out.iref
  let c := { h with iMean := i, vMean := v, cnt := countBeat env h.cnt, evs := [], acks := [], ends := [], iPrev := rNow
                    step := { h.step with entered := false, wakeReq := false } }
  let c := if c.step.base = .off then c else lowcellStep env c v
  if env.stopped then
    let c := laneAct env { c with loop := loopTrip c.loop, out := idleOut env.gang }
    zCapture env h.step c v i h.iPrev rNow 0
  else
    match c.step.base with
    | .off => { c with out := idleOut env.gang }
    | .chrysalis =>
        let n := if env.wake < i.natAbs then c.step.wakeCount + 1 else 0
        let ev : List EvReq := if n = 8 then
          [{ beat := env.beat, kind := .channel, subject := env.chan, typ := 7, data := leBytes 4 (wordOf i).toNat }]
          else []
        let c := { c with step := { c.step with wakeCount := n, wakeReq := decide (8 ≤ n) }, evs := c.evs ++ ev
                          out := idleOut env.gang }
        zCapture env h.step (laneAct env c) v i h.iPrev rNow 0
    | _ =>
        let c := match env.recipe with
          | some r =>
              if c.step.running then
                (if c.step.base = .hold then evalHold env r c
                 else if c.loop.ramp = .stopRamp ∧ c.step.stopTo = .hold then
                   { c with step := { c.step with beats := c.step.beats + 1 } }
                 else edgeClock (evalStep env r c v i))
              else c
          | none => c
        let c := pipeline env (laneAct env c) v
        let c := { c with loop := { c.loop with maxAbs := max c.loop.maxAbs (absI i) } }
        zSmallOpen env h.step (zCapture env h.step c v i h.iPrev rNow c.out.iref) rNow

end Sys2Proof.Machine
end

