-- ==== Sys2Proof/Machine/TypesMeas.lean ====
section
/-!
DEFINITION. Measurement slices, rotation, substitution, reference coefficients, metrology ports
(spec/04_measurement.md) and the window monitors of a group (spec/05_window_monitors.md).
-/
namespace Sys2Proof.Machine

/-- SL_STAT.ROLE (spec/04). -/
inductive Role where
  | serving | spare | failed
deriving DecidableEq, Repr

def Role.code : Role → Nat
  | .serving => 0 | .spare => 1 | .failed => 2

/-- One SAR slice: correction coefficients (R126) and status. Current slices are 0 to 16, voltage slices 17 to 33. -/
structure Slice where
  ofs : Int                        -- SL_OFS, 1/256 code
  gain : Int                       -- SL_GAIN, 2^-30
  lin : List Int                   -- LIN[0] to LIN[16], 1/256 code
  role : Role
  pos : Nat
  last : Nat                       -- SL_STAT.LAST
  cals : BitVec 16
  raw : BitVec 16
  runLen : Nat                     -- identical raw codes in a row (R131 STUCK)
  railLen : Nat                    -- raw codes at the end of the range in a row (R131 RAIL)
deriving DecidableEq, Repr

/-- Triggers of a suspicion (R131). -/
inductive Trigger where
  | stuck | rail | plaus | xchk
deriving DecidableEq, Repr

/-- A substitution or a test of a suspect that runs (R132, R134). -/
structure Subst where
  voltage : Bool
  suspect : Nat
  spare : Nat                      -- 0x1F: no free spare (R134)
  pos : Nat
  start : Beat                     -- beat S
  testAt : Beat                    -- first beat of the DIRECT test
  trigger : Trigger
  tookOver : Bool
  spareRail : Bool                 -- the spare's parallel samples were at a rail; the spare is tested
  calTest : Bool                   -- the calibrating slice is tested first after a cancelled handover (R131)
  sums : List Int                  -- sums of the two samples at each of the three levels, 1/256 µV (R135)
deriving DecidableEq, Repr

/-- A substitution with a spare, or the test of a calibrating slice, which holds the spare in the same way (R130, R132); the
test of a suspect alone is none (R134). -/
def Subst.replaces (x : Subst) : Bool := x.spare != 0x1F

/-- What the calibrating slice of a kind has gathered in the present slot (R127). -/
structure CalRun where
  active : Bool                    -- the slot's schedule runs
  pts : List Int                   -- raw sums of the 20 samples of each of the 17 points
  par : List (Int × Int)           -- parallel run: raw code, value of the serving slice in 1/256 µV
deriving DecidableEq, Repr

/-- The comparators of a position and the crossings of its windows (R154 to R167). -/
structure Cmp where
  hi : Bool
  lo : Bool
  ov : Bool
  uv : Bool
  wHi : Bool
  wLo : Bool
  modeI : Nat                      -- mode that acts
  modeV : Nat
  nextI : Nat                      -- mode being settled to
  nextV : Nat
  inI : Bool                       -- the crossing of the current window is open
  inV : Bool
  inW : Bool
  holdI : Bool                     -- out of crossing for HOLD_MS (R168)
  holdV : Bool
  holdW : Bool
deriving DecidableEq, Repr

/-- One group: slices, maps, rotation, substitutions, reference, diagnostics, window words and status. -/
structure Group where
  slices : Vector Slice 34
  mapI : Vector Nat 16             -- slice serving each current position, 0x1F unserved
  mapV : Vector Nat 16
  outI : Nat                       -- slice out of service, 0x1F none
  outV : Nat
  failI : BitVec 17
  failV : BitVec 17
  mctrl : Word
  plaus : Word
  substCount : BitVec 16
  substs : List Subst
  xfer : Bool                      -- a transfer of the group runs
  pausedI : Bool                   -- rotation paused since the last slot boundary (R130)
  pausedV : Bool
  frozenI : Nat                    -- slots paused for lack of a spare or ROT (R147)
  frozenV : Nat
  rotI : Nat                       -- slots rotated since the last accepted transfer, saturating at 17
  rotV : Nat
  freedI : Bool                    -- a spare has become free since the last slot boundary (R134)
  freedV : Bool
  calI : CalRun
  calV : CalRun
  slotAt : Option Beat             -- first beat of the slot begun last
  diagCtrl : Word
  diagRun : Bool
  diagRho : Nat
  diagRes : Nat
  refvGain : Int
  refvOfs : Int
  refiGain : Int
  refiOfs : Int
  refvLin : List Int
  refPending : Option (Int × Int × List Int × Int × Int)  -- accepted set that applies from the next slot boundary
  xferV : Option Int               -- gain of the last accepted REFV transfer
  xferI : Option Int
  stateV : Nat                     -- R147 apart from FROZEN: 0 FACTORY, 1 TRANSFERRED, 2 TRANSFER_AGED
  stateI : Nat
  xferTimeV : Word
  xferTimeI : Word
  xferTime : Word
  iwin : Vector Word 16
  vtrip : Vector Word 16
  vwarn : Vector Word 16
  wcfg : Vector Word 16
  cmp : Vector Cmp 16
  whitI : Word
  whitV : Word
  whitW : Word
  whold : Word
  rbCount : BitVec 16
  rbValid : Bool
  rbKind : Bool
  rbDac : Nat
  rbDev : Nat
  rbNextI : Nat                    -- DAC that the next visit reads (R128, R171)
  rbNextV : Nat
  wrBeatI : Vector Beat 16         -- beat of the last write of the window word
  wrBeatV : Vector Beat 16
  rbBadI : BitVec 32               -- mismatch at the last visit of each DAC (R172)
  rbBadV : BitVec 32
  rbWrI : BitVec 32                -- word written since the last visit (R171, R172)
  rbWrV : BitVec 32
  dacFailI : BitVec 32
  dacFailV : BitVec 32
  wRefused : Bool
  wWord : Nat
  wPos : Nat
  gtHold : List (Nat × Win)        -- windows in crossing whose group trip holds (R170)
  gtWin : Nat
  gtPos : Nat
deriving DecidableEq, Repr

/-- A mode change of the comparators of the position has not settled (R162). -/
def Cmp.settling (c : Cmp) : Bool := c.modeI != c.nextI || c.modeV != c.nextV
/-- A group trip holds (GRP_WGTRIP.ACTIVE). -/
def Group.gtActive (g : Group) : Bool := !g.gtHold.isEmpty

/-- MET_STAT.STATE (spec/04). -/
inductive MetState where
  | idle | busy | zeroHeld | ready
deriving DecidableEq, Repr

def MetState.code : MetState → Nat
  | .idle => 0 | .busy => 1 | .zeroHeld => 2 | .ready => 3

/-- What a port converts for (R138 to R149). -/
inductive MetJob where
  | none
  | host (ctrl : Word)
  | zero
  | full
  | transfer (g : GroupNo)
  | check (chan : ChanNo) (ph : PhaseNo)
deriving DecidableEq, Repr

/-- One metrology port. -/
structure MetPort where
  ctrl : Word
  state : MetState
  job : MetJob
  result : Nat
  value : Word
  raw : Word
  calVal : Word
  vGain : Int
  vOfs : Int
  mGain : Int
  mOfs : Int
  vTime : Word
  mTime : Word
  vValid : Bool
  mValid : Bool
  calRange : Bool                  -- range latched at ZERO (R143)
  zeroMean : Int
  newGain : Int
  newOfs : Int
  calCmd : Option Nat              -- running CAL_SYSTEM command
deriving DecidableEq, Repr

/-- Metrology common registers and queues. -/
structure Met where
  ports : Vector MetPort 4
  own : BitVec 4                   -- ownership in force
  ownReg : BitVec 4                -- MET_OWN as written
  xferCfg : Word
  xferMask : Word
  statGroup : Nat
  statPort : Nat
  statRefi : Nat
  statRefv : Nat
  xchkV : Word
  xchkI : Word
  queue : List GroupNo             -- transfers queued (R144)
  checks : List (ChanNo × PhaseNo) -- cross-checks queued by the estimator (R148)
deriving DecidableEq, Repr

end Sys2Proof.Machine
end

