-- ==== Sys2Proof/Machine/TypesHost.lean ====
section
/-!
DEFINITION. The host interface: link, rings, descriptors, commands that run, events held (spec/08_host_rings.md).
-/
namespace Sys2Proof.Machine

/-- A ring of CMDQ, CPLQ or EVTQ (R252 to R257). -/
structure Ring where
  baseReg : BitVec 64              -- base registers as written
  base : BitVec 64                 -- base taken at the enable
  size : Nat                       -- 0 disabled, 4 to 16
  dev : Nat                        -- index the device keeps
  host : Nat                       -- index the host writes
  phase : Bool
  modUs : Nat
  modCnt : Nat
  since : Nat                      -- entries written since the last message (R289)
deriving DecidableEq, Repr

/-- A CMDQ descriptor (R258). -/
structure Desc where
  opcode : Nat
  flags : Nat
  cid : Nat
  target : Nat
  rsv : Nat
  addr : Nat
  len : Nat
  arg0 : Nat
  arg1 : Nat
deriving DecidableEq, Repr

/-- A command started and not completed (R262, R264). -/
structure RunCmd where
  id : Nat
  cid : Nat
  opcode : Nat
  background : Bool
  reserved : Bool                  -- its CPLQ slot is reserved (R254, R264)
  target : Nat
deriving DecidableEq, Repr

/-- A CPLQ entry before its index is known (R261). -/
structure CplEntry where
  cid : Nat
  opcode : Nat
  status : Nat
  detail : Nat
  value : Nat
  background : Bool
deriving DecidableEq, Repr

/-- Commands that wait for boundaries or for channels (R270, R273, R275). -/
inductive Waiter where
  | commit (id : Nat) (mask : List ChanNo) (atBeat : Beat) (written : Bool)
  | stop (id : Nat) (chans : List ChanNo)
  | read (id : Nat) (first count kind addr : Nat) (cut : Option Nat)   -- `cut`: bytes written before the write fails
deriving DecidableEq, Repr

/-- NV operations in progress (R95, R175, R269, R283, R483). -/
inductive NvOp where
  | recipe (id : Nat) (number : Nat) (new : Option Recipe)   -- a recipe loaded, or deleted
  | ocv (id : Nat) (k : Fin 4) (t : OcvTable)
  | grade (id : Nat) (k : Fin 16) (t : GradeTable)
  | chunk (id : Nat) (data : List Byte)    -- a chunk under way: its bytes follow those staged
  | confirm (id : Nat)
deriving DecidableEq, Repr

/-- The host interface. -/
structure HostIf where
  perstN : Bool                    -- level of PERST_N
  linkUp : Bool
  speed : Nat                      -- 1 to 4: 2.5, 5, 8, 16 GT/s; 0 no link
  width : Nat
  d3 : Bool
  pmeEn : Bool
  bme : Bool
  msixEn : Bool
  msixMaskAll : Bool
  msixMask : BitVec 32
  msixPend : BitVec 32
  msixTable : List (Nat × Word)    -- words of the table that have been written, by offset
  pci : PcieCfg                    -- configuration space as the host has set it (R246)
  aer : Word                       -- Uncorrectable Error Status of AER (R290)
  pciErr : BitVec 16               -- error bits of the Status register
  ltrSent : Nat                    -- latency last reported, µs; 0 none (R247)
  cmdq : Ring
  cplq : Ring
  evtq : Ring
  fetched : List Desc
  fetchErr : Bool
  fetchStop : Bool                 -- fetching has stopped on an error until CMDQ is enabled again (R290)
  wakeN : Bool                     -- level of WAKE_N, low while asserted (R247)
  dbErr : Bool
  cfgErr : Bool
  cplLost : Word
  evtLost : Word
  evtSeq : Word
  openEvents : List Event          -- raised, not yet closed by their boundary (R285)
  heldEvents : List Event          -- held because EVTQ is full or disabled (R286)
  dropped : Nat                    -- events dropped since the last EVENTS_LOST
  dropSeq : Word                   -- SEQ of the first dropped
  running : List RunCmd
  nextId : Nat
  dataPend : List (Nat × List Byte)   -- writes into data buffers waiting for Bus Master Enable (R265, R290)
  cplPend : List CplEntry          -- completions waiting for Bus Master Enable (R290)
  waiters : List Waiter
  nvOps : List NvOp
deriving DecidableEq, Repr

end Sys2Proof.Machine
end

