-- ==== Sys2Proof/Machine/TypesPower.lean ====
section
/-!
DEFINITION. The holdup path, the save areas, the real-time clock (spec/12_holdup_rtc.md) and the board rail sequencer
(spec/13_rail_sequencer.md).
-/
namespace Sys2Proof.Machine

/-- Charger states, coded as HLD_STAT.STATE (R385). -/
inductive Chg where
  | noMain | off | detect | shortTest | precharge | fast | cv | done | supply | suspended | faultTimer | faultShort
  | faultNtc
deriving DecidableEq, Repr

def Chg.code : Chg → Nat
  | .noMain => 0 | .off => 1 | .detect => 2 | .shortTest => 3 | .precharge => 4 | .fast => 5 | .cv => 6 | .done => 7
  | .supply => 8 | .suspended => 9 | .faultTimer => 10 | .faultShort => 11 | .faultNtc => 12

/-- The phases of a capacity learning cycle (R391). -/
inductive Learn where
  | idle
  | discharge (soc1 : Nat) (q1 : Int)          -- the VHOLD loads discharge the cell to 40.00 %
  | rest (soc1 : Nat) (q1 : Int)               -- REST_MIN at zero current
deriving DecidableEq, Repr

/-- What the charger drives (R384). -/
inductive ChgDrive where
  | off | cellCurrent (ma : Nat) | cv | holdMode | supplyMode | learnOff
deriving DecidableEq, Repr

/-- A load step of the holdup cell under capture (R391). -/
structure HoldEdge where
  pre : WinSum                     -- the 100 ms before the edge
  at_ : Beat                       -- the instant of the edge, µs of the model's uptime
  ms : Nat                         -- ms since
  temp : Int                       -- temperature at the edge
  z : List Int                     -- valid points so far: at 1, 10 and 100 ms
  di : List Int                    -- ΔI of the points whose mean is complete
deriving DecidableEq, Repr

/-- The holdup path (R379 to R401). -/
structure Holdup where
  cfg : Word
  ichg : Word
  timer : Word
  ntcCfg : Word
  capNom : Word
  estCfg : Word
  state : Chg
  susFrom : Chg                    -- state that SUSPENDED returns to
  drive : ChgDrive
  main : Bool                      -- main counts as valid (R393)
  idg : Bool
  missing : Bool
  shortSeen : Bool
  timerExp : Bool
  ntcFault : Bool
  ntcRange : Nat
  ntcFrom : Nat                    -- range left last (the hysteresis of R388)
  thermLim : Bool
  v : Int
  i : Int
  vin : Int
  temp : Int
  tUs : Nat                        -- T of R389, µs
  wMs : Nat                        -- W of R389, ms
  timerRun : Bool
  cap : Nat                        -- learned capacity, mC
  est : Est
  cnt : Counters
  restMs : Nat                     -- ms at rest (R229)
  pre : List (Int × Int)           -- last 100 ms of V and I, newest first (R391)
  edge : Option HoldEdge           -- load step under capture
  learn : Learn
  learned : Bool                   -- the result of a learning cycle has been written
  rtCount : Nat
  rtMs : Nat
  rtStart : Nat                    -- uptime in µs at the detection
deriving DecidableEq, Repr

/-- What the save image holds of one channel (R398). -/
structure SavedChan where
  chan : Nat
  cfg : ChanCfg
  phases : List (Nat × PhaseCfg)
  ctx : Context
  est : Est
  nomCharge : Nat
  words : List (Nat × Word)        -- the other writable words of its channel window, by offset
deriving DecidableEq, Repr

/-- A save image (R398). -/
structure Image where
  sealNo : Nat                     -- sequence number of the seal
  isSealed : Bool
  boot : Nat
  beat : Beat
  time : Word
  chans : List SavedChan
  windows : List (List (Nat × Word))   -- words of each group window, by offset
  holdEst : Est
  holdCnt : Counters
  life : List LifePhase
  latches : BitVec 160             -- latch state of every phase (R95)
deriving DecidableEq, Repr

/-- The two NV save areas and what a start found in them (R398, R400). -/
structure Saves where
  areas : Vector (Option Image) 2
  writing : Option Nat             -- area of the save that runs
  torn : Option Nat                -- area whose save ended unsealed, to be reported at the next start
  restored : Bool                  -- this start restored an image
  autoPending : List (Nat × SavedChan)       -- channels to commit at the first boundary after READY
  autoResume : List Nat            -- channels that resume at the next boundary
  resumeDue : Bool                 -- AUTO_RESUME is to be posted at the next boundary
deriving DecidableEq, Repr

/-- A calendar value (R404). -/
structure Cal where
  sub : Nat
  sec : Nat
  min : Nat
  hour : Nat
  day : Nat
  month : Nat
  year : Nat
deriving DecidableEq, Repr

/-- The RTC domain (R402 to R407). -/
structure Rtc where
  now : Cal
  shadow : Cal
  setBuf : Cal
  frozen : Bool
  setRefused : Bool
  almAT : Word
  almAD : Word
  almBT : Word
  almBD : Word
  almA : Bool
  almB : Bool
  onVrtc : Bool
  valid : Bool
  switchDue : List Nat             -- RTC_SWITCH events held for the next start (R402)
  resetDue : Bool                  -- RTC_RESET to be posted at the next start (R403)
  aonSec : Nat                     -- seconds counted since the RTC domain reset (model's own)
deriving DecidableEq, Repr

/-- Sequencer states (R422). -/
inductive SeqState where
  | off | powerUp | on | powerDown | gap | locked | extWait
deriving DecidableEq, Repr

def SeqState.code : SeqState → Nat
  | .off => 0 | .powerUp => 2 | .on => 3 | .powerDown => 4 | .gap => 5 | .locked => 6 | .extWait => 7

/-- Causes of a power-down, coded as SEQ_STAT.LAST_CAUSE (R416). -/
inductive DownCause where
  | stop | mainEarly | pgTimeout | pgLost | fltExt | fault
deriving DecidableEq, Repr

def DownCause.code : DownCause → Nat
  | .stop => 1 | .mainEarly => 2 | .pgTimeout => 3 | .pgLost => 4 | .fltExt => 5 | .fault => 6

/-- The registers of one slot. -/
structure SlotCfg where
  cfg : Word
  dly : Word
  win : Word
  off : Word
deriving DecidableEq, Repr

/-- A sequencer profile (R411): SEQ_CFG, the reset words and the slot words. -/
structure SeqProfile where
  cfg : Word
  rst : Vector Word 4
  slots : Vector SlotCfg 12
deriving DecidableEq, Repr

/-- One slot as it runs. -/
structure Slot where
  en : Bool                        -- RAIL_ENk
  dis : Bool                       -- RAIL_DISk
  pg : Bool                        -- good under R414
  lastFail : Nat
  sense : Nat
  due : Bool                       -- enabled in this power-up, its on-delay has not elapsed
  wasOn : Bool                     -- on at the start of the power-down
  isOff : Bool                     -- counts as off in the power-down (R417)
  offDone : Bool                   -- its off-time has passed
  marg : Word                      -- SEQ_MARGk
  applied : Int                    -- applied margin code
  margOn : Bool                    -- MARGk drives
deriving DecidableEq, Repr

/-- A sequencer record held by the always-on domain (R430). -/
structure BufRec where
  code : Nat
  data : List Byte
  time : Word
deriving DecidableEq, Repr

/-- The board rail sequencer (R409 to R426, R430). -/
structure Seqr where
  profile : SeqProfile             -- registers
  run : SeqProfile                 -- values in force for the sequence in progress (R412)
  stored : Option SeqProfile       -- profile record in NV
  profileStored : Bool             -- SEQ_STAT.PROFILE
  storeErr : Bool
  state : SeqState
  slots : Vector Slot 12
  released : Vector Bool 4         -- BRST_Nj high
  lastSlot : Nat
  lastCause : Nat
  retry : Nat
  upKind : Nat                     -- 0 fresh, 1 retry, 2 after FLT_EXT, 3 RT 0 partial
  partialUp : Bool                 -- an RT 0 partial power-up runs
  fltDriven : Bool                 -- FLT_N driven low by this device
  fltLow : Bool                    -- FLT_N reads low
  cause : Option DownCause         -- cause of the power-down that runs or is due at the seal
  rtCut : Bool                     -- RT 0 slots are down after a main loss (R421)
  buffer : List BufRec
  bufLost : Nat
  buffering : Bool                 -- from a common start until READY or COCOON (R430)
  vback : Bool                     -- VBACK is valid
  lockedMainLost : Bool            -- main was lost while LOCKED (R419)
  stopFirst : Bool                 -- an orderly stop precedes the common start (R416)
  lockAfter : Bool                 -- the power-down ends in LOCKED (R454)
  evDue : List (Nat × Option Nat × List Byte)   -- events to be raised at READY or COCOON (R430)
deriving DecidableEq, Repr

end Sys2Proof.Machine
end

