-- ==== Sys2Proof/Machine/TypesSec.lean ====
section
/-!
DEFINITION. OTP, keys, trays, code banks and staging (spec/16_security_update.md).
-/
namespace Sys2Proof.Machine

/-- An OTP operation that runs (R487, R488). -/
inductive OtpOp where
  | burn (word : Nat) (data : Word)
  | finalise (region : Nat) (slot : Nat) (digest : List Word)   -- first word of the slot, the digest to burn
deriving DecidableEq, Repr

/-- Tray states, coded as SEC_TRAY_STAT.STATE (R496, R497). -/
inductive TrayState where
  | absent | present | authenticating | authenticated | failed
deriving DecidableEq, Repr

def TrayState.code : TrayState → Nat
  | .absent => 0 | .present => 1 | .authenticating => 2 | .authenticated => 3 | .failed => 4

/-- The exchange of R497 while it waits for the tag's response. -/
structure TagExchange where
  serial : List Byte
  challenge : List Byte
  cmd : Option Nat                 -- running TRAY_AUTH command; none for an exchange of R496
deriving DecidableEq, Repr

/-- One tray (R495 to R499). -/
structure Tray where
  state : TrayState
  here : Bool                      -- TRAYPRESt as filtered: the tray is present (R496)
  last : Nat                       -- SEC_TRAY_STAT.LAST
  map : Vector Word 5
  exch : Option TagExchange
deriving DecidableEq, Repr

/-- Bank states, coded as R507. -/
inductive BankState where
  | empty | staging | staged | pending | trial | confirmed | failed | retired
deriving DecidableEq, Repr

def BankState.code : BankState → Nat
  | .empty => 0 | .staging => 1 | .staged => 2 | .pending => 3 | .trial => 4 | .confirmed => 5 | .failed => 6
  | .retired => 7

/-- A code bank: its record and its parts (R501, R507). -/
structure Bank where
  state : BankState
  version : Word
  svn : Nat
  tries : Nat
  parts : List (Nat × List Byte)   -- PART code and content
deriving DecidableEq, Repr

/-- The staging in progress and its journal (R504, R505): what has been written and read back. -/
structure Staging where
  image : List Byte                -- bytes 0 to next offset − 1
deriving DecidableEq, Repr

/-- Security and update state. -/
structure Sec where
  otpA : Vector Word 512           -- the two physical copies of each word (R434, R486)
  otpB : Vector Word 512
  undo : Option (Bank × Option Staging × Nat × List Byte)   -- the staging before the chunk under way: bank, journal, UPD_ fields (R506)
  updLock : Bool
  debugOpen : Bool
  mapRefused : Bool
  attDone : Bool
  attRun : Option (List Byte)      -- the nonce being signed (R493)
  otpAddr : Word
  otpData : Word
  otpRd : Word
  otpBusy : Option OtpOp
  otpResult : Nat
  trayCfg : Word
  trays : Vector Tray 4
  nonce : Vector Word 8
  devKey : Vector Word 16
  privKey : Nat                    -- device private key, protected NV area (R492)
  sig : Vector Word 16
  banks : Vector Bank 2
  running : Fin 2
  staging : Option Staging
  updLength : Nat                  -- UPD_LENGTH
  updManifest : List Byte          -- UPD_MANIFEST: the manifest truncation, 8 bytes
  updLast : Nat
  fallback : Bool                  -- this start fell back or began a trial: no auto-resume (R511)
  fallDue : Nat                    -- a trial was ended, fall back at the next start: 2 watchdog, 3 COCOON (R510)
  raiseSvn : Option Nat            -- counter value to reach once READY (R512)
deriving DecidableEq, Repr

end Sys2Proof.Machine
end

