-- ==== Sys2Proof/Machine/TypesTw.lean ====
section
/-!
DEFINITION. The two-wire buses (spec/17_two_wire_buses.md).
-/
namespace Sys2Proof.Machine

/-- What a bus carries (R530). -/
inductive TwJob where
  | idle
  | host
  | poll (addr reg : Nat)
deriving DecidableEq, Repr

/-- One bus: 0 to 3 tray buses, 4 the board bus, 5 the service port. -/
structure Bus where
  cfg : Word
  stat : Word                      -- W1C bits of TW_STATb
  xctl : Word
  xrun : Word                      -- TW_XCTLb of the host transfer that runs or waits
  xres : Word
  xbuf : Vector Word 12
  job : TwJob
  hostWait : Bool                  -- a host transfer waits for the transfer that runs (R530)
  lost : Nat                       -- attempts lost to arbitration (R532)
  poll : Word                      -- TW_POLLk as written
  pollRun : Word                   -- poll period in force
  due : List (Nat × Nat)           -- pairs of this poll period not yet read
  late : Bool                      -- the next poll period is due and waits for the reads of this one (R526)
  fails : List (Nat × Nat × Nat × Nat)     -- consecutive failed reads by address, register and FORMAT (R528)
deriving DecidableEq, Repr

/-- A target port: the board target or the service port (R534 to R537). -/
structure Target where
  ptr : Nat
  frames : Nat                     -- frames ended with a STOP, modulo 16
  result : Nat
deriving DecidableEq, Repr

/-- The two-wire block. -/
structure TwoWire where
  bus : Vector Bus 6
  board : Target
  service : Target
  mbox : Vector Word 8
  mboxLast : Nat
  baddr : Nat                      -- BADDR[2:0] sampled at reset
deriving DecidableEq, Repr

end Sys2Proof.Machine
end

