-- ==== Sys2Proof/Machine/TypesTel.lean ====
section
/-!
DEFINITION. Telemetry streams (spec/09_telemetry.md).
-/
namespace Sys2Proof.Machine

/-- The configuration a stream took at its enable (R305). -/
structure StreamRun where
  base : Nat
  size : Nat                       -- n: the buffer holds 2^n units
  unit : Nat                       -- bytes of a unit
  filter : Nat                     -- 0 RAW, 1 BEAT_MEAN, 2 METRO
  quant : Nat                      -- bit 0 I, bit 1 V, bit 2 IREF
  periods : Nat
  decim : Nat
  irqBlk : Nat
  maskId : Nat
  chans : List Nat                 -- selected channels, ascending
  startAt : Beat                   -- first beat that may open its first span (R24, R305)
deriving DecidableEq, Repr

/-- One stream. -/
structure Stream where
  baseLo : Word
  baseHi : Word
  cfg : Word
  shape : Word
  mask : Vector Word 5
  run : Option StreamRun
  running : Bool                   -- false: WAITING for the first span
  gen : Nat                        -- enables so far: tells blocks of an earlier enable (model's own)
  full : Bool
  stall : Bool
  reason : Nat
  phase : Bool                     -- PHASE of the next header to be written
  write : Nat                      -- unit index of the next header to be written
  nextAt : Nat                     -- unit index and PHASE behind the blocks that are staged
  nextPhase : Bool
  read : Nat
  dropCount : Nat
  seq : Word
  blk : Nat                        -- units per block
  delivered : Bool                 -- a block was delivered since the enable
  lastSeq : Nat                    -- SEQ of the last block delivered (R296)
  noticed : Bool                   -- the loss since the last delivered block has been posted (R303)
  sinceMsg : Nat
  span : Beat                      -- first beat of the span in progress
  body : List Byte                 -- values of the block in progress
  got : Nat                        -- periods collected
deriving DecidableEq, Repr

/-- A closed block waiting to be written (R297, R298). -/
structure Block where
  stream : Fin 8
  gen : Nat
  pad : Option (Nat × List Byte)   -- PAD header: address, bytes
  addr : Nat
  header : List Byte
  body : List Byte                 -- values and the padding to whole units
  units : Nat                      -- its units, the PAD's included
  bytes : Nat                      -- room it takes in the staging pool
  seq : Word
  nextAt : Nat                     -- unit index and PHASE behind it
  nextPhase : Bool
  message : Bool                   -- the message of R302 follows it, and its PAD header
deriving DecidableEq, Repr

/-- The telemetry block. -/
structure Telem where
  streams : Vector Stream 8
  staged : List Block
  disableCmds : List (Nat × Fin 8) -- STREAM_CONFIG disables that wait for their last write (R308)
deriving DecidableEq, Repr

end Sys2Proof.Machine
end

