-- ==== Sys2Proof/Machine/TypesDom.lean ====
section
/-!
DEFINITION. The beat ring and the sync domain (spec/10_sync_domain.md).
-/
namespace Sys2Proof.Machine

/-- DOM_STAT.STATE (R324). -/
inductive DomState where
  | off | search | acquire | aligned | outOfStep | conflict | leading
deriving DecidableEq, Repr

def DomState.code : DomState → Nat
  | .off => 0 | .search => 1 | .acquire => 2 | .aligned => 3 | .outOfStep => 5 | .conflict => 6 | .leading => 7

/-- A release that is pending (R329, R330). -/
structure Release where
  id : Nat
  beat : Beat                      -- N
  rseq : Nat
deriving DecidableEq, Repr

/-- One ring input with its output: false A, true B. Delays in 0.25 ns. -/
structure RingPort where
  up : Bool
  quiet : Nat                      -- beats since the last train
  trains : Bool                    -- UP with trains (DOM_STAT)
  leader : Nat                     -- originator of the last good header without CANDIDATE
  dly : Nat                        -- D = ACC + h of that header (R320)
  missing : Nat                    -- beats without a valid train from the leader
  seen : Bool                      -- a valid train of the leader in the present beat
  hs : List Int                    -- round trip − turnaround of the last exchanges, newest first, at most 16 (R319)
  burst : Nat                      -- PINGs left of the sixteen of R319
  pingAt : Option Nat              -- uptime of the last PING
  pingSeq : Nat
  others : Nat                     -- trains in a row from one other leader (R339)
  otherAddr : Nat
  otherStrap : Bool
  queue : List (List Byte)         -- messages that wait for an EMPTY slot, oldest first (R313)
deriving DecidableEq, Repr

/-- An election key (R316). -/
structure DomKey where
  strap : Bool
  addr : Nat
  serial : Nat
deriving DecidableEq, Repr

/-- What the leader keeps of a member (R327, R332, R335, R337). -/
structure Member where
  addr : Nat
  state : Nat
  flags : Nat
  dly : Nat
  at_ : Nat                        -- leader's beat at which its last STATUS came
  digest : Option (List Byte × Nat)    -- shared truncation and the sweep it came in
  differs : Option (List Byte)     -- differing truncation of the last comparison
  staged : Option (Nat × Nat)      -- tag of the last STAGED and its beat
  upd : Option (List Byte × Nat)   -- truncation of the last UPD_STAGED and its beat
deriving DecidableEq, Repr

/-- A barrier report as it came (R326). -/
structure BarReport where
  addr : Nat
  id : Nat
  digest : List Byte
  ready : Bool
  waiting : Bool
  at_ : Nat
deriving DecidableEq, Repr

/-- What a device reports for a barrier with one recipe digest (R326). -/
structure OwnReport where
  digest : List Byte
  waiting : Bool
  ready : Bool
deriving DecidableEq, Repr

/-- The reports of a barrier as last sent, with the uptime. -/
structure BarSent where
  id : Nat
  reports : List OwnReport
  sentAt : Nat
deriving DecidableEq, Repr

/-- What the leader sends in slot 0 (R315). -/
inductive LeadMsg where
  | release (id : Nat) (n : Beat) (rseq : Nat)
  | activate (tag : Nat) (n : Beat) (rseq : Nat)
  | updReset (n : Beat) (rseq : Nat) (manifest : List Byte)
  | mismatch (addr : Nat) (trunc : List Byte)
deriving DecidableEq, Repr

/-- DOM_STAGE.STATE. -/
inductive StageState where
  | idle | armed | done
deriving DecidableEq, Repr

def StageState.code : StageState → Nat
  | .idle => 0 | .armed => 1 | .done => 2

/-- An order of DOM_ACT that waits (R335). -/
structure ActOrder where
  tag : Nat
  all : Bool
  bar : Option Nat                 -- barrier whose release carries it
  since : Nat                      -- beat of the order
deriving DecidableEq, Repr

/-- DOM_STAGE and its mask (R334, R337). -/
structure DomStage where
  state : StageState
  tag : Nat
  mask : Vector Word 5
  sentAt : Option Nat              -- uptime of the last STAGED sent
  actAt : Option Beat              -- N of an accepted ACTIVATE
deriving DecidableEq, Repr

/-- DOM_ACT (R335). -/
structure DomAct where
  cfg : Word                       -- ALL, BAR, TAG
  bar : Word
  result : Nat
  order : Option ActOrder
  n : Beat                         -- DOM_ACT_N
deriving DecidableEq, Repr

/-- Digests and their comparison (R331 to R333). -/
structure DomDigest where
  shared : List Byte               -- digests, 32 bytes each (R331)
  priv : List Byte                 -- of the local image
  beat : Beat                      -- beat of the later computation
  sweepSent : Option Nat           -- sweep in which DIGEST was sent
  sweepDone : Option Nat           -- sweep compared last
  misCount : Nat
  misValid : Bool
  misAddr : Nat
  queries : List (Nat × Nat × Nat × Nat × Option Nat)  -- DIGEST_QUERY of the domain: command, first sweep, address, length, cut
deriving DecidableEq, Repr

/-- The domain block. -/
structure Domain where
  strapped : Bool                  -- DOM_LEAD at reset
  en : Bool
  barMode : Bool
  cfg : Word                       -- DOM_CFG
  leadReg : Nat                    -- DOM_LEAD.LEAD
  state : DomState
  addrConflict : Bool
  strapConflict : Bool
  ports : Vector RingPort 2        -- A, B
  ringUsed : Bool
  gain : Nat                       -- beats for which the other ring has been the shorter by more than 1 µs
  holdover : Bool
  closed : Nat                     -- beats since an own train returned (leader)
  leader : Nat                     -- address of the leader joined or being
  leaderStrap : Bool
  roster : Nat                     -- roster as known: counted by a leader, from INFO on a member
  rlast : Nat                      -- R_last
  leadUse : Nat                    -- LEAD of the last INFO
  qUse : Nat                       -- Q of the last INFO
  joining : Bool                   -- a better leader was found; the join waits for its EPOCH (R339)
  otherInfo : Option (Nat × Nat)   -- leader other than the own: its address and the roster of its last INFO
  delta : Int                      -- Δ of the last EPOCH of the leader, ns
  reepochDue : Bool
  err : Int                        -- last e, 0.25 ns
  servo : Int                      -- s, 0.25 ns
  trim : Int                       -- trim in 1/8000 ppm
  ok : Nat                         -- beats in a row with |e| ≤ 5 ns
  bad : Nat                        -- beats in a row with |e| > 5 ns
  best : Option DomKey             -- best key of the election
  still : Nat                      -- beats in which the best key has not changed
  members : List Member            -- ascending address
  reports : List BarReport
  lastRel : List (Nat × Nat)       -- barrier and the beat of its last release
  blocked : List (Nat × Nat)       -- barrier and cause of the BARRIER_BLOCKED posted
  releases : List Release
  rseq : Nat                       -- RSEQ of the next message of the leader
  seenRel : List Nat               -- RSEQs acted on, newest first, at most 32, by type
  seenAct : List Nat
  seenUpd : List Nat
  outq : List (LeadMsg × Nat)      -- slot 0 messages with the copies still to send
  barId : Nat                      -- DOM_BAR_ID, DOM_BAR_N, DOM_BAR_STAT
  barN : Beat
  barRseq : Nat
  barResult : Nat
  barSent : List BarSent           -- reports sent, by barrier
  stage : DomStage
  act : DomAct
  dig : DomDigest
  updSentAt : Option Nat           -- uptime of the last UPD_STAGED sent
  updAt : Option Beat              -- N of an UPD_RESET issued or accepted (R514)
  hdrErr : Nat
  slotErr : Nat
deriving DecidableEq, Repr

end Sys2Proof.Machine
end

