-- ==== Sys2Proof/Machine/TypesLink.lean ====
section
/-!
DEFINITION. The energy link ports and Link Accord (spec/11_energy_links.md).
-/
namespace Sys2Proof.Machine

/-- LNK_STAT.STATE. -/
inductive LinkState where
  | fixed | toggle | sUnatt | sAttachWait | sDrainWait | sPrecharge | sDefault | sNegotiate | sTransition | sContract
  | kUnatt | kAttachWait | kDefault | kNegotiate | kTransition | kCloseWait | kContract | swapDischarge | hardReset
  | reversed | lockout | off
deriving DecidableEq, Repr

def LinkState.code : LinkState → Nat
  | .fixed => 0 | .toggle => 1 | .sUnatt => 2 | .sAttachWait => 3 | .sDrainWait => 4 | .sPrecharge => 5 | .sDefault => 6
  | .sNegotiate => 7 | .sTransition => 8 | .sContract => 9 | .kUnatt => 10 | .kAttachWait => 11 | .kDefault => 12
  | .kNegotiate => 13 | .kTransition => 14 | .kCloseWait => 15 | .kContract => 16 | .swapDischarge => 17
  | .hardReset => 18 | .reversed => 19 | .lockout => 20 | .off => 21

/-- A reading of ACC (R345), coded as LNK_STAT.ACC. -/
inductive Acc where
  | none | sourceSeen | sinkSeen | opened | short | reversed | high | undecided
deriving DecidableEq, Repr

def Acc.code : Acc → Nat
  | .none => 0 | .sourceSeen => 1 | .sinkSeen => 2 | .opened => 3 | .short => 4 | .reversed => 5 | .high => 6
  | .undecided => 7

/-- What a port presents on ACC (R345). -/
inductive Presentation where
  | source | sink | fixed | none
deriving DecidableEq, Repr

/-- The reading of a level in mV under a presentation (R345); FIXED and NONE read by the windows of SINK (log entry 77). -/
def Presentation.reads (p : Presentation) (mv : Int) : Acc :=
  match p with
  | .source =>
      if mv < 200 then .short
      else if 550 ≤ mv ∧ mv ≤ 1000 then .sinkSeen
      else if 1800 ≤ mv then .opened
      else .undecided
  | _ =>
      if mv ≤ -450 then .reversed
      else if -150 ≤ mv ∧ mv ≤ 150 then .none
      else if 550 ≤ mv ∧ mv ≤ 1000 then .sourceSeen
      else if 1200 < mv then .high
      else .undecided

/-- A message with its objects (R354); `swap`: its acknowledgement starts the hand-over of R367. -/
structure LinkMsg where
  typ : Nat
  objs : List Word
  swap : Bool
deriving DecidableEq, Repr

/-- The packet sent and not yet acknowledged (R352). -/
structure LinkTx where
  msg : LinkMsg
  hdr : Nat
  retries : Nat
  due : Bool                       -- to be sent again
deriving DecidableEq, Repr

/-- What a policy block says (R372). -/
structure Policy where
  flags : Nat
  role : Nat
  duty : Nat
  priority : Nat
  vExport : Int
  vImport : Int
  vHyst : Int
  winMin : Int
  winMax : Int
  iExport : Nat
  iImport : Nat
  image : List Byte
deriving DecidableEq, Repr

/-- A swap in progress (R366 to R368). -/
structure LinkSwap where
  before : Bool                    -- role before: true source
  exchanged : Bool                 -- presentations have changed
  backoff : Bool                   -- no SWAP_REQ for 2 s after it (R368)
deriving DecidableEq, Repr

/-- One link port. -/
structure LinkPort where
  en : Bool
  evt : Word
  policy : Option Policy           -- block in force, mirrored to NV
  next : Option (Policy × Option Nat)  -- accepted block that waits, with its command
  state : LinkState
  source : Bool                    -- role of an attached port
  part : Bool                      -- TOGGLE presents SOURCE
  acc : Acc
  switch : Bool                    -- LKG_x
  contract : Option (Word × Nat)   -- capability object and current granted, µA
  agreed : Option (Word × Nat)     -- accepted, LIVE awaited
  offered : List Word              -- objects of the last OFFER sent or received
  basis : List Word                -- what R374 gave a source at its last OFFER, RIDE_THROUGH aside
  offerDue : Bool
  askDue : Bool                    -- ASK_OFFER waits for the exchange that runs (R374)
  swapDue : Bool                   -- a SWAP_REQ ordered by LNK_CTRL waits (R374)
  bid : Option (Nat × Nat)         -- index and current of the BID sent
  live : Nat                       -- LIVE object received
  v : Int
  i : Int
  shunt : Nat
  ocp : Nat
  ocpHit : Bool                    -- the comparator acted while Galdor restarts: its hard reset waits (R344, R482)
  hrst : Nat
  err : Nat
  queue : List LinkMsg
  tx : Option LinkTx
  txId : Nat
  rxLast : Option (Nat × Word)     -- MSG_ID and CRC of the last message received
  acked : Bool                     -- a message has been acknowledged since the attach
  await : Option Nat               -- type of the own message whose answer is awaited
  repeatOffer : Bool               -- an OFFER without acknowledgement is repeated (R352)
  drained : Bool                   -- LINK_DRAIN raised in this wait
  wantExport : Bool
  wantImport : Bool
  backoff : Bool
  collided : Bool                  -- higher identity of a collision: WAIT is acceptance (R368)
  swap : Option LinkSwap
  times : List Nat                 -- uptime of hard resets in the last 60 s
  roleHold : Bool                  -- resumed role kept for 1 s (R370)
deriving DecidableEq, Repr

/-- Both ports and what they share. -/
structure Links where
  port : Vector LinkPort 2
  vlink : Int
  total : Word
deriving DecidableEq, Repr

end Sys2Proof.Machine
end

