-- ==== Sys2Proof/Machine/Reset.lean ====
section
/-!
DEFINITION. The parts of the device right after reset: register reset values as the register tables of spec/ give them;
values the spec leaves to OTP, NV or the factory as log entries 9 and 10 say.
-/
namespace Sys2Proof.Machine

/-! ### Phases and channels (spec/02, spec/03, spec/06) -/

def BaseCfg.reset : BaseCfg :=
  { flock := 0x00010000, bandLim := 0x00C80064, tuck := 0x10000000, glideI := 0, glideV := 0, lowcell := 0x1F4 }

def PhaseCfg.reset : PhaseCfg := { cfg := 0x00003F3F, shunt := 0, gang := 0, base := BaseCfg.reset }

def LifePhase.reset : LifePhase :=
  { peakPos := 0, peakNeg := 0, swCycles := 0, throughput := 0, switchSec := 0, contacts := 0 }

def Phase.reset : Phase :=
  { staged := PhaseCfg.reset, run := PhaseCfg.reset, gh := false, gl := false, dead := .none, minOn := false
    minOff := false, upperPending := false, riseReady := false, slotDue := false, stopping := false
    switching := false, enabled := false, latched := false, latchScope := false, ocHi := false, ocLo := false
    clrRefused := false, latchNow := false, clearedNow := false, rejoin := none, sat := false, minTimeNow := false
    minTime := false, setpt := 0, band := 0, edgesNow := 0, firstEdge := 0, lastEdge := 0, riseAt := none, edges := 0, span := 0
    period := 0, slot := 0, slips := 0, swcnt := 0, cenL := 0, cenSh := 0, cenV0 := 0, cenCell := 0, cenInd := 0
    cenShunt := 0, iMean := 0, mI := 0, mIn := 0, mV := 0, mVn := 0, avI := 0, avIn := 0, avV := 0
    avVn := 0, nvLatch := false, life := LifePhase.reset, switchBeats := 0 }

def ChanCfg.reset : ChanCfg :=
  { cfg := 0, ilimHi := 0, ilimLo := 0, vlimHi := 0x00432380, vlimLo := 0, setI := 0, setV := 0, setP := 0, setR := 0
    gain := 0x07D00100, trim := 0x40 }

def StepState.reset : StepState :=
  { base := .off, running := false, recipe := 0, step := 0, mode := .off, stepBeat := 0, beats := 0
    qual := [0, 0, 0, 0], armed := false, cvReached := false, capLow := 0, inPulse := false, edgeBeats := 0, edgeKind := 0
    stack := [], endStep := 0, endNext := 0, endCause := .none, intr := none, resumed := false, anyResumed := false
    holdBeats := 0, wakeCount := 0, wakeReq := false, entered := false, fresh := false, after := .none
    stopTo := .rest, forced := false, gradeDue := false }

def LoopState.reset : LoopState :=
  { ramp := .zero, ref := 0, refFrac := 0, rate := 0, target := 0, vref := 0, vrefFrac := 0, acc := 0
    accLim := 0, vclamp := false, clampHi := false, trims := [], signs := [], startDue := false, lowcell := false, tuck := .steady, shed := 0, tucked := []
    half := [], shedOff := false, tuckSusp := false, tuckBreak := false, maxAbs := 0, lane := none, kApplied := 65536, kRate := 0, govRate := 0, uncapped := 0
    constBeats := 0, prevail := 0, lastK := 65536, modeWas := .off }

def Counters.reset : Counters := { runQ := 0, runE := 0, stepQ := 0, stepE := 0, refQ := 0, through := 0 }

def Context.reset : Context :=
  { out := { codes := [], bands := [], sat := [], enable := [], slots := [], iref := 0 }, iPrev := 0, loop := LoopState.reset, step := StepState.reset
    cnt := Counters.reset, openZ := none, zTrack := none, doneZ := [], zSmall := 0, ends := [], preHist := [], evs := [], acks := []
    iMean := 0, vMean := 0, bad := false }

def WinSum.zero : WinSum := { n := 0, v := 0, i := 0 }

def EstPeriod.reset : EstPeriod :=
  { evs := [], temp := -32768, tempOld := true, rest := none, n := 0, iSum := 0, iMin := 0, iMax := 0, stepLane := false }

def Est.reset : Est :=
  { caps := [], qualCap := 0, start := none, meas := none, await := [], zring := [], zt := [0, 0, 0, 0]
    ztTemp := -32768, ztSet := [false, false, false, false], ztCount := 0, dcir := none, relax := [0, 0, 0, 0, 0]
    relaxRest := none, inStep := false, vHist := [], endOcv := none, sdp := none, sdpLast := 0, ref := none, soc := 0xFFFF, unc := 0
    stale := false, corr := WinSum.zero, corrMin := 0, corrMax := 0, grade := none, forget := none, zeroQ := false
    zeroThrough := false, xAsk := [], posts := [], irqs := [] }

def BandState.reset : BandState :=
  { band := 0, pf := 0, nolock := 0, locked := 0, flLimit := false, shedNow := false, qual := 0 }

def TenthIn.reset : TenthIn :=
  { base := PhaseCfg.reset.base, gang := 0, rsh := 0, latched := [], tucked := [], steady := true, suspended := true
    maxAbs := 0, switching := false, edges := 0, span := 0, band := BandState.reset }

def MilliIn.reset : MilliIn := { fs := 0, rsh := 1, nom := 0, learnT := 0, learnRate := 0, phases := [] }

def TempReading.reset : TempReading := { map := 0, value := -32768, age := 0, since := 0, failing := false, oldRead := false }

def Chan.reset : Chan :=
  { staged := ChanCfg.reset, run := ChanCfg.reset, seq := 0, commitPhase := 0, commitResult := 0, commitBeat := 0
    snap := none, halves := Vector.replicate 2 Context.reset, curHalf := false, tin := TenthIn.reset
    frozenM := Context.reset, tenth := Vector.replicate 2 BandState.reset, tenthCur := false, bandStart := false, pfZero := false
    ep := EstPeriod.reset, epFrozen := EstPeriod.reset, milliIn := MilliIn.reset, estCur := Est.reset
    estNext := Est.reset, held := false, detLapsed := false, sliceSubst := false, trips := [], ctxTrip := false
    ovrTrip := false, latched := false, latchWins := [], clearNow := false, releaseDue := none, tripNow := false, wakeDue := false
    waking := false, firstStart := true, requests := [], gClass := .neutral, paused := false, pausedP := 0, pauseRamp := false
    govK := 65536, tP := 0, tV := 0, tN := 0, vm := 0, im := 0
    estLate := none, estCfg := 0x1E180700, estCfgRun := 0x1E180700, learnT := 0x0DAC05DC, learnRate := 0x07D00032, chry := 0x0007A120
    temp := TempReading.reset, hiCaps := [], nomCharge := 0, restored := none }

/-! ### Beat unit (spec/01) -/

def Pair.none : Pair := { a := 0, b := 0, validA := false, validB := false }
def SampleSet.reset : SampleSet :=
  { beat := 0, cur := Vector.replicate 160 Pair.none, volt := Vector.replicate 160 Pair.none }
def EngDiag.reset : EngDiag := { pickups := 0, busy := 0, busyNow := 0 }

def BeatUnit.reset : BeatUnit :=
  { number := 0, hiCap := 0, running := false, uptime := 0, engMap := 0x3FFFF, lost := [], lossHeld := 0
    lossCause := .none, lossEngine := 0, lossBeat := 0, limitCut := false, ovrChan := 0, ovrClass := 0, ovrCount := 0
    ovrBeat := 0, peak := 0, peakNow := 0, budgets := Vector.replicate 10 850, writes := [], statGroup := 0
    statResult := .ok, diag := Vector.replicate 18 EngDiag.reset, jobs := [], sets := [], forming := SampleSet.reset
    formed := 0 }

def Lane.reset : Lane :=
  { en := false, inputs := [], queue := [], crcErr := 0, frameErr := 0, frames := 0, ackDrop := 0
    ovf := false, crcSeen := false, frameSeen := false }

def Governor.reset : Governor :=
  { budget := 0xFFFFFFFF, cfg := 0x4000, k := 65536, overB := false, draw := 0, nonDef := 0, demand := 0 }

/-! ### Measurement (spec/04, spec/05) -/

def Slice.reset (i : Nat) : Slice :=
  { ofs := 0, gain := 1073741824, lin := List.replicate 17 0, role := if i % 17 = 16 then .spare else .serving
    pos := if i % 17 = 16 then 0x1F else i % 17, last := 0, cals := 0, raw := 0, runLen := 0, railLen := 0 }

def Cmp.reset : Cmp :=
  { hi := false, lo := false, ov := false, uv := false, wHi := false, wLo := false, modeI := 0, modeV := 1, nextI := 0
    nextV := 1, inI := false, inV := false, inW := false, holdI := false, holdV := false
    holdW := false }

def CalRun.reset : CalRun := { active := false, pts := [], par := [] }

def Group.reset : Group :=
  { slices := Vector.ofFn fun i => Slice.reset i.val, mapI := Vector.ofFn fun i => i.val
    mapV := Vector.ofFn fun i => i.val, outI := 16, outV := 16, failI := 0, failV := 0, mctrl := 3
    plaus := 0x00C80032, substCount := 0, substs := [], xfer := false, pausedI := false, pausedV := false, frozenI := 0
    frozenV := 0, rotI := 0, rotV := 0, freedI := false, freedV := false, calI := CalRun.reset, calV := CalRun.reset, slotAt := none
    diagCtrl := 0, diagRun := false, diagRho := 0, diagRes := 0
    refvGain := 1073741824, refvOfs := 0, refiGain := 1073741824, refiOfs := 0, refvLin := List.replicate 17 0
    refPending := none, xferV := none, xferI := none, stateV := 0, stateI := 0, xferTimeV := 0, xferTimeI := 0, xferTime := 0
    iwin := Vector.replicate 16 0x07FF0800, vtrip := Vector.replicate 16 0x0D9A0000
    vwarn := Vector.replicate 16 0x0FFF0000, wcfg := Vector.replicate 16 0x00400C50
    cmp := Vector.replicate 16 Cmp.reset, whitI := 0, whitV := 0, whitW := 0, whold := 0x0A, rbCount := 0
    rbValid := false, rbKind := false, rbDac := 0, rbDev := 0, rbNextI := 0, rbNextV := 0
    wrBeatI := Vector.replicate 16 0, wrBeatV := Vector.replicate 16 0, rbBadI := 0, rbBadV := 0, rbWrI := 0, rbWrV := 0
    dacFailI := 0, dacFailV := 0, wRefused := false, wWord := 0, wPos := 0, gtHold := [], gtWin := 0, gtPos := 0 }

def MetPort.reset : MetPort :=
  { ctrl := 0x00000201, state := .idle, job := .none, result := 0, value := 0, raw := 0, calVal := 0
    vGain := 1073741824, vOfs := 0, mGain := 1073741824, mOfs := 0, vTime := 0, mTime := 0, vValid := false
    mValid := false, calRange := false, zeroMean := 0, newGain := 0, newOfs := 0, calCmd := none }

def Met.reset : Met :=
  { ports := Vector.replicate 4 MetPort.reset, own := 7, ownReg := 7, xferCfg := 0x000C001E, xferMask := 0
    statGroup := 0, statPort := 0, statRefi := 0, statRefv := 0, xchkV := 0x00C80064, xchkI := 0x01F40032, queue := []
    checks := [] }

/-! ### Recipes, tables, lifetime (spec/06, spec/07) -/

def HsInput.reset : HsInput :=
  { state := 0, value := -32768, bins := List.replicate 16 0, highest := 0, lowest := 0, any := false }

def Store.reset : Store :=
  { recipes := [], ocv := Vector.replicate 4 none, ocvNext := [], grade := Vector.replicate 16 none
    gradeRun := Vector.replicate 16 none
    hs := Vector.replicate 8 HsInput.reset, hsCfg := 0x0D6B6400, hsLimit := 0x2710, closures := Vector.replicate 2 0
    lifeSeq := 0, lifeSlots := Vector.replicate 4 none }

/-! ### Host interface and streams (spec/08, spec/09) -/

def Ring.reset : Ring :=
  { baseReg := 0, base := 0, size := 0, dev := 0, host := 0, phase := true, modUs := 0, modCnt := 1, since := 0 }

/-- Configuration space at reset: 128-byte payloads, 512-byte reads, completion timeout range 0 (R291). -/
def pcieReset : PcieCfg :=
  { memSpace := false, bar0 := 0, mps := 0, mrrs := 2, cplRange := 0, cplOff := false, ltrEn := false, aspmL1 := false
    l1ss := 0, ecrcGen := false, ecrcChk := false }

def HostIf.reset : HostIf :=
  { perstN := true, linkUp := false, speed := 0, width := 0, d3 := false, pmeEn := false, bme := false, msixEn := false
    msixMaskAll := false, msixMask := BitVec.allOnes 32, msixPend := 0, msixTable := [], pci := pcieReset, aer := 0, pciErr := 0
    ltrSent := 0, cmdq := Ring.reset
    cplq := Ring.reset, evtq := Ring.reset, fetched := [], fetchErr := false, fetchStop := false, wakeN := true, dbErr := false
    cfgErr := false, cplLost := 0, evtLost := 0, evtSeq := 0, openEvents := [], heldEvents := [], dropped := 0
    dropSeq := 0, running := [], nextId := 0, dataPend := [], cplPend := [], waiters := [], nvOps := [] }

def Stream.reset : Stream :=
  { baseLo := 0, baseHi := 0, cfg := 0x00010000, shape := 0x00010001, mask := Vector.replicate 5 0, run := none
    running := false, gen := 0, full := false, stall := false, reason := 0, phase := true, write := 0, nextAt := 0
    nextPhase := true, read := 0, dropCount := 0, seq := 0, blk := 0, delivered := false, lastSeq := 0, noticed := false
    sinceMsg := 0, span := 0, body := [], got := 0 }

def Telem.reset : Telem := { streams := Vector.replicate 8 Stream.reset, staged := [], disableCmds := [] }

/-! ### Domain (spec/10) -/

def RingPort.reset : RingPort :=
  { up := false, quiet := 16, trains := false, leader := 0, dly := 0, missing := 16, seen := false, hs := [], burst := 0
    pingAt := none, pingSeq := 0, others := 0, otherAddr := 0, otherStrap := false, queue := [] }

/-- The SHA-256 digest of the empty string, which an empty image digests (R331). -/
def shaEmpty : List Byte :=
  [0xe3, 0xb0, 0xc4, 0x42, 0x98, 0xfc, 0x1c, 0x14, 0x9a, 0xfb, 0xf4, 0xc8, 0x99, 0x6f, 0xb9, 0x24,
   0x27, 0xae, 0x41, 0xe4, 0x64, 0x9b, 0x93, 0x4c, 0xa4, 0x95, 0x99, 0x1b, 0x78, 0x52, 0xb8, 0x55]

def Domain.reset : Domain :=
  { strapped := false, en := false, barMode := false, cfg := 0, leadReg := 0, state := .off, addrConflict := false
    strapConflict := false, ports := Vector.replicate 2 RingPort.reset, ringUsed := false, gain := 0, holdover := false
    closed := 16, leader := 0, leaderStrap := false, roster := 0, rlast := 0, leadUse := 0, qUse := 0, joining := false
    otherInfo := none, delta := 0, reepochDue := false, err := 0, servo := 0, trim := 0, ok := 0, bad := 0, best := none
    still := 0, members := [], reports := [], lastRel := [], blocked := [], releases := [], rseq := 0, seenRel := []
    seenAct := [], seenUpd := [], outq := [], barId := 0, barN := 0, barRseq := 0, barResult := 0, barSent := []
    stage := { state := .idle, tag := 0, mask := Vector.replicate 5 0, sentAt := none, actAt := none }
    act := { cfg := 0, bar := 0, result := 0, order := none, n := 0 }
    dig := { shared := shaEmpty, priv := shaEmpty, beat := 0, sweepSent := none, sweepDone := none, misCount := 0
             misValid := false, misAddr := 0, queries := [] }
    updSentAt := none, updAt := none, hdrErr := 0, slotErr := 0 }

/-! ### Links (spec/11) -/

def LinkPort.reset : LinkPort :=
  { en := false, evt := 0, policy := none, next := none, state := .fixed, source := false, part := false, acc := .none
    switch := false, contract := none, agreed := none, offered := [], basis := [], offerDue := false, askDue := false, swapDue := false, bid := none, live := 0, v := 0
    i := 0, shunt := 0x01F4, ocp := 0x78, ocpHit := false, hrst := 0, err := 0, queue := [], tx := none, txId := 0, rxLast := none
    acked := false, await := none, repeatOffer := false, drained := false, wantExport := false, wantImport := false
    backoff := false, collided := false, swap := none, times := [], roleHold := false }

def Links.reset : Links := { port := Vector.replicate 2 LinkPort.reset, vlink := 0, total := 0x07D007D0 }

/-! ### Holdup, clock, sequencer (spec/12, spec/13) -/

def Holdup.reset : Holdup :=
  { cfg := 0x00320004, ichg := 0x0A0643E8, timer := 0x00640005, ntcCfg := 0x0D6B6401, capNom := 0x0036EE80
    estCfg := 0x1E180700, state := .noMain, susFrom := .noMain, drive := .off, main := false, idg := false
    missing := false, shortSeen := false, timerExp := false, ntcFault := false, ntcRange := 2, ntcFrom := 2, thermLim := false
    v := 0, i := 0, vin := 0, temp := -32768, tUs := 0, wMs := 0
    timerRun := false, cap := 0, est := Est.reset, cnt := Counters.reset, restMs := 0, pre := []
    edge := none, learn := .idle, learned := false, rtCount := 0, rtMs := 0, rtStart := 0 }

def Saves.reset : Saves :=
  { areas := Vector.replicate 2 none, writing := none, torn := none, restored := false, autoPending := []
    autoResume := [], resumeDue := false }

def Cal.reset : Cal := { sub := 0, sec := 0, min := 0, hour := 0, day := 1, month := 1, year := 2000 }

def Rtc.reset : Rtc :=
  { now := Cal.reset, shadow := Cal.reset, setBuf := Cal.reset, frozen := false, setRefused := false
    almAT := 0x01000000, almAD := 0x3F000001, almBT := 0x01000000, almBD := 0x3F000001, almA := false, almB := false
    onVrtc := false, valid := false, switchDue := [], resetDue := false, aonSec := 0 }

def SlotCfg.reset (k : Nat) : SlotCfg :=
  { cfg := (if k ≤ 3 then 0x80000000#32 else 0) ||| 0x40053205#32, dly := 0, win := 0x0FFF0000, off := 0x64 }

/-- The blank profile (R411). -/
def SeqProfile.blank : SeqProfile :=
  { cfg := 0x00061402, rst := Vector.replicate 4 0x00010000, slots := Vector.ofFn fun k => SlotCfg.reset k.val }

def Slot.reset : Slot :=
  { en := false, dis := false, pg := false, lastFail := 0, sense := 0, due := false, wasOn := false, isOff := true
    offDone := false, marg := 0, applied := 0, margOn := false }

def Seqr.reset : Seqr :=
  { profile := SeqProfile.blank, run := SeqProfile.blank, stored := none, profileStored := false, storeErr := false
    state := .off, slots := Vector.replicate 12 Slot.reset, released := Vector.replicate 4 false, lastSlot := 0
    lastCause := 0, retry := 0, upKind := 0, partialUp := false, fltDriven := false, fltLow := false, cause := none
    rtCut := false, buffer := [], bufLost := 0, buffering := false, vback := false, lockedMainLost := false
    stopFirst := false, lockAfter := false, evDue := [] }

/-! ### Device, faults, interrupts, watchdog (spec/14, spec/15) -/

def Device.reset : Device :=
  { state := .powerup, step := 0, chryRefused := false, rstRefused := false, left := .ready, chryFrom := .ready
    stopCause := none, mainLostInStop := false, bootCount := 0, result := .running, passed := 0, failStep := 0
    failCode := 0, failData := 0, reportTime := 0, durations := [], engFail := 0, linkWord := 0
    sliceFail := List.replicate 10 (0, 0), absorbed := false, absorbedList := [], noPulse := false, baseline := none
    holdRegion := 0, boardDown := false, svcArea := false, svcIndex := 0, svcHi := 0, svcRange := false
    svcNvErr := false, lifetimeDue := false, ioHigh := false, refin := false }

def Faults.reset : Faults :=
  { sev := Vector.ofFn fun k =>
      BitVec.ofNat 3
        (if k.val ≤ 3 ∨ k.val = 6 ∨ k.val = 7 then 5
         else if k.val = 4 ∨ k.val = 8 ∨ k.val = 9 ∨ k.val = 21 ∨ k.val = 36 ∨ k.val = 37 then 4
         else if k.val = 20 then 3 else if k.val ≤ 41 ∨ 120 ≤ k.val then 1 else 0)
    active := 0, hit := 0, first := none, count := 0, wbRefused := false, injRefused := false, ovf := false
    lock := false, s4BoardOff := false, wbSev := 4, autoHold := true, modeReg := false, mode := false, hold := false
    running := false, level := false, pulse := false, prev := 0, prevData := 0, prevTime := 0, rtcCopy := none
    ffLost := false, testEn := false, factory := false, monRec := [], missed := 0, excuse := 0, s4First := none }

def IrqSrc.reset (sense target : BitVec 2) : IrqSrc :=
  { pending := false, active := false, input := false, sense := sense, target := target, prio := 0, heldTarget := none }

/-- SENSE at reset (R475). -/
def senseReset (k : Nat) : BitVec 2 :=
  if (15 ≤ k ∧ k ≤ 20) ∨ k = 25 ∨ k = 27 ∨ k = 28 ∨ (29 ≤ k ∧ k ≤ 34) then 0
  else if k = 41 ∨ k = 46 then 3 else 1
/-- TARGET at reset (R475). -/
def targetReset (k : Nat) : BitVec 2 :=
  if k = 10 ∨ k = 11 ∨ k = 23 ∨ k = 26 ∨ (29 ≤ k ∧ k ≤ 36) ∨ k = 41 ∨ k = 46 then 0
  else if k = 22 ∨ k = 37 ∨ k = 39 ∨ k = 40 then 1 else 2

def Irq.reset : Irq :=
  { src := Vector.ofFn fun k => IrqSrc.reset (senseReset k.val) (targetReset k.val)
    bank := Vector.ofFn fun t => Vector.replicate 16 (IrqSrc.reset 1 (BitVec.ofNat 2 t.val))
    thresh := Vector.replicate 3 0, badComplete := false, routeRefused := false, soft := 0, irqN := true
    delivered := false }

def Wdt.reset : Wdt :=
  { lock := false, en := false, cfg := 0x010000C8, tasks := 0, cfgRun := 0x010000C8, tasksRun := 0, openPart := false
    firstWord := false, keyRefused := false, lastReason := 0, lastTask := 0, checked := 0, supCount := 0, allCount := 0
    supTimes := [], deferred := none, restarting := false }

/-! ### Security and buses (spec/16, spec/17) -/

def Tray.reset : Tray := { state := .absent, here := false, last := 0, map := Vector.replicate 5 0, exch := none }
def Bank.reset (st : BankState) : Bank :=
  { state := st, version := 0, svn := 0, tries := 0
    parts := if st = .confirmed then (List.range 6).map fun k => (k + 1, []) else [] }

def Sec.reset : Sec :=
  { otpA := Vector.replicate 512 0, otpB := Vector.replicate 512 0, undo := none, updLock := false, debugOpen := false, mapRefused := false, attDone := false
    attRun := none, otpAddr := 0, otpData := 0, otpRd := 0, otpBusy := none, otpResult := 0, trayCfg := 0
    trays := Vector.replicate 4 Tray.reset, nonce := Vector.replicate 8 0, devKey := Vector.replicate 16 0, privKey := 0
    sig := Vector.replicate 16 0, banks := #v[Bank.reset .confirmed, Bank.reset .empty], running := 0, staging := none
    updLength := 0, updManifest := List.replicate 8 0, updLast := 0, fallback := false, fallDue := 0, raiseSvn := none }

def Bus.reset (b : Nat) : Bus :=
  { cfg := 0x19190301, stat := 0, xctl := 0, xrun := 0, xres := 0, xbuf := Vector.replicate 12 0, job := .idle, hostWait := false
    lost := 0, poll := if b < 4 then 100 else 0, pollRun := if b < 4 then 100 else 0, due := [], late := false, fails := [] }
def Target.reset : Target := { ptr := 0, frames := 0, result := 0 }
def TwoWire.reset : TwoWire :=
  { bus := Vector.ofFn fun b => Bus.reset b.val, board := Target.reset, service := Target.reset
    mbox := Vector.replicate 8 0, mboxLast := 0, baddr := 0 }

def NvLog.reset : NvLog := { recs := [], pos := 0, nextSeq := 0 }

end Sys2Proof.Machine
end

