-- ==== Sys2Proof/Machine/Estimator.lean ====
section
/-!
DEFINITION. The estimator's milli job as a function of its inputs (spec/07_estimation_grading.md): capacity results
(R212 to R220), impedance records (R222 to R228), rests, open-circuit voltage and state of charge (R229 to R236),
grades (R237 to R242). The holdup cell uses the same functions (R208).
-/
namespace Sys2Proof.Machine

/-- What the milli job of a period reads (R206, R27). -/
structure EstIn where
  chan : Nat
  first : Beat                     -- first beat of the closed period
  vm : Int
  im : Int
  per : EstPeriod
  cnt : Counters                   -- frozen
  doneZ : List OpenZ
  fs : Int                         -- channel full scale as the quotient fs / rsh µA
  rsh : Nat
  nom : Nat                        -- NOM_CHARGE of the recipe running or last run, 0 none
  cfg : Word                       -- CH_EST_CFG in force
  learnT : Word
  learnRate : Word
  phases : List PhaseNo
  ocv : Option OcvTable
  grades : Nat → Option GradeTable

/-! ### Averages of a few kinds -/

def sumL (l : List Int) : Int := l.foldl (· + ·) 0
/-- The mean of a list, its rounding open (log entry 3). -/
def meanL (l : List Int) : Int := if l.isEmpty then 0 else openDiv (sumL l) l.length
/-- The mean temperature of a list of readings; −32768 when one is missing. -/
def meanTemp (l : List Int) : Int := if l.isEmpty || l.any (· == -32768) then -32768 else meanL l

/-! ### Impedance records (R222 to R228) -/

/-- The record as kept (R226): Z of the valid points, ΔI of every point whose window is complete. -/
def zRecord (z : OpenZ) : ZRec :=
  let ws := [(z.zi, 1), (z.z1, 10), (z.z10, 100), (z.z100, 1000)]
  let mean := fun (x : Int) (n : Nat) => if n = 0 then 0 else openDiv x n
  { beatE := z.beatE, kind := z.kind, valid := 2 ^ z.validTo - 1, temp := z.temp, step := z.step
    iPre := mean z.pre.i z.pre.n, vPre := mean z.pre.v z.pre.n
    z := (List.range 4).map fun k => if k < z.validTo then (zOhm z (ws.getD k (z.zi, 1)).1).getD 0 else 0
    di := ws.map fun (w, n) => if w.n = n then mean (w.i * z.pre.n - z.pre.i * w.n) (w.n * z.pre.n) else 0 }

/-- Point `k` of a record is valid. -/
def ZRec.has (r : ZRec) (k : Nat) : Bool := r.valid / 2 ^ k % 2 == 1

/-- A tracked value after one more valid point (R227). -/
def track (isSet : Bool) (old new : Int) (kind : Nat) : Int :=
  if isSet then old + divZero (new - old) (if 4 ≤ kind then 32 else 8) else new

/-- A record joins the ring of the last 16, and its valid points the tracked impedances (R224, R227). -/
def Est.addRec (e : Est) (r : ZRec) : Est :=
  let ring := if 16 ≤ e.zring.length then e.zring.drop 1 ++ [r] else e.zring ++ [r]
  let any := r.valid ≠ 0
  { e with zring := ring
           zt := (List.range 4).map fun k =>
             if r.has k then (track (getB e.ztSet k) (e.zt.getD k 0) (getI r.z k) r.kind).toNat else e.zt.getD k 0
           ztTemp := if any ∧ r.temp ≠ -32768 then track (e.ztTemp != -32768) e.ztTemp r.temp r.kind else e.ztTemp
           ztSet := (List.range 4).map fun k => getB e.ztSet k || r.has k
           ztCount := if any then satInc 0xFFFF e.ztCount else e.ztCount }

/-- The estimator after a record (R224, R226 to R228). -/
def Est.addZ (e : Est) (x : EstIn) (z : OpenZ) : Est :=
  let r := zRecord z
  let e := e.addRec r
  let e :=
    { e with dcir := if r.kind = 1 then e.dcir.map fun d => if d.startBeat ≠ z.stepBeat then d else
                 { d with sums := (List.range 4).map fun k => getI d.sums k + if r.has k then getI r.z k else 0
                          counts := (List.range 4).map fun k => d.counts.getD k 0 + if r.has k then 1 else 0
                          tempSum := d.tempSum + if r.temp = -32768 then 0 else r.temp
                          tempN := d.tempN + if r.temp = -32768 then 0 else 1 }
               else e.dcir }
  if r.kind = 1 ∨ r.kind = 2 then
    { e with posts := e.posts ++ [{ beat := x.first, kind := .channel, subject := x.chan, typ := 14
                                    data := [BitVec.ofNat 8 r.kind, BitVec.ofNat 8 (e.zring.length - 1), 0, 0] ++
                                      leBytes 4 (getI r.z 0).toNat }] }
  else e

/-! ### Capacity results (R212 to R219) -/

/-- The start condition of R212 holds for a measuring step of a type. -/
def startOk (typ : Nat) (r : Option StartRec) : Bool :=
  match r with
  | some r => r.good && (if typ = tCAPD then (r.typ == tCCCV || r.typ == tCAPC) && r.positive else r.typ == tCAPD)
  | none => false

/-- The end condition of R212. -/
def endOk (e : StepEnd) : Bool :=
  if e.typ = tCAPD then e.cause == .builtin else e.termKind == 4 && e.cvReached

/-- RATE of R213, in 0.001 C. -/
def rateOf (set1 : Int) (nom : Nat) : Nat := if nom = 0 then 0 else set1.natAbs * 3600000 / nom

/-- The disqualification mask of a measuring step that has ended (R213); XCHK_FAIL is added when the checks end. -/
def maskOf (x : EstIn) (m : MeasStep) (e : StepEnd) (ride : Bool) : Nat :=
  let b := fun (c : Bool) (k : Nat) => if c then 2 ^ k else 0
  let rate := rateOf e.set1 x.nom
  let st := m.start
  b (!startOk m.typ st) 0 + b (!endOk e) 1 + b m.tempOut 2 + b m.tempUnknown 3 +
    b (decide (rate < fld x.learnRate 0 16) || decide (fld x.learnRate 16 16 < rate)) 4 +
    b (e.cause == .interrupted || st.any fun r => r.intr != 0) 5 + b (ride || st.any fun r => r.ride) 6 +
    b (e.resumed || st.any fun r => r.resumed) 7 + b e.lane 8

/-- The result of a measuring step that has ended (R215). -/
def resultOf (x : EstIn) (m : MeasStep) (e : StepEnd) (det subst calOff : Bool) : CapResult :=
  let b := fun (c : Bool) (k : Nat) => if c then 2 ^ k else 0
  let mask := maskOf x m e m.ride
  let early := m.typ = tCAPD ∧ e.cause = .builtin ∧ 2 * e.charge.natAbs < x.nom
  { endBeat := e.endBeat, charge := e.charge, energy := e.energy, mask := mask
    flags := b (decide early) 0 + b m.countOver 1 + b subst 4 + b det 5 + b calOff 6
    temp := if m.tempN = 0 then -32768 else openDiv m.tempSum m.tempN
    rate := rateOf e.set1 x.nom
    efficiency := 0
    isCharge := m.typ == tCAPC, step := e.step, recipe := e.recipe
    intr := match m.start with
      | some r => if r.intr ≠ 0 then r.intr else e.reason
      | none => e.reason
    vEnd := x.vm }

/-- The charge of a qualified CAP_CHARGE result, for the step whose start condition it is (R215). -/
def StartRec.charged (r : CapResult) (s : StartRec) : StartRec :=
  if s.typ = tCAPC ∧ s.endBeat = r.endBeat then { s with charge := r.charge.natAbs } else s

/-- A result is written (R213, R215, R216): the checks of R219 are added, a qualified discharge sets the qualified
capacity (R214), a qualified charge serves the discharge that it starts, the event is posted and source 45 raised. DESIGN
CHOICE (log entry 74): one that a RECIPE_START has overtaken is not kept among the results of the new run; its event names
slot 0xFF. -/
def Est.writeCap (e : Est) (x : EstIn) (m : MeasStep) (r : CapResult) : Est :=
  let mask := if m.xFail then r.mask + 2 ^ 9 else r.mask
  let flags := r.flags + (if m.countOver ∧ m.xFail = false ∧ m.xTimeout = false then 4 else 0) +
    (if m.xTimeout then 8 else 0)
  let ok := mask = 0
  let eff := match m.start, r.isCharge with
    | some s, false => if ok ∧ s.charge ≠ 0 then r.charge.natAbs * 1000000 / s.charge else 0
    | _, _ => 0
  let r := { r with mask := mask, flags := flags, efficiency := eff }
  let caps := if m.past then e.caps else if 8 ≤ e.caps.length then e.caps.drop 1 ++ [r] else e.caps ++ [r]
  let slot := if m.past then 0xFF else caps.length - 1
  let mark := fun (s : Option StartRec) => if ok ∧ r.isCharge = true then s.map (StartRec.charged r) else s
  { e with caps := caps
           qualCap := if ok ∧ r.isCharge = false then r.charge.natAbs else e.qualCap
           start := mark e.start
           meas := e.meas.map fun m => { m with start := mark m.start }
           await := e.await.map fun m => { m with start := mark m.start }
           posts := e.posts ++ [{ beat := x.first, kind := .channel, subject := x.chan, typ := 13
                                  data := [BitVec.ofNat 8 slot, if r.isCharge then 1 else 0, 0, 0] ++
                                    leBytes 4 mask ++ leBytes 2 flags }]
           irqs := e.irqs ++ [45] }

/-- Ended steps whose cross-checks have all ended are written. -/
def Est.flushAwait (e : Est) (x : EstIn) : Est :=
  let ready := e.await.filter fun m => m.xPending.isEmpty
  let e := { e with await := e.await.filter fun m => !m.xPending.isEmpty }
  ready.foldl (fun e m => match m.ended with | some r => e.writeCap x m r | none => e) e

/-- The temperature of one milli period, the last reading however old, against CH_LEARN_T (R206, R213). -/
def MeasStep.temp (m : MeasStep) (x : EstIn) : MeasStep :=
  let t := x.per.temp
  let none_ := t == -32768
  { m with tempUnknown := m.tempUnknown || none_ || x.per.tempOld
           tempOut := m.tempOut || (!none_ && (decide (t < signed 16 (fld x.learnT 0 16)) ||
             decide (signed 16 (fld x.learnT 16 16) < t)))
           tempSum := m.tempSum + if none_ then 0 else t
           tempN := m.tempN + if none_ then 0 else 1 }

/-- The test of COUNT_OVER_WINDOW (R218) on a measuring step with the step charge `q`, once for the step. -/
def MeasStep.over (m : MeasStep) (x : EstIn) (q : Int) : Bool :=
  let inside := if m.typ = tCAPD then decide (m.set2 < x.vm) else decide (x.vm < m.set2)
  !m.countOver && decide (13 * x.nom < 10 * q.natAbs) && inside && x.nom != 0

/-- The flag set, with the cross-checks it asks for (R219). -/
def MeasStep.ask (m : MeasStep) (x : EstIn) : MeasStep := { m with countOver := true, xPending := x.phases }

/-- COUNT_OVER_WINDOW of the step that runs. -/
def Est.countWindow (e : Est) (x : EstIn) : Est :=
  match e.meas with
  | some m =>
      if m.over x (visible x.cnt.stepQ) then { e with meas := some (m.ask x), xAsk := e.xAsk ++ x.phases } else e
  | none => e

/-- A measuring step ends (R213): where it reached its cutoff in this period COUNT_OVER_WINDOW is tested once more, and the
cross-checks run after the step (R220). -/
def Est.measEnd (e : Est) (x : EstIn) (m : MeasStep) (s : StepEnd) (det subst calOff : Bool) : Est :=
  let past := s.cause == .builtin && m.typ == tCAPD && m.over x s.charge
  let m := if past then m.ask x else m
  { e with meas := none, xAsk := if past then e.xAsk ++ x.phases else e.xAsk
           await := e.await ++ [{ m with ended := some (resultOf x m s det subst calOff) }] }

/-! ### Rests and open-circuit voltage (R229 to R235) -/

/-- The inverse of an OCV table at a voltage at 25 °C (R232). -/
def socInverse (t : OcvTable) (v : Int) : Nat :=
  let p := fun k => getI t.points k
  match (List.range 20).find? fun k => decide (p k ≤ v) && decide (v < p (k + 1)) with
  | some k =>
      if v = p k ∧ 0 < k ∧ p (k - 1) = p k then (Config.socUnfixed v).toNat
      else 500 * k + (openDiv (500 * (v - p k)) (p (k + 1) - p k)).toNat
  | none => if v = p 20 ∧ p 19 < p 20 then 10000 else (Config.socUnfixed v).toNat

/-- SOC_ref of an open-circuit voltage at a temperature (R232); without a temperature reading the spec states no value, and it
is free unless the table has no temperature coefficient (log entry 11). -/
def socOf (t : OcvTable) (v temp : Int) : Nat :=
  if temp = -32768 ∧ t.beta ≠ 0 then (Config.socUnfixed v).toNat else socInverse t (v - openDiv (t.beta * (temp - 2500)) 100)

/-- REST_MIN in beats. -/
def restMin (cfg : Word) : Nat := (max 1 (fld cfg 24 8)) * 60000000
/-- REF_AGE in beats. -/
def refAge (cfg : Word) : Nat := (max 1 (fld cfg 16 8)) * 3600000000

/-- The relaxation points of R230 and the reference of R232 in the period that closes. -/
def Est.rests (e : Est) (x : EstIn) : Est :=
  match x.per.rest with
  | none => e
  | some b =>
      let e := if e.relaxRest = some b then e else { e with relaxRest := some b, relax := [0, 0, 0, 0, 0] }
      let now := (x.first + 1000 - b).toNat
      let was := now - 1000
      let points := [1000000, 10000000, 60000000, 600000000, 1800000000]
      let e := { e with relax := (List.range 5).map fun k =>
        let p := points.getD k 0
        if p ≤ now ∧ was < p then x.vm else getI e.relax k }
      let m := restMin x.cfg
      match x.ocv with
      | some t =>
          if now / m ≠ was / m then
            { e with ref := some { value := x.vm, temp := x.per.temp, soc := socOf t x.vm x.per.temp, unc := t.unc
                                   beat := x.first + 1000, savedAge := 0, corr := 0 }
                     stale := false, zeroQ := true, zeroThrough := true, corr := WinSum.zero }
          else e
      | none => e

/-- C of R233, µC: the qualified capacity, else NOM_CHARGE; 0 none. -/
def Est.capacity (e : Est) (x : EstIn) : Nat := if e.qualCap ≠ 0 then e.qualCap else x.nom
/-- The charge since the reference in 0.01 % of C (R233). -/
def Est.moved (e : Est) (x : EstIn) : Int := openDiv ((if e.zeroQ then 0 else visible x.cnt.refQ) * 10000) (e.capacity x)

/-- SOC and UNC (R233): none without a reference or a table in use (R232); without a C the SOC reads none and UNC is that of
the reference. -/
def Est.socNow (e : Est) (x : EstIn) : Est :=
  match e.ref, x.ocv with
  | some r, some _ =>
      let c := e.capacity x
      let th := if e.zeroThrough then 0 else x.cnt.through
      let unc := if c = 0 then r.unc else min 10000 (r.unc + ceilDiv (5 * th) (c * 4294967296))
      { e with soc := if c = 0 then 0xFFFF else (clampInt 0 10000 (r.soc + r.corr + e.moved x)).toNat
               unc := if e.stale then max 300 unc else unc }
  | _, _ => { e with soc := 0xFFFF, unc := 0 }

/-- The model correction of R235 at a boundary that closes 600,000 beats of steady current; the reference keeps it, so that the
counting of R233 goes on from the corrected SOC. -/
def Est.model (e : Est) (x : EstIn) : Est :=
  let w : WinSum := { n := e.corr.n + x.per.n, v := 0, i := e.corr.i + x.per.iSum }
  let lo := if e.corr.n = 0 then x.per.iMin else min e.corrMin x.per.iMin
  let hi := if e.corr.n = 0 then x.per.iMax else max e.corrMax x.per.iMax
  let e := { e with corr := w, corrMin := lo, corrMax := hi }
  if w.n < 600000 then e
  else
    let n := (w.n : Int)
    let steady := decide ((n * hi - w.i) * 50 * x.rsh ≤ n * x.fs) && decide ((w.i - n * lo) * 50 * x.rsh ≤ n * x.fs)
    let e := { e with corr := WinSum.zero }
    match x.ocv, e.ref with
    | some t, some r =>
        if steady && e.stale && getB e.ztSet 3 && e.soc != 0xFFFF then
          let model := x.vm - openDiv (x.im * (e.zt.getD 3 0 : Nat)) 1000000
          let soc := (e.soc + socOf t model x.per.temp) / 2
          { e with ref := some { r with corr := soc - r.soc - e.moved x, unc := 300 + t.unc }
                   soc := soc, unc := 300 + t.unc, zeroThrough := true }
        else e
    | _, _ => e

/-- The end-of-step OCV and the self-discharge proxy of an OCV_HOLD that ended by its duration (R231). -/
def Est.ocvEnd (e : Est) (s : StepEnd) : Est :=
  let last := e.vHist.take 60000
  let win := min 43200 (s.beats / 1000000 - 3600)
  let secs := (List.range win).map fun k => sumL (((e.vHist.drop (1000 * k)).take 1000).map Prod.fst)
  -- newest first: second k counts −k; each sum is 1,000 times the 1 s mean
  let n : Int := win
  let sk := sumL ((List.range win).map fun (k : Nat) => -(k : Int))
  let skk := sumL ((List.range win).map fun (k : Nat) => (k : Int) * (k : Int))
  let sy := sumL secs
  let sky := sumL ((List.range win).map fun (k : Nat) => -(k : Int) * getI secs k)
  let den := (n * skk - sk * sk) * 1000
  let sd := -(openDiv ((n * sky - sk * sy) * 3600) den)
  { e with
    endOcv := some (meanL (last.map Prod.fst), meanTemp (last.map Prod.snd))
    sdp := if win < 2 then none else some (sd, meanTemp ((e.vHist.take (1000 * win)).map Prod.snd))
    sdpLast := if win < 2 then e.sdpLast else sd }

/-! ### Grades (R237 to R242) -/

/-- A criterion's value and temperature (R238). -/
structure Crit where
  raw : Int
  temp : Int
deriving DecidableEq, Repr

/-- The last qualified discharge result of the run. -/
def Est.lastCap (e : Est) : Option CapResult := (e.caps.filter fun r => !r.isCharge && r.mask == 0).getLast?

/-- A point of the DCIR impedance of the run (R228). -/
def Est.dcirPoint (e : Est) (k : Nat) : Option Crit :=
  match e.dcir with
  | some d =>
      let n := d.counts.getD k 0
      if n = 0 then none
      else some { raw := openDiv (getI d.sums k) n, temp := if d.tempN = 0 then -32768 else openDiv d.tempSum d.tempN }
  | none => none

/-- A point of the tracked impedance (R227). -/
def Est.ztPoint (e : Est) (k : Nat) : Option Crit :=
  if getB e.ztSet k then some { raw := e.zt.getD k 0, temp := e.ztTemp } else none

/-- The five criteria (R238), those without a source or a temperature left out; the flag says that ZT was used. -/
def Est.criteria (e : Est) : List (Option Crit) × Bool :=
  let ok := fun (c : Option Crit) => c.filter fun c => c.temp != -32768
  let cap := ok (e.lastCap.map fun r => { raw := (r.charge.natAbs : Int), temp := r.temp })
  let pick := fun (k : Nat) => match e.dcirPoint k with | some c => (ok (some c), false) | none => (ok (e.ztPoint k), true)
  let (zi, a) := pick 0
  let (z100, b) := pick 3
  let ocv := ok (e.endOcv.map fun (v, t) => { raw := v, temp := t })
  let sd := ok (e.sdp.map fun (v, t) => { raw := v, temp := t })
  ([cap, zi, z100, ocv, sd], (zi.isSome && a) || (z100.isSome && b))

/-- A criterion normalised to 25 °C, the result rounded (R238). -/
def normal (t : GradeTable) (k : Nat) (c : Crit) : Int :=
  let a := getI t.alphas k
  if k = 3 then divRound (100 * c.raw - a * (c.temp - 2500)) 100
  else divRound (c.raw * (100000000 + a * (c.temp - 2500))) 100000000

/-- The least and the greatest value of a criterion's type: open edges (R237). -/
def openMin (k : Nat) : Int := if k < 3 then 0 else -2147483648
def openMax (k : Nat) : Int := if k = 0 then 18446744073709551615 else if k < 3 then 4294967295 else 2147483647

/-- The lesser of two fractions with positive denominators. -/
def minFrac (a b : Nat × Nat) : Nat × Nat := if a.1 * b.2 ≤ b.1 * a.2 then a else b
/-- The greater of two fractions with positive denominators. -/
def maxFrac (a b : Nat × Nat) : Nat × Nat := if a.1 * b.2 ≤ b.1 * a.2 then b else a

/-- Criterion `k` is in a bin's mask. -/
def GradeBin.tests (b : GradeBin) (k : Nat) : Bool := b.mask / 2 ^ k % 2 == 1
/-- A value lies inside a bin's edges. -/
def GradeBin.inside (b : GradeBin) (k : Nat) (v : Int) : Bool :=
  decide (getI b.mins k ≤ v) && decide (v ≤ getI b.maxs k)

/-- The distance of a value inside a bin to its nearest closed edge; none where both are open. -/
def GradeBin.margin (b : GradeBin) (k : Nat) (v : Int) : Option Nat :=
  let lo := if getI b.mins k = openMin k then none else some (v - getI b.mins k).natAbs
  let hi := if getI b.maxs k = openMax k then none else some (getI b.maxs k - v).natAbs
  match lo, hi with
  | some a, some c => some (min a c)
  | some a, none => some a
  | none, h => h

/-- How far a value lies beyond a bin's edges. -/
def GradeBin.excess (b : GradeBin) (k : Nat) (v : Int) : Nat :=
  if v < getI b.mins k then (getI b.mins k - v).natAbs else if getI b.maxs k < v then (v - getI b.maxs k).natAbs else 0

/-- The factor that an earlier bin gives to the confidence (R239). -/
def earlierFactor (t : GradeTable) (b : GradeBin) (vals : List (Option Int)) : Nat × Nat :=
  (List.range 5).foldl (fun p k =>
    if !b.tests k then p
    else match vals.getD k none with
      | none => maxFrac p (1, 1)
      | some v =>
          if b.inside k v then p
          else
            let u := (getI t.us k).toNat
            if u = 0 then (1, 1) else maxFrac p (minFrac (1, 1) (b.excess k v, 4 * u))) (0, 1)

/-- The qualified weight of the winning bin `w` (R239). -/
def confFrac (t : GradeTable) (w : Nat) (vals : List (Option Int)) : Nat × Nat :=
  let bin := t.bins.getD w { code := 0, mask := 0, mins := [], maxs := [] }
  let own := (List.range 5).foldl (fun q k =>
    if !bin.tests k then q
    else match vals.getD k none with
      | none => q
      | some v =>
          let u := (getI t.us k).toNat
          (match bin.margin k v with
           | some d => if u = 0 then q else minFrac q (d, 4 * u)
           | none => q)) (1, 1)
  (t.bins.take w).foldl (fun q b => minFrac q (earlierFactor t b vals)) own

/-- The grade evaluation (R239 to R242) of a run that ended with GRADE. -/
def Est.evalGrade (e : Est) (x : EstIn) (recipe table : Nat) (version : Word) (det subst calOff resumed : Bool) : Est :=
  let b := fun (c : Bool) (k : Nat) => if c then 2 ^ k else 0
  let (crits, tracked) := e.criteria
  let avail := (List.range 5).foldl (fun a k => if (crits.getD k none).isSome then a + 2 ^ k else a) 0
  let outstanding := e.await.filter fun m => !m.past
  let pending := !outstanding.isEmpty
  let pendingD := outstanding.any fun m => m.typ == tCAPD
  let cap := e.lastCap
  let lastD := (e.caps.filter fun r => !r.isCharge).getLast?
  let flag := fun (k : Nat) => match cap with | some r => r.flags / 2 ^ k % 2 == 1 | none => false
  let extrap := crits.any fun c => match c with | some c => decide (c.temp < 1500) || decide (3500 < c.temp) | none => false
  let common := b (flag 0) 2 + b (flag 1) 3 + b (flag 3) 4 + b pending 5 +
    b (cap.isSome && (cap != lastD || pendingD)) 6 + b tracked 7 + b extrap 8 + b det 9 + b subst 10 + b resumed 11 +
    b calOff 12
  let t? := x.grades table
  let vals : List (Option Int) := match t? with
    | some t => (List.range 5).map fun k => (crits.getD k none).map (normal t k)
    | none => [none, none, none, none, none]
  let (code, conf, bin, extra) : Nat × Nat × Nat × Nat := match t? with
    | none => (15, 0, 0xFF, 2)
    | some t =>
        if !((List.range 5).all fun k => t.required / 2 ^ k % 2 == 0 || (vals.getD k none).isSome) then
          (t.fallback, 0, 0xFF, 2)
        else
          match (List.range t.bins.length).find? fun w =>
            let bin := t.bins.getD w { code := 0, mask := 0, mins := [], maxs := [] }
            (List.range 5).all fun k => !bin.tests k ||
              (match vals.getD k none with | some v => bin.inside k v | none => false) with
          | none => (t.fallback, 0, 0xFF, 1)
          | some w =>
              let (n, d) := confFrac t w vals
              let halves := (if flag 0 then 2 else 1) * (if flag 1 then 2 else 1) * (if flag 3 then 2 else 1)
              let tq := if tracked then (3, 4) else (1, 1)
              let eq := if extrap then (3, 4) else (1, 1)
              ((t.bins.getD w { code := 0, mask := 0, mins := [], maxs := [] }).code,
               255 * n * tq.1 * eq.1 / (d * halves * tq.2 * eq.2), w, 0)
  let v := fun (k : Nat) => (vals.getD k none).getD 0
  { e with
    grade := some { beat := x.first + 2000, table := table, code := code, conf := conf, bin := bin
                    flags := extra + common, cap25 := v 0, zi25 := v 1, z10025 := v 2, ocv25 := v 3, sd25 := v 4
                    avail := avail, recipe := recipe, version := version }
    posts := e.posts ++ [{ beat := x.first, kind := .channel, subject := x.chan, typ := 16
                           data := [BitVec.ofNat 8 code, BitVec.ofNat 8 conf, BitVec.ofNat 8 table] }]
    irqs := e.irqs ++ [44] }

/-! ### The job -/

/-- A step with current that may serve as a start condition (R212): any executing step but REST and OCV_HOLD. -/
def carriesCurrent (t : Nat) : Bool := isExecType t && t != tREST && t != tOCV

/-- One happening of the period. -/
def Est.event (x : EstIn) (e : Est) (ev : EstEv) : Est :=
  match ev with
  | .runStart =>
      { e with caps := [], start := none, meas := none, dcir := none, endOcv := none, sdp := none, grade := none
               inStep := false, vHist := [], await := e.await.map fun m => { m with past := true } }
  | .stepStart _ step typ set1 set2 beat =>
      let e := { e with inStep := isExecType typ, vHist := [] }
      let e := if typ = tDCIR then
          { e with dcir := some { step := step, startBeat := beat, sums := [0, 0, 0, 0], counts := [0, 0, 0, 0]
                                  tempSum := 0, tempN := 0 } }
        else e
      if typ = tCAPD ∨ typ = tCAPC then
        let m : MeasStep := { typ := typ, set1 := set1, set2 := set2, start := e.start, tempOut := false
                              tempUnknown := false, tempSum := 0, tempN := 0, countOver := false, xPending := []
                              xFail := false, xTimeout := false, ride := false, ended := none, past := false }
        { e with meas := some (m.temp x) }
      else e
  | .stepEnd s det subst calOff =>
      let e := match e.meas with
        | some m => e.measEnd x m s det subst calOff
        | none => e
      let e := if s.typ ≠ tOCV then e else if s.cause = .duration then e.ocvEnd s else { e with endOcv := none, sdp := none }
      let e := if carriesCurrent s.typ then
          { e with start := some { typ := s.typ, positive := decide (0 < s.set1), endBeat := s.endBeat
                                   good := if s.typ = tCAPD then s.cause == .builtin else s.termKind == 4 && s.cvReached
                                   resumed := s.resumed, charge := 0, intr := 0, ride := false } }
        else e
      { e with inStep := false }.flushAwait x
  | .intr reason =>
      { e with start := e.start.map fun r => if r.intr = 0 then { r with intr := reason } else r }
  | .ride =>
      { e with start := e.start.map fun r => { r with ride := true }
               meas := e.meas.map fun m => { m with ride := true } }
  | .grade recipe table version det subst calOff resumed => e.evalGrade x recipe table version det subst calOff resumed

/-- FORGET (R214, R227): the learned state of the cell is cleared; REFERENCE_STALE clears only at the next reference (R235). -/
def Est.cleared (e : Est) : Est :=
  { e with qualCap := 0, zt := [0, 0, 0, 0], ztSet := [false, false, false, false], ztTemp := -32768, ztCount := 0
           ref := none, soc := 0xFFFF, unc := 0, forget := none }

/-- The milli job (R207): the estimator's result for the period that opened with `x.first`. -/
def estMilli (x : EstIn) (e : Est) : Est :=
  let e := { e with posts := [], irqs := [], xAsk := [], zeroQ := false, zeroThrough := false }
  let e := { e with meas := e.meas.map fun m => m.temp x
                    vHist := if e.inStep then (x.vm, x.per.temp) :: e.vHist else e.vHist }
  let e := x.per.evs.foldl (Est.event x) e
  let e := (e.countWindow x).flushAwait x
  let e := x.doneZ.foldl (fun e z => e.addZ x z) e
  ((e.rests x).socNow x).model x

end Sys2Proof.Machine
end

