-- ==== Sys2Proof/Machine/State.lean ====
section
/-!
DEFINITION. The state of the device: every register, counter, buffer, mode and pin that spec/ gives it, and the queue of
the commands that wait. Plain data.
-/
namespace Sys2Proof.Machine

/-- Why a step could stop with a fault. No command of the device ends in one: its own faults are state (R450). The
type is empty of use and safe. -/
inductive Fault where
  /-- Raised by nobody; kept so that the type is inhabited (safe). -/
  | none
deriving DecidableEq, Repr

/-- Why a command could be refused. -/
inductive Refusal where
  /-- Raised by exec for a command whose meaning is not written; the mnemonic is that of the opcode table (safe). -/
  | notModelled (mnemonic : String)
deriving DecidableEq, Repr

/-- The state of the device. -/
structure State where
  beat : BeatUnit
  phases : Vector Phase 160
  chans : Vector Chan 160
  groups : Vector Group 10
  lane : Lane
  gov : Governor
  met : Met
  store : Store
  host : HostIf
  tel : Telem
  dom : Domain
  links : Links
  hold : Holdup
  saves : Saves
  rtc : Rtc
  seq : Seqr
  dev : Device
  flt : Faults
  ic : Irq
  wdt : Wdt
  sec : Sec
  tw : TwoWire
  log : NvLog
  freeCount : Nat                  -- model's own: free values drawn (log entry 7)
  outbox : List Out                -- model's own: what the block has sent, oldest first (log entry 6)
  pending : List Instr             -- commands that wait, first in, first out
deriving DecidableEq, Repr

/-- The device right after reset: POWERUP, nothing written, nothing waiting. -/
def State.reset : State :=
  { beat := BeatUnit.reset, phases := Vector.replicate 160 Phase.reset, chans := Vector.replicate 160 Chan.reset
    groups := Vector.replicate 10 Group.reset, lane := Lane.reset, gov := Governor.reset, met := Met.reset
    store := Store.reset, host := HostIf.reset, tel := Telem.reset, dom := Domain.reset, links := Links.reset, hold := Holdup.reset, saves := Saves.reset
    rtc := Rtc.reset, seq := Seqr.reset, dev := Device.reset, flt := Faults.reset, ic := Irq.reset, wdt := Wdt.reset
    sec := Sec.reset, tw := TwoWire.reset, log := NvLog.reset, freeCount := 0, outbox := [], pending := [] }

end Sys2Proof.Machine
end

