-- ==== Sys2Proof/Machine/Ops.lean ====
section
/-!
DEFINITION. The named operations over the state that every family shares: one phase, channel or group changed, what is
sent out, events (R284, R285), the NV log (R427, R428), interrupt pulses (R469), the calendar as seconds (R427), free
values.
-/
namespace Sys2Proof.Machine

/-! ### One element changed -/

def State.modPhase (s : State) (n : PhaseNo) (f : Phase → Phase) : State :=
  { s with phases := s.phases.set n (f s.phases[n]) }
def State.modChan (s : State) (n : ChanNo) (f : Chan → Chan) : State :=
  { s with chans := s.chans.set n (f s.chans[n]) }
def State.modGroup (s : State) (g : GroupNo) (f : Group → Group) : State :=
  { s with groups := s.groups.set g (f s.groups[g]) }
def State.modBeat (s : State) (f : BeatUnit → BeatUnit) : State := { s with beat := f s.beat }
def State.modHost (s : State) (f : HostIf → HostIf) : State := { s with host := f s.host }
def State.modHold (s : State) (f : Holdup → Holdup) : State := { s with hold := f s.hold }
def State.modRtc (s : State) (f : Rtc → Rtc) : State := { s with rtc := f s.rtc }
def State.modSeq (s : State) (f : Seqr → Seqr) : State := { s with seq := f s.seq }
def State.modDev (s : State) (f : Device → Device) : State := { s with dev := f s.dev }
def State.modFlt (s : State) (f : Faults → Faults) : State := { s with flt := f s.flt }
def State.modIc (s : State) (f : Irq → Irq) : State := { s with ic := f s.ic }
def State.modWdt (s : State) (f : Wdt → Wdt) : State := { s with wdt := f s.wdt }
def State.modSec (s : State) (f : Sec → Sec) : State := { s with sec := f s.sec }
def State.modTw (s : State) (f : TwoWire → TwoWire) : State := { s with tw := f s.tw }
def State.modMet (s : State) (f : Met → Met) : State := { s with met := f s.met }
def State.modStore (s : State) (f : Store → Store) : State := { s with store := f s.store }
def State.modTel (s : State) (f : Telem → Telem) : State := { s with tel := f s.tel }
def State.modLane (s : State) (f : Lane → Lane) : State := { s with lane := f s.lane }
def State.modGov (s : State) (f : Governor → Governor) : State := { s with gov := f s.gov }
def State.modSaves (s : State) (f : Saves → Saves) : State := { s with saves := f s.saves }

/-- Something sent out, at the end of the outbox. -/
def State.send (s : State) (o : Out) : State := { s with outbox := s.outbox ++ [o] }

/-- An operation for each of a list's elements, in its order. -/
def forEach {α : Type} (l : List α) (s : State) (f : State → α → State) : State := l.foldl f s

/-! ### Gang geometry (R5, R6, R97) -/

/-- Gang size in the running copy. -/
def State.gang (s : State) (n : PhaseNo) : Nat := gangSize s.phases[n].run.gang
/-- The channel counts as configured with its running copy: it has phases and jobs. -/
def State.isRun (s : State) (n : ChanNo) : Bool := s.gang n != 0
/-- Configured under R97: either copy of PH_GANG is not zero. -/
def State.isConf (s : State) (n : ChanNo) : Bool := s.phases[n].run.gang != 0 || s.phases[n].staged.gang != 0
/-- A phase number made an index. -/
def phaseOf (v : Nat) : PhaseNo := if h : v < 160 then ⟨v, h⟩ else ⟨0, by omega⟩
/-- The group of a phase. -/
def groupOf (n : PhaseNo) : GroupNo := ⟨n.val / 16, by omega⟩
/-- The phases of a span of `k` from a base. -/
def spanOf (n : PhaseNo) (k : Nat) : List PhaseNo :=
  (List.range k).filterMap fun i => finOf 160 (n.val + i)
/-- The phases of a channel. -/
def State.phasesOf (s : State) (n : ChanNo) : List PhaseNo := spanOf n (s.gang n)
/-- The channel that covers a phase. -/
def State.ownerOf (s : State) (p : PhaseNo) : Option ChanNo :=
  (allFin 160).find? fun n => n.val ≤ p.val && p.val < n.val + s.gang n
/-- Every channel that has phases, in ascending order. -/
def State.runChans (s : State) : List ChanNo := (allFin 160).filter s.isRun
/-- The channels of a group. -/
def State.groupChans (s : State) (g : GroupNo) : List ChanNo := s.runChans.filter fun n => groupOf n == g

/-! ### Halves of a channel (R25) -/

/-- The half that is current. -/
def Chan.cur (c : Chan) : Context := if c.curHalf then c.halves[1] else c.halves[0]
/-- The half the next job writes. -/
def Chan.nxt (c : Chan) : Context := if c.curHalf then c.halves[0] else c.halves[1]
/-- The current half replaced. -/
def Chan.setCur (c : Chan) (x : Context) : Chan :=
  { c with halves := if c.curHalf then c.halves.set 1 x else c.halves.set 0 x }
/-- Both halves changed: what happens between boundaries to the run state of a channel (R2, R82). -/
def Chan.both (c : Chan) (f : Context → Context) : Chan :=
  { c with halves := #v[f c.halves[0], f c.halves[1]] }

/-- The state of the ramp generator (R82): the start of switching that a boundary brings puts it in START, before the
first job of the run has computed an output (R201). -/
def Context.ramp (x : Context) : Ramp :=
  if x.loop.ramp = .zero ∧ x.step.base = .run ∧ x.step.mode ≠ .rest ∧ x.step.mode ≠ .off then .start else x.loop.ramp

/-- The channel state (R82, R201): latched and tripped prevail; a generator in START or STOP_RAMP reads GLIDE. -/
def Chan.state (c : Chan) : ChState :=
  if c.latched then .latched
  else if !c.trips.isEmpty || c.ctxTrip || c.ovrTrip then .tripped
  else
    let x := c.cur
    match x.step.base with
    | .off => .off
    | .chrysalis => .chrysalis
    | .hold => .hold
    | .run => if x.ramp = .start ∨ x.ramp = .stopRamp then .glide else .run

/-- Every configured channel is in OFF (R432, R503). -/
def State.allOff (s : State) : Bool := s.runChans.all fun n => s.chans[n].state == .off
/-- Every configured channel is in OFF or CHRYSALIS (R432). -/
def State.allQuiet (s : State) : Bool :=
  s.runChans.all fun n => s.chans[n].state == .off || s.chans[n].state == .chrysalis

/-! ### BAR0 (R250, R444, R447) -/

/-- BAR0 outside the registers of R444 and R447 acts: not before the self-test, in OTP_HOLD or in COCOON. -/
def State.live (s : State) : Bool :=
  match s.dev.state with
  | .powerup | .otpHold | .cocoon => false
  | _ => true
/-- What a BAR0 access that acts leaves, `t`, where BAR0 acts. -/
def State.bar (s t : State) : State := if s.live then t else s
/-- BAR0 registers other than those of R444 and R447 are read: in every state but OTP_HOLD and COCOON, where they read 0. -/
def State.reads (s : State) : Bool := s.dev.state != .otpHold && s.dev.state != .cocoon

/-! ### Calendar (R404) -/

def leapYear (y : Nat) : Bool := y % 4 == 0 && (y % 100 != 0 || y % 400 == 0)
/-- Days of a month. -/
def monthDays (y m : Nat) : Nat :=
  if m = 2 then (if leapYear y then 29 else 28) else if m = 4 ∨ m = 6 ∨ m = 9 ∨ m = 11 then 30 else 31
/-- Days from 2000-01-01 to the first day of a year. -/
def daysToYear (y : Nat) : Nat := (List.range (y - 2000)).foldl (fun d k => d + if leapYear (2000 + k) then 366 else 365) 0
/-- Seconds since 2000-01-01 00:00:00. -/
def Cal.seconds (c : Cal) : Nat :=
  let md := (List.range (c.month - 1)).foldl (fun d k => d + monthDays c.year (k + 1)) 0
  ((daysToYear c.year + md + (c.day - 1)) * 24 + c.hour) * 3600 + c.min * 60 + c.sec
/-- The time of a log record: seconds, or 0 while TIME_VALID is 0 (R427). -/
def State.logTime (s : State) : Word := if s.rtc.valid then BitVec.ofNat 32 s.rtc.now.seconds else 0

/-! ### Events and log -/

/-- The beat an event or a raise carries: all ones when no beat counts (R427, R459). -/
def State.beatOrOnes (s : State) : Beat := if s.beat.running then s.beat.number else BitVec.allOnes 64

/-- Raises an event (R284): the next SEQ, kept until the boundary that closes its beat (R285). -/
def State.event (s : State) (kind : Kind) (subject typ : Nat) (data : List Byte) : State :=
  let q := s.host.evtSeq + 1
  { s with host := { s.host with evtSeq := q
                                 openEvents := s.host.openEvents ++
                                   [{ beat := s.beat.number, kind := kind, subject := subject, typ := typ, seq := q,
                                      data := padTo 12 data }] } }

/-- An event of KIND DEVICE. -/
def State.devEvent (s : State) (typ : Nat) (data : List Byte) : State := s.event .device 0 typ data

/-- A byte of a number. -/
def byte (v : Nat) : Byte := BitVec.ofNat 8 v

/-- Writes a record to the NV log (R427, R428): the sector is cleared first when the position enters one. -/
def NvLog.append (l : NvLog) (time : Word) (beat : BitVec 64) (source code flags : Nat) (data : List Byte) : NvLog :=
  let kept := if l.pos % 128 = 0 then l.recs.filter fun r => decide (r.slot / 128 ≠ l.pos / 128) else l.recs
  { recs := kept ++ [{ slot := l.pos, seq := l.nextSeq, time := time, beat := beat, source := source, code := code,
                       flags := flags, data := padTo 8 data }]
    pos := (l.pos + 1) % 2048
    nextSeq := l.nextSeq + 1 }

/-- A log record of now (R427). -/
def State.logRec (s : State) (source code : Nat) (data : List Byte) : State :=
  { s with log := s.log.append s.logTime s.beatOrOnes source code (if s.rtc.valid then 1 else 0) data }

/-! ### Interrupt pulses (R469) -/

/-- A one-cycle pulse on a source: an edge source becomes pending, a LEVEL source is left as it was. -/
def IrqSrc.pulse (x : IrqSrc) : IrqSrc := if x.sense = 0 then x else { x with pending := true }

/-- Fires a shared source (R475). -/
def State.irq (s : State) (k : Fin 64) : State :=
  { s with ic := { s.ic with src := s.ic.src.set k (s.ic.src[k]).pulse } }

/-- Fires private source 64 + m of a target (R476). -/
def State.irqPriv (s : State) (t : Fin 3) (m : Fin 16) : State :=
  { s with ic := { s.ic with bank := s.ic.bank.set t ((s.ic.bank[t]).set m ((s.ic.bank[t])[m]).pulse) } }

/-- The device state changes: GLB_STATE and private source 64 of T2 (R476). -/
def State.goState (s : State) (d : DevState) : State :=
  if s.dev.state = d then s else ({ s with dev := { s.dev with state := d } }).irqPriv 2 0

/-! ### Fields of the configuration used by several blocks -/

/-- OTP word (R486): a logical bit reads 1 when either copy does. -/
def State.otpWord (s : State) (i : Nat) : Word := if h : i < 512 then s.sec.otpA[i] ||| s.sec.otpB[i] else 0
/-- A region counts as finalised (R488). -/
def State.finalised (s : State) (r : Nat) : Bool := fld (s.otpWord 511) (2 * r) 2 != 0
/-- WDT_HWSTART and the WINGBEAT default mode act only once OWNER is finalised (R489). -/
def State.hwStart (s : State) : Bool := s.finalised 3 && bit (s.otpWord 288) 0
def State.wbFuse (s : State) : Bool := s.finalised 3 && bit (s.otpWord 288) 1

/-- A bank takes a state: interrupt source 35 on every change (R507, R517). -/
def State.setBank (s : State) (i : Fin 2) (b : Bank) : State :=
  let was := s.sec.banks[i].state
  let s := s.modSec fun c => { c with banks := c.banks.set i b }
  if was = b.state then s else s.irq 35

/-- A trial ends with its bank FAILED; the next start falls back (R510). -/
def State.trialFailed (s : State) (cause : Nat) : State :=
  (s.setBank s.sec.running { s.sec.banks[s.sec.running] with state := .failed }).modSec fun c => { c with fallDue := cause }

/-- The next beat boundary's due beat of a write in cycle `cyc` of the present beat (R24): a write before cycle 490
meets the next boundary, a later one the boundary after it. -/
def State.dueAt (s : State) (cyc : Nat) : Beat := if cyc < 490 then s.beat.number + 1 else s.beat.number + 2

/-! ### Events of the always-on domain -/

/-- The core runs and can post events. -/
def State.coreUp (s : State) : Bool := s.dev.state != .powerup && s.dev.state != .otpHold && !s.dev.boardDown

/-- A device event of the always-on domain: posted while the core runs. -/
def State.aonEvent (s : State) (typ : Nat) (data : List Byte) : State := if s.coreUp then s.devEvent typ data else s

end Sys2Proof.Machine
end

