-- ==== Sys2Proof/Machine/ChanOps.lean ====
section
/-!
DEFINITION. Operations on phases and channels that several families share: gates with the interlock of R59, interruption
(R203), trips (R30, R82, R122, R201), stops asked for (R81), forgetting a cell (R214).
-/
namespace Sys2Proof.Machine

/-! ### Gates (R59) -/

/-- The output stage: GH and GL are never high together; a command for both drives both low (R59). -/
def Phase.setGates (p : Phase) (gh gl : Bool) : Phase := { p with gh := gh && !gl, gl := gl && !gh }

/-- Both gates low and every switching timer of the phase ended (R66, R90) but the minimum off time, which a fall of GH
starts (R69). -/
def Phase.gatesLow (p : Phase) : Phase :=
  { p.setGates false false with dead := .none, minOn := false, minOff := p.minOff || p.gh, upperPending := false,
                                riseReady := false, slotDue := false, stopping := false, switching := false }

/-- Gates low on a list of phases. -/
def State.lowAll (s : State) (ps : List PhaseNo) : State := forEach ps s fun s p => s.modPhase p Phase.gatesLow

/-! ### Calibration state of a channel (R147) -/

/-- The calibration state of a kind (R147), as GRP_MSTAT codes it; FROZEN after more than a full rotation of 17 slots
without rotation for lack of a spare or by ROT. -/
def Group.calState (g : Group) (voltage : Bool) : Nat :=
  if 17 < (if voltage then g.frozenV else g.frozenI) then 3 else if voltage then g.stateV else g.stateI
/-- An accepted set of reference coefficients applies (R146). -/
def Group.applyRef (g : Group) : Group :=
  match g.refPending with
  | some (vg, vo, vl, ig, io) =>
      { g with refvGain := vg, refvOfs := vo, refvLin := vl, refiGain := ig, refiOfs := io, refPending := none }
  | none => g
/-- Seconds since a time of the RTC; none while the time is not known (R144). -/
def State.ageSecs (s : State) (t : Word) : Option Nat :=
  if s.rtc.valid then some (s.rtc.now.seconds - t.toNat) else none
/-- The last accepted transfer of a kind is 30 days old or more, or its age unknown (R147). -/
def State.transferOld (s : State) (g : GroupNo) (voltage : Bool) : Bool :=
  let x := s.groups[g]
  match s.ageSecs (if voltage then x.xferTimeV else x.xferTimeI) with
  | some d => decide (30 * 86400 ≤ d)
  | none => true
/-- The state of a kind by the age of its stored transfer (R147): old, TRANSFER_AGED; young again after a full rotation,
TRANSFERRED. -/
def Group.aged (g : Group) (voltage old : Bool) : Group :=
  let next := fun (stored : Bool) (rot state : Nat) =>
    if !stored then state else if old then 2 else if state = 2 ∧ rot = 17 then 1 else state
  if voltage then { g with stateV := next g.xferV.isSome g.rotV g.stateV }
  else { g with stateI := next g.xferI.isSome g.rotI g.stateI }
/-- Both kinds of every group, where the time of the RTC becomes known, unknown or another (R147). -/
def State.calAges (s : State) : State :=
  forEach (allFin 10) s fun s g => forEach [false, true] s fun s v => s.modGroup g fun x => x.aged v (s.transferOld g v)
/-- A kind of a group is TRANSFERRED (R147). -/
def Group.transferred (g : Group) (voltage : Bool) : Bool := g.calState voltage == 1
/-- Every position of a channel is TRANSFERRED in both kinds. -/
def State.calTransferred (s : State) (n : ChanNo) : Bool :=
  let g := s.groups[groupOf n]
  g.transferred false && g.transferred true

/-! ### Interruption (R203) -/

/-- A recipe of the store by its number (R175). -/
def State.recipeNo (s : State) (k : Nat) : Option Recipe := s.store.recipes.find? fun r => r.number == k
/-- The recipe that runs on a channel. -/
def State.recipeOf (s : State) (n : ChanNo) : Option Recipe :=
  if s.chans[n].cur.step.running then s.recipeNo s.chans[n].cur.step.recipe else none

/-- The step state after an interruption (R203): CH_STEP_END gives the step as its own target. -/
def interruptStep (st : StepState) (reason : Reason) (crc : Word) : StepState :=
  if st.running then
    { st with running := false, mode := .rest, after := .none, cvReached := false
              endStep := st.step, endNext := st.step, endCause := .interrupted
              intr := some { recipe := st.recipe, step := st.step, reason := reason, crc := crc, stack := st.stack } }
  else st

/-- Something the estimator takes note of in the present milli period. -/
def Chan.note (c : Chan) (e : EstEv) : Chan := { c with ep := { c.ep with evs := c.ep.evs ++ [e] } }

/-- The end of the step in force by an interruption, as the estimator takes it (R213); `lane` says that a lane target was in
force in a beat not yet counted. -/
def interruptedEnd (c : Chan) (r : StepRec) (reason : Reason) (now : Beat) (lane : Bool) : StepEnd :=
  let st := c.cur.step
  { recipe := st.recipe, step := st.step, typ := r.typ, set1 := r.set1, cause := .interrupted, termKind := 0
    cvReached := st.cvReached, resumed := st.resumed, lane := c.ep.stepLane || lane, reason := reason.code
    charge := divZero c.cur.cnt.stepQ 4294967296, energy := divZero c.cur.cnt.stepE 4294967296, endBeat := now
    beats := st.beats }

/-- The interruption of the recipe that runs on a channel, with its events (R203, R287 types 1 and 3); `last` is the last
beat of the step. -/
def State.interrupt (s : State) (n : ChanNo) (reason : Reason) (notStarted : Bool) (last : Beat) : State :=
  let c := s.chans[n]
  let st := c.cur.step
  if st.running then
    let r := s.recipeNo st.recipe
    let crc := match r with | some r => r.crc | none => 0
    let notify := match r with | some r => (r.stepAt st.step).flags / 2 % 2 == 1 | none => false
    let c := c.both fun x => { x with step := interruptStep { x.step with running := st.running, step := st.step
                                                                          recipe := st.recipe, stack := st.stack }
                                        reason crc }
    let c := match if notStarted then none else r with
      | some r => c.note (.stepEnd (interruptedEnd s.chans[n] (r.stepAt st.step) reason last
                              (last == s.beat.number && s.chans[n].cur.loop.lane.isSome))
                            c.detLapsed c.sliceSubst (!s.calTransferred n))
      | none => c
    let c := (c.note (.intr reason.code))
    let s := s.modChan n fun _ => c
    let s := s.event .channel n 3 [byte st.recipe, byte st.step, byte reason.code]
    if notify then (s.event .channel n 1 [byte st.recipe, byte st.step, 1, 8, byte st.step]).irq 43 else s
  else s

/-! ### Trips -/

/-- What a trip or latch does to the run state of a channel at once (R82): reference 0, no ramp, an open lane
transition abandoned (R114). -/
def Chan.tripRun (c : Chan) (n : ChanNo) : Chan :=
  let cur := c.cur
  let cur := { cur with acks := cur.acks ++ abandonAcks n cur.loop }
  let c := c.setCur cur
  { (c.both fun x => { x with loop := loopTrip x.loop
                              step := { x.step with base := if x.step.base = .off then .off else .run
                                                    mode := .rest, after := .none, forced := false } }) with
      tripNow := true
      requests := c.requests.filter fun r => match r.req with | .stop .. => r.cmd.isSome | _ => true }

/-- A trip of a channel for a cause (R201): gates low, recipe interrupted with reason TRIP, the cause kept. A channel in
OFF or not configured is not changed (R170, R452). -/
def State.trip (s : State) (n : ChanNo) (cause : TripCause) : State :=
  if !s.isRun n || s.chans[n].state == .off then s
  else
    let s := s.lowAll (s.phasesOf n)
    let s := s.interrupt n .trip false s.beat.number
    s.modChan n fun c =>
      { c.tripRun n with trips := if c.trips.contains cause then c.trips else c.trips ++ [cause] }

/-! ### Stops -/

/-- A request queued for the first boundary from `due` on (R24). -/
def State.request (s : State) (n : ChanNo) (r : Request) (due : Beat) (cmd : Option Nat) : State :=
  s.modChan n fun c => { c with requests := c.requests ++ [{ req := r, due := due, cmd := cmd }] }

/-- FORGET is pending until the first milli boundary from `due` on (R24, R214); one that waits already stays. -/
def State.forget (s : State) (n : ChanNo) (due : Beat) : State :=
  let put := fun (e : Est) => { e with forget := some (e.forget.getD due) }
  s.modChan n fun c => { c with estCur := put c.estCur, estNext := put c.estNext }

end Sys2Proof.Machine
end

