-- ==== Sys2Proof/Machine/Budget.lean ====
section
/-!
DEFINITION. Admission (R33 to R40 of spec/01_beat_and_engines.md): reserved costs, uses, floors, the limit, budget
writes and cuts.
-/
namespace Sys2Proof.Machine

/-- The figures of a step state on a channel: beat job, tenth-beat job, milli job (R33, R34). -/
def figures (r : Option Recipe) (st : StepState) (gang : Nat) (mode : Mode) : Nat × Nat × Nat :=
  match st.base with
  | .off => (0, 0, 0)
  | .chrysalis => (4, 20, 100)
  | .hold => (12, 20, 400)
  | .run =>
      match r, st.running with
      | some r, true =>
          let t := (r.stepAt st.step).typ
          let (b, m) := stepCost t
          (b, tenthCost gang (modeOfType t false != .rest), m)
      | _, _ =>
          let (b, m) := modeCost mode
          (b, tenthCost gang (mode != .rest && mode != .off), m)

/-- The milli figure of a channel whose milli job of this period evaluates a grade (R33): 1,800 where that is the larger. -/
def Chan.gradeCost (c : Chan) (m : Nat) : Nat :=
  if c.epFrozen.evs.any fun e => match e with | .grade .. => true | _ => false then max m 1800 else m

/-- The figures of a channel's present step, state and gang size (R36). -/
def State.figuresOf (s : State) (n : ChanNo) : Nat × Nat × Nat :=
  let c := s.chans[n]
  match c.state with
  | .off => (0, 0, 0)
  | .tripped | .latched => (10, 20, c.gradeCost 400)
  | _ =>
      let (b, t, m) := figures (s.recipeOf n) c.cur.step (s.gang n) c.cur.step.mode
      (b, t, c.gradeCost m)

/-- The reserved cost r (R36). -/
def State.reserve (s : State) (n : ChanNo) : Nat :=
  let (b, t, m) := s.figuresOf n
  reserveOf b t m

/-- U_g (R38). -/
def State.groupUse (s : State) (g : GroupNo) : Nat := (s.groupChans g).foldl (fun u n => u + s.reserve n) 0
/-- F_g (R38). -/
def State.groupFloor (s : State) (g : GroupNo) : Nat := 18 * (s.groupChans g).length
/-- LOAD of BEAT_ADM. -/
def State.totalUse (s : State) : Nat := (allFin 10).foldl (fun u g => u + s.groupUse g) 0

/-- Engines in service. -/
def BeatUnit.engines (b : BeatUnit) : List EngineNo := (allFin 18).filter fun e => b.engMap.getLsbD e.val
/-- The admission limit (R37). -/
def BeatUnit.limit (b : BeatUnit) : Nat := 500 * (b.engines.length - 1)

/-- What R38 answers to a budget write at its boundary. -/
def State.budgetResult (s : State) (g : GroupNo) (v : Nat) : BudgetResult :=
  if v < s.groupFloor g then .belowFloor
  else if v ≤ s.beat.budgets[g] then .ok
  else
    let sum := (allFin 10).foldl (fun a h =>
      a + max (if h = g then v else s.beat.budgets[h]) (s.groupUse h)) 0
    if sum ≤ s.beat.limit then .ok else .overLimit

/-- One budget write at its boundary (R38). -/
def State.budgetWrite (s : State) (w : BudgetWrite) : State :=
  let r := s.budgetResult w.group w.value
  s.modBeat fun b => { b with statGroup := w.group.val, statResult := r
                              budgets := if r = .ok then b.budgets.set w.group w.value else b.budgets }

/-- The budget writes that meet a boundary, in ascending group number; while a later write waits on, RESULT reads PENDING
(R38). -/
def State.budgetWrites (s : State) (opens : Beat) : State :=
  let due := fun (g : GroupNo) => s.beat.writes.find? fun w => w.group == g && decide (w.due ≤ opens)
  let s' := forEach ((allFin 10).filterMap due) s State.budgetWrite
  let wait := s.beat.writes.filter fun w => !decide (w.due ≤ opens)
  s'.modBeat fun b =>
    { b with writes := wait
             statGroup := match wait.getLast? with | some w => w.group.val | none => b.statGroup
             statResult := if wait.isEmpty then b.statResult else .pending }

/-- The cut of R40 when the limit has fallen below the sum of the budgets. -/
def State.limitCut (s : State) : State :=
  let sum := (allFin 10).foldl (fun a g => a + s.beat.budgets[g]) 0
  let lim := s.beat.limit
  if lim < sum then
    s.modBeat fun b => { b with limitCut := true
                                budgets := Vector.ofFn fun g => max (b.budgets[g] * lim / sum) (s.groupFloor g) }
  else s

/-- The test of R39 on a channel that has a new step in force: refused when the step costs more than REST and the
group's use exceeds its budget. -/
def State.stepFits (s : State) (n : ChanNo) : Bool :=
  decide (s.reserve n ≤ 18) || decide (s.groupUse (groupOf n) ≤ s.beat.budgets[groupOf n])

end Sys2Proof.Machine
end

