-- ==== Sys2Proof/Machine/SecBase.lean ====
section
/-!
DEFINITION. What the rest of the device asks of the security block (spec/16_security_update.md): the counter and its burns
(R486, R512), the channels that a tray holds in OFF (R495, R499).
-/
namespace Sys2Proof.Machine

/-- Set bits of a word. -/
def ones (w : Word) : Nat := (List.range 32).foldl (fun n i => if bit w i then n + 1 else n) 0
/-- The words 320 to 327 of the counter. -/
def State.svnWords (s : State) : List Word := (List.range 8).map fun i => s.otpWord (320 + i)
/-- The security version counter (R486). -/
def State.svn (s : State) : Nat := s.svnWords.foldl (fun n w => n + ones w) 0
def State.ownerLock (s : State) : Bool := bit (s.otpWord 328) 0
def State.debugLock (s : State) : Bool := bit (s.otpWord 328) 1

/-- Bits burnt into a word, each bit into both copies but those that fail to program. -/
def State.burnWord (s : State) (w : Nat) (d failA failB : Word) : State :=
  let old := s.otpWord w
  let new := d &&& ~~~old
  if h : w < 512 then
    s.modSec fun c => { c with otpA := c.otpA.set w (c.otpA[w] ||| (new &&& ~~~failA))
                               otpB := c.otpB.set w (c.otpB[w] ||| (new &&& ~~~failB)) }
  else s

/-- The counter is raised to a value (R509, R512): its lowest bits still 0 are burnt. -/
def State.svnRaise (s : State) (v : Nat) : State :=
  (List.range 256).foldl (fun s i =>
    let w := 320 + i / 32
    if s.svn < v ∧ bit (s.otpWord w) (i % 32) = false then s.burnWord w (1#32 <<< (i % 32)) 0 0 else s) s

/-- The counter is raised at the first instant in READY after a confirmation (R512). -/
def State.svnReady (s : State) : State :=
  match s.sec.raiseSvn with
  | some v => if s.dev.state = .ready then (s.svnRaise v).modSec fun c => { c with raiseSvn := none } else s
  | none => s

def State.modTray (s : State) (t : Fin 4) (f : Tray → Tray) : State :=
  s.modSec fun c => { c with trays := c.trays.set t (f c.trays[t]) }
/-- The channel is mapped to the tray (R495). -/
def Tray.maps (t : Tray) (n : ChanNo) : Bool := bit ((t.map.toList).getD (n.val / 32) 0) (n.val % 32)
/-- The channel may not leave OFF (R499). -/
def State.trayHolds (s : State) (n : ChanNo) : Bool :=
  (allFin 4).any fun t => bit s.sec.trayCfg t.val && s.sec.trays[t].maps n && s.sec.trays[t].state != .authenticated

end Sys2Proof.Machine
end

