-- ==== Sys2Proof/Machine/Settle.lean ====
section
/-!
DEFINITION. What follows every command at once: the level inputs of the interrupt controller, what T2 can be delivered,
IRQ_N and MSI-X vector 0 (R469 to R473 of spec/15_faults_interrupts_watchdog.md, R288 of spec/08_host_rings.md).
-/
namespace Sys2Proof.Machine

/-- Sends an MSI-X vector, or keeps it pending while it is masked or no request may be made (R288, R290). -/
def State.vector (s : State) (v : Nat) : State :=
  if !s.host.msixEn then s
  else if s.host.msixMaskAll || s.host.msixMask.getLsbD v || !s.host.bme then
    s.modHost fun h => { h with msixPend := h.msixPend ||| (1#32 <<< v) }
  else s.send (.msix v)

/-- The level inputs of the shared sources (R475): none for a source that only pulses. -/
def State.levelInput (s : State) (k : Nat) : Option Bool :=
  if k = 15 then some (s.links.port[0].evt != 0)
  else if k = 16 then some (s.links.port[1].evt != 0)
  else if k = 17 then some (s.lane.ovf || s.lane.crcSeen || s.lane.frameSeen)
  else if k = 18 then some (s.tel.streams.toList.any fun t => t.full || t.stall)
  else if k = 19 then some (s.host.fetchErr || s.host.dbErr || s.host.cfgErr)
  else if k = 20 then some (!s.host.heldEvents.isEmpty)
  else if k = 25 then some (s.hold.missing || s.hold.shortSeen || s.hold.timerExp || s.hold.ntcFault)
  else if k = 27 then some s.rtc.almA
  else if k = 28 then some s.rtc.almB
  else if 29 ≤ k ∧ k ≤ 34 then some ((s.tw.bus.toList.drop (k - 29)).head?.any fun b => b.stat &&& 0x1FF#32 != 0)
  else if k = 46 then some s.host.linkUp
  else if 56 ≤ k then some (s.ic.soft.getLsbD (k - 56))
  else none

/-- A source with a new level of its input (R469, R472). A LEVEL source is pending while its input is asserted, but a
claimed one only after its input has fallen and risen, or its completion. -/
def IrqSrc.level (x : IrqSrc) (i : Bool) : IrqSrc :=
  let rose := i && !x.input
  let fell := !i && x.input
  let p := match x.sense.toNat with
    | 0 => if !i then false else x.pending || rose || !x.active
    | 1 => x.pending || rose
    | 2 => x.pending || fell
    | _ => x.pending || rose || fell
  { x with input := i, pending := p }

/-- The sources of a target: the shared ones routed to it by number, then its private bank from 64 on (R468). -/
def Irq.sources (c : Irq) (t : Fin 3) : List (Nat × IrqSrc) :=
  (((List.range 64).zip c.src.toList).filter fun (_, x) => x.target.toNat == t.val) ++
    ((List.range 16).map fun i => 64 + i).zip c.bank[t].toList

/-- The running priority of a target (R470). -/
def Irq.running (c : Irq) (t : Fin 3) : Nat :=
  (c.sources t).foldl (fun m (_, x) => if x.active then max m x.prio.toNat else m) 0

/-- The deliverable source of a target with the highest PRIO, the lower number on a tie (R470, R471). -/
def Irq.best (c : Irq) (t : Fin 3) : Option (Nat × Nat) :=
  let lim := max (c.thresh[t]).toNat (c.running t)
  (c.sources t).foldl (fun m (k, x) =>
    if x.pending && decide (lim < x.prio.toNat) then
      (match m with
       | some (_, p) => if p < x.prio.toNat then some (k, x.prio.toNat) else m
       | none => some (k, x.prio.toNat))
    else m) none

/-- A shared source with the present level of its input, where it has one. -/
def State.settledSrc (s : State) (k : Fin 64) : IrqSrc :=
  match s.levelInput k.val with
  | some i => (s.ic.src[k]).level i
  | none => s.ic.src[k]

/-- New levels of every input that has one. -/
def State.settleInputs (s : State) : State :=
  { s with ic := { s.ic with src := Vector.ofFn s.settledSrc } }

/-- IRQ_N, WAKE_N (R247) and vector 0 after the inputs have settled (R473); IRQ_N is held low in COCOON (R446). Vector 0 is
pending no longer once nothing can be delivered (R288). -/
def State.settleT2 (s : State) : State :=
  let d := (s.ic.best 2).isSome
  let was := s.ic.delivered
  let pend := if d then s.host.msixPend else s.host.msixPend &&& ~~~1#32
  let s := { s with ic := { s.ic with delivered := d, irqN := !(d || s.dev.state == .cocoon) }
                    host := { s.host with wakeN := !(s.host.d3 && s.host.pmeEn && d), msixPend := pend } }
  if d && !was then s.vector 0 else s

/-- The latency that the function reports: 100 µs while any telemetry stream runs, 10 ms otherwise (R247). -/
def State.ltrUs (s : State) : Nat := if s.tel.streams.toList.any fun x => x.run.isSome then 100 else 10000
/-- A new latency is reported while LTR is enabled (R247). -/
def State.settleLtr (s : State) : State :=
  if s.host.linkUp && s.host.pci.ltrEn && s.host.ltrSent != s.ltrUs then
    ({ s with host := { s.host with ltrSent := s.ltrUs } }).send (.ltr s.ltrUs)
  else s

/-- The settled state after a command; a counter raise that awaits READY takes place first (R512). -/
def settle (s : State) : State := s.svnReady.settleInputs.settleT2.settleLtr

/-- The outcome of a command: its effect, settled. -/
def done (s : State) : Host.Outcome State Fault Refusal := .next (settle s)

end Sys2Proof.Machine
end

