-- ==== Sys2Proof/Machine/Gates.lean ====
section
/-!
DEFINITION. The gates of a phase between two boundaries (R63 to R70, R77 of spec/02_phase_control.md) and its
over-current latch (R90 to R95). `tick` is the time of an edge in 2.5 ns ticks from the boundary that opened the
present tenth period.
-/
namespace Sys2Proof.Machine

/-! ### What a phase reads of its channel -/

/-- The channel of a phase is in low-cell mode (R67). -/
def State.phaseLowcell (s : State) (p : PhaseNo) : Bool :=
  match s.ownerOf p with | some n => s.chans[n].cur.loop.lowcell | none => false

/-- The active phases of a channel by the output in force (R76), as phase numbers in ascending order. -/
def State.activePhases (s : State) (n : ChanNo) : List PhaseNo :=
  (s.phasesOf n).filter fun p => !s.phases[p].latched && !getB s.chans[n].cur.loop.tucked (p.val - n.val)

/-- The lock phase (R71). -/
def State.lockPhase (s : State) (n : ChanNo) : Option PhaseNo := (s.activePhases n).head?

/-- The phase of slot position 0 (R77): the lowest one enabled at the last boundary. The positions stand until the next
boundary, also where a phase latches between two (R78). -/
def State.slotLock (s : State) (n : ChanNo) : Option PhaseNo := (s.phasesOf n).find? fun p => s.phases[p].enabled

/-- The phase waits for its slot (R77, R78): it holds a position other than 0, and the phase of position 0 has measured a
period. -/
def State.interleaved (s : State) (p : PhaseNo) : Bool :=
  s.phases[p].slot != 0 &&
    (match (s.ownerOf p).bind s.slotLock with | some l => s.phases[l].period != 0 | none => false)

/-! ### Edges -/

/-- GH rises (R63): the edge is counted (R70), the minimum on time runs (R69), the period is measured (R77). -/
def Phase.rise (p : Phase) (tick : Nat) : Phase :=
  { p.setGates true false with
    dead := .none, riseReady := false, slotDue := false, minOn := true, upperPending := false
    swcnt := p.swcnt + 1, life := { p.life with swCycles := p.life.swCycles + 1 }, edgesNow := satInc 0xFF p.edgesNow
    firstEdge := if p.edgesNow = 0 then tick else p.firstEdge, lastEdge := tick
    period := match p.riseAt with | some r => ((tick : Int) - r).toNat | none => p.period
    riseAt := some tick }

/-- GH of a phase rises; a rise of the lock phase sets the slot instants of the channel's other phases anew (R77). -/
def State.rise (s : State) (p : PhaseNo) (tick : Nat) : State :=
  let s := s.modPhase p fun x => x.rise tick
  match s.ownerOf p with
  | some n =>
      if s.slotLock n = some p then
        forEach ((s.phasesOf n).filter fun q => q != p) s fun s q => s.modPhase q fun x => { x with slotDue := false }
      else s
  | none => s

/-- GH rises once the dead time, the slot and the minimum off time allow it; an interval that only the minimum off time still
extends is marked (R69). -/
def State.tryRise (s : State) (p : PhaseNo) (tick : Nat) : State :=
  let x := s.phases[p]
  if x.switching && x.riseReady && (x.slotDue || !s.interleaved p) then
    (if x.minOff then s.modPhase p fun x => { x with minTimeNow := true } else s.rise p tick)
  else s

/-- The high-side interval ends (R63): GH falls; GL rises after DT_HL, never in low-cell mode (R67); a stop ends
switching here (R66). -/
def Phase.endHigh (p : Phase) (lowcell : Bool) : Phase :=
  if p.stopping then p.gatesLow
  else
    let p := { p.setGates false false with minOn := false, upperPending := false, minOff := true }
    if lowcell then { p with dead := .none }
    else if fld p.run.cfg 0 6 = 0 then p.setGates false true
    else { p with dead := .hl }

/-- The upper band edge is crossed (R63, R66, R69). -/
def State.upperEdge (s : State) (p : PhaseNo) : State :=
  let x := s.phases[p]
  if !x.switching then s
  else if x.gh then
    (if x.minOn then s.modPhase p fun x => { x with upperPending := true, minTimeNow := true }
     else s.modPhase p fun x => x.endHigh (s.phaseLowcell p))
  else if x.stopping then s.modPhase p Phase.gatesLow
  else s

/-- The lower band edge is crossed (R63): GL falls and GH rises after DT_LH. -/
def State.lowerEdge (s : State) (p : PhaseNo) (tick : Nat) : State :=
  let x := s.phases[p]
  if !x.switching || x.gh || x.riseReady || x.dead == .lh then s
  else
    let s := s.modPhase p fun x => x.setGates false false
    if fld x.run.cfg 8 6 = 0 then (s.modPhase p fun x => { x with dead := .none, riseReady := true }).tryRise p tick
    else s.modPhase p fun x => { x with dead := .lh }

/-- A dead time ends (R68). -/
def State.deadEnd (s : State) (p : PhaseNo) (tick : Nat) : State :=
  match s.phases[p].dead with
  | .none => s
  | .hl => s.modPhase p fun x => { x.setGates false (!s.phaseLowcell p) with dead := .none }
  | .lh => (s.modPhase p fun x => { x with dead := .none, riseReady := true }).tryRise p tick

/-- The minimum on time ends (R69): a crossing that waited is acted on. -/
def State.minOnEnd (s : State) (p : PhaseNo) : State :=
  let x := s.phases[p]
  let s := s.modPhase p fun x => { x with minOn := false }
  if x.minOn && x.upperPending && x.gh then s.modPhase p fun x => x.endHigh (s.phaseLowcell p) else s

/-- The minimum off time ends (R69). -/
def State.minOffEnd (s : State) (p : PhaseNo) (tick : Nat) : State :=
  (s.modPhase p fun x => { x with minOff := false }).tryRise p tick

/-- The slot instant arrives (R77). -/
def State.slotInstant (s : State) (p : PhaseNo) (tick : Nat) : State :=
  if s.phases[p].switching then (s.modPhase p fun x => { x with slotDue := true }).tryRise p tick else s

/-- The slot delay reaches its cap (R77): the phase turns on and counts a slip. -/
def State.slotCap (s : State) (p : PhaseNo) (tick : Nat) : State :=
  let x := s.phases[p]
  if x.switching && !x.gh && !x.slotDue && (x.riseReady || x.dead == .lh) && x.slot != 0 then
    (s.modPhase p fun x => { x with slotDue := true, slips := x.slips + 1 }).tryRise p tick
  else s

/-- The time of R66 has ended without an upper-edge crossing. -/
def State.stopTimeout (s : State) (p : PhaseNo) : State :=
  if s.phases[p].stopping then s.modPhase p Phase.gatesLow else s

/-- UPPER_EDGE_CROSSING (R63). -/
def execUpperEdgeCrossing (n : PhaseNo) (tick : Nat) (s : State) : Host.Outcome State Fault Refusal :=
  let _ := tick
  done (s.upperEdge n)
/-- LOWER_EDGE_CROSSING (R63). -/
def execLowerEdgeCrossing (n : PhaseNo) (tick : Nat) (s : State) : Host.Outcome State Fault Refusal :=
  done (s.lowerEdge n tick)
/-- DEAD_TIME_END (R68). -/
def execDeadTimeEnd (n : PhaseNo) (tick : Nat) (s : State) : Host.Outcome State Fault Refusal := done (s.deadEnd n tick)
/-- MIN_ON_TIME_END (R69). -/
def execMinOnTimeEnd (n : PhaseNo) (tick : Nat) (s : State) : Host.Outcome State Fault Refusal :=
  let _ := tick
  done (s.minOnEnd n)
/-- MIN_OFF_TIME_END (R69). -/
def execMinOffTimeEnd (n : PhaseNo) (tick : Nat) (s : State) : Host.Outcome State Fault Refusal := done (s.minOffEnd n tick)
/-- INTERLEAVE_SLOT (R77). -/
def execInterleaveSlot (n : PhaseNo) (tick : Nat) (s : State) : Host.Outcome State Fault Refusal := done (s.slotInstant n tick)
/-- SLOT_DELAY_CAP (R77). -/
def execSlotDelayCap (n : PhaseNo) (tick : Nat) (s : State) : Host.Outcome State Fault Refusal := done (s.slotCap n tick)
/-- PHASE_STOP_TIMEOUT (R66). -/
def execPhaseStopTimeout (n : PhaseNo) (s : State) : Host.Outcome State Fault Refusal := done (s.stopTimeout n)

/-! ### Over-current latch (R90 to R95) -/

/-- One phase latches: both gates low, out of the active set. -/
def Phase.latch (p : Phase) (channel hi lo : Bool) : Phase :=
  { p.gatesLow with latched := true, latchScope := channel, latchNow := true, rejoin := none
                    ocHi := p.ocHi || hi, ocLo := p.ocLo || lo, clrRefused := p.clrRefused || p.clearedNow }

/-- A latch in the beat in which CH_CLR was accepted prevails over the clear (R94, R169): the phases it cleared stay latched
and CLR_REFUSED is set in them and in the base phase. -/
def State.clearLost (s : State) (n : ChanNo) : State :=
  if !s.chans[n].clearNow then s
  else
    let s := s.modPhase n fun x => { x with clrRefused := true }
    let s := s.modChan n fun c => { c with clearNow := false }
    forEach ((s.phasesOf n).filter fun p => s.phases[p].clearedNow && s.phases[p].rejoin.isNone) s fun s p =>
      s.modPhase p fun x => { x with latched := true, latchScope := true, clrRefused := true }

/-- The channel goes to LATCHED (R90, R201): every gate low, the recipe interrupted with reason TRIP. A channel in OFF
keeps its state (R166). -/
def State.latchChannel (s : State) (n : ChanNo) : State :=
  if !s.isRun n || s.chans[n].state == .off then s
  else
    let s := s.clearLost n
    let s := s.lowAll (s.phasesOf n)
    let s := s.interrupt n .trip false s.beat.number
    s.modChan n fun c => { c.tripRun n with latched := true, releaseDue := none }

/-- What the latch of phase `k` of the gang does to a shed or re-add that runs (R88, R89): a shed is aborted, a re-adding
phase leaves, the other re-adding phases go on. -/
def LoopState.latchTuck (l : LoopState) (k : Nat) : LoopState :=
  match l.tuck with
  | .steady => l
  | .readd1 =>
      let half := (List.range l.half.length).map fun i => getB l.half i && i != k
      if half.any id then { l with half := half } else tuckSteady l
  | _ => tuckSteady l

/-- The part in force of the band lock changed, between two tenth boundaries. -/
def Chan.setBand (c : Chan) (f : BandState → BandState) : Chan :=
  { c with tenth := if c.tenthCur then c.tenth.set 1 (f c.tenth[1]) else c.tenth.set 0 (f c.tenth[0]) }

/-- The over-current latch of a phase with the edge crossed (R90, R91). -/
def State.overCurrent (s : State) (p : PhaseNo) (high : Bool) : State :=
  let s := if s.phases[p].latched then s else s.event .phase p.val 5 [if high then 0 else 1]
  match s.ownerOf p with
  | some n =>
      if bit s.phases[p].run.cfg 16 then
        let s := s.modPhase p fun x => x.latch true high (!high)
        let s := forEach ((s.phasesOf n).filter fun q => q != p) s fun s q => s.modPhase q fun x => x.latch true false false
        s.latchChannel n
      else
        let lock := s.lockPhase n == some p
        let s := s.modPhase p fun x => x.latch false high (!high)
        s.modChan n fun c =>
          let c := c.both fun x => { x with loop := x.loop.latchTuck (p.val - n.val) }
          if lock then { c.setBand fun b => { b with pf := 0 } with pfZero := true } else c
  | none => s.modPhase p fun x => x.latch (bit x.run.cfg 16) high (!high)

/-- The latch states written to NV (R95). -/
def State.latchNv (s : State) : State :=
  { s with phases := s.phases.map fun x => { x with nvLatch := x.latched } }
/-- LATCH_NV_WRITE (R95). -/
def execLatchNvWrite (s : State) : Host.Outcome State Fault Refusal := done s.latchNv

/-- The comparators of a position. -/
def State.cmpOf (s : State) (p : PhaseNo) : Cmp := (s.groups[groupOf p]).cmp[(⟨p.val % 16, by omega⟩ : Fin 16)]

/-- The windows of a position out of crossing. -/
def Cmp.inWin (c : Cmp) : Win → Bool
  | .current => c.inI
  | .vtrip => c.inV
  | .vwarn => c.inW

/-- A threshold DAC of a window is FAILED (R172); the warn window has none (R154). -/
def Group.dacFailed (g : Group) (pos : Nat) (w : Win) : Bool :=
  match w with
  | .current => g.dacFailI.getLsbD (2 * pos) || g.dacFailI.getLsbD (2 * pos + 1)
  | .vtrip => g.dacFailV.getLsbD (2 * pos) || g.dacFailV.getLsbD (2 * pos + 1)
  | .vwarn => false

/-- The conditions of R92: neither current comparator asserted (a FAILED DAC counts as asserted, R172), the beat-mean current within ±1 % of full scale. -/
def State.clearOk (s : State) (p : PhaseNo) : Bool :=
  let x := s.phases[p]
  let c := s.cmpOf p
  !c.hi && !c.lo && !(s.groups[groupOf p]).dacFailed (p.val % 16) .current && decide (x.iMean.natAbs * 100 ≤ phaseFs (shuntOf x.run))

/-- PH_OC_CLR (R92 to R94). A phase that a channel-scope latch latched in its configured channel is not cleared here
(R93); the latch of one beat prevails over its clear (R94). -/
def State.ocClr (s : State) (p : PhaseNo) (v : Word) (due : Beat) : State :=
  let x := s.phases[p]
  if fld v 0 8 ≠ 0xA7 ∨ x.latched = false then s
  else if x.latchNow || (x.latchScope && (s.ownerOf p).isSome) || !s.clearOk p then
    s.modPhase p fun x => { x with clrRefused := true }
  else
    s.modPhase p fun x => { x with latched := false, latchScope := false, ocHi := false, ocLo := false
                                   clearedNow := true, rejoin := some due }
/-- PH_OC_CLR (R92). -/
def execPhOcClr (n : PhaseNo) (v : Word) (cyc : Nat) (s : State) : Host.Outcome State Fault Refusal :=
  done (s.bar (s.ocClr n v (s.dueAt cyc)))

/-- CH_CLR (R106, R169): a channel-scope latch or a latch by a window action is released when R92 holds for every
phase and every window that latched the channel is out of crossing with no DAC FAILED; a refusal sets CLR_REFUSED in each phase that
fails, and in the base phase of a channel that a window latched. A channel that a commit has taken to OFF
keeps the latch of its phases until this clear (R29, R93). -/
def State.chClr (s : State) (n : ChanNo) (v : Word) (due : Beat) : State :=
  let ps := s.phasesOf n
  let held := s.chans[n].latched || ps.any fun p => s.phases[p].latched && s.phases[p].latchScope
  if fld v 0 8 ≠ 0xA7 ∨ s.isRun n = false ∨ held = false then s
  else
    let bad := ps.filter fun p => !s.clearOk p || s.phases[p].latchNow
    let winBad := s.chans[n].latchWins.any fun (p, w) =>
      (s.cmpOf p).inWin w || (s.groups[groupOf p]).dacFailed (p.val % 16) w
    let refused := !bad.isEmpty || winBad || s.chans[n].tripNow
    let s := forEach bad s fun s p => s.modPhase p fun x => { x with clrRefused := true }
    let s := if refused && (bad.isEmpty || !s.chans[n].latchWins.isEmpty) then s.modPhase n fun x => { x with clrRefused := true } else s
    if refused then s
    else
      let s := forEach (ps.filter fun p => s.phases[p].latchScope) s fun s p => s.modPhase p fun x =>
        { x with latched := false, latchScope := false, ocHi := false, ocLo := false, clearedNow := true }
      s.modChan n fun c => { c with releaseDue := if c.latched then some due else none, latchWins := [], clearNow := true }
/-- CH_CLR (R106). -/
def execChClr (n : ChanNo) (v : Word) (cyc : Nat) (s : State) : Host.Outcome State Fault Refusal :=
  done (s.bar (s.chClr n v (s.dueAt cyc)))

end Sys2Proof.Machine
end

