-- ==== Sys2Proof/Machine/CommitOps.lean ====
section
/-!
DEFINITION. Staged configuration: the snapshot of CH_COMMIT (R98), its checks (R99, R100, R73, R75, R79, R83) and what
an accepted one does at its boundary (R29, R96, R72, R114, R120).
-/
namespace Sys2Proof.Machine

/-! ### The snapshot (R98) -/

/-- Takes the snapshot of a channel's staging copies; it replaces one that waits. A gang lies within its group, so the phases of
the old and the new span, and those of no channel that R96 adds, are phases of the channel's group. -/
def State.snapshot (s : State) (n : ChanNo) (due : Beat) : State :=
  let gang := s.phases[n].staged.gang
  let ps := (allFin 160).filter fun p => groupOf p == groupOf n
  s.modChan n fun c =>
    { c with snap := some { due := due, chan := c.staged, gang := gang, phases := ps.map fun p => (p, s.phases[p].staged) }
             commitResult := 2, commitPhase := 0 }

/-- A write of CH_COMMIT; a channel that is not configured ignores it (R16, R97). -/
def State.chCommit (s : State) (n : ChanNo) (v : Word) (cyc : Nat) : State :=
  if bit v 0 && s.isConf n then s.snapshot n (s.dueAt cyc) else s
/-- CH_COMMIT (R98). -/
def execChCommit (n : ChanNo) (v : Word) (cyc : Nat) (s : State) : Host.Outcome State Fault Refusal :=
  done (s.bar (s.chCommit n v cyc))

/-! ### The checks (R100) -/

/-- The staged words of a phase in a snapshot. -/
def Snapshot.phase (x : Snapshot) (p : PhaseNo) : Option PhaseCfg := (x.phases.find? fun q => q.1 == p).map Prod.snd
/-- The base-phase words of a snapshot. -/
def Snapshot.base (x : Snapshot) (n : ChanNo) : BaseCfg := ((x.phase n).getD PhaseCfg.reset).base
/-- The declared shunt of a phase of a snapshot. -/
def Snapshot.shunt (x : Snapshot) (p : PhaseNo) : Nat := shuntOf ((x.phase p).getD PhaseCfg.reset)

/-- OVERLAP: the first phase of the new span that another channel covers or claims. -/
def State.overlapAt (s : State) (n : ChanNo) (span : List PhaseNo) : Option PhaseNo :=
  span.find? fun p => (match s.ownerOf p with | some o => o != n | none => false) ||
    (p != n && s.phases[p].staged.gang != 0)

/-- SHUNT (R75): the first phase that breaks it. -/
def Snapshot.shuntBad (x : Snapshot) (n : ChanNo) (k : Nat) (span : List PhaseNo) : Option PhaseNo :=
  let r := x.shunt n
  match span.find? fun p => x.shunt p != r with
  | some p => some p
  | none => if r < 100 ∨ 1000000 < r ∨ 2000000000 * r < k * 100000000000 then some n else none

/-- F_TARGET (R73). -/
def freqOk (b : BaseCfg) : Bool := fTarget b == 0 || (200 ≤ fTarget b && fTarget b ≤ 1500)
/-- The tuck words (R83). -/
def tuckOk (b : BaseCfg) (k : Nat) : Bool :=
  (tuckTh b == 0 || tuckTh b + 51 ≤ readdTh b) && tuckMin b ≤ k
/-- The glide rates (R79). -/
def glideOk (b : BaseCfg) : Bool :=
  let i := b.glideI.toNat
  let v := b.glideV.toNat
  (i == 0 || (1000 ≤ i && i ≤ 100000000)) && (v == 0 || (10 ≤ v && v ≤ 1000000))
/-- ILIM: the limits in order and each within the channel full scale. -/
def ilimOk (c : ChanCfg) (k rsh : Nat) : Bool :=
  let lo := sword c.ilimLo
  let hi := sword c.ilimHi
  decide (lo ≤ hi) && decide (lo.natAbs * rsh ≤ k * 100000000000) && decide (hi.natAbs * rsh ≤ k * 100000000000)
/-- VLIM. -/
def vlimOk (c : ChanCfg) : Bool :=
  let lo := sword c.vlimLo
  let hi := sword c.vlimHi
  decide (lo < hi) && decide (-500000 ≤ lo) && decide (hi ≤ 5500000)
/-- SETPT. -/
def setptOk (c : ChanCfg) : Bool :=
  match Mode.ofCode (dmodeOf c) with
  | none => false
  | some .cc => decide (sword c.ilimLo ≤ sword c.setI) && decide (sword c.setI ≤ sword c.ilimHi)
  | some .cv => decide (sword c.vlimLo ≤ sword c.setV) && decide (sword c.setV ≤ sword c.vlimHi)
  | some .cr => c.setR != 0
  | some _ => true
/-- GAIN. -/
def gainOk (c : ChanCfg) : Bool := ktOf c != 0 && !(dmodeOf c == 3 && kpOf c == 0 && kiOf c == 0)

/-- The first check of R100 that fails, with the phase it concerns; none when all pass. DESIGN CHOICE (log entry 67): the checks
that concern a phase are OVERLAP, SHUNT and LATCH_PRESENT; the others concern the channel's set and record phase 0. -/
def State.commitCheck (s : State) (n : ChanNo) (x : Snapshot) : Option (Nat × Nat) :=
  let c := s.chans[n]
  let running := c.cur.step.running
  let gangNew := fld x.gang 0 3
  let active := running && (gangNew != fld s.phases[n].run.gang 0 3 || dmodeOf x.chan != dmodeOf c.run)
  if gangNew = 0 then (if active then some (17, 0) else none)
  else if 4 < gangNew then some (3, 0)
  else
    let k := gangSize x.gang
    let span := spanOf n k
    let b := x.base n
    if n.val % k ≠ 0 then some (4, 0)
    else match s.overlapAt n span with
    | some p => some (5, p.val)
    | none =>
    match x.shuntBad n k span with
    | some p => some (6, p.val)
    | none =>
    if !freqOk b then some (7, 0)
    else if bandMin b < 4 ∨ bandMax b < bandMin b then some (8, 0)
    else if !tuckOk b k then some (9, 0)
    else if !glideOk b then some (10, 0)
    else if lowcellMv b < 100 ∨ 1000 < lowcellMv b then some (11, 0)
    else if !ilimOk x.chan k (x.shunt n) then some (12, 0)
    else if !vlimOk x.chan then some (13, 0)
    else if !setptOk x.chan then some (14, 0)
    else if !gainOk x.chan then some (15, 0)
    else if !s.isRun n ∧ s.beat.budgets[groupOf n] < s.groupFloor (groupOf n) + 18 then some (16, 0)
    else if active then some (17, 0)
    else if k ≠ s.gang n then
      match (s.phasesOf n ++ span).find? fun p => s.phases[p].latched with
      | some p => some (18, p.val)
      | none => none
    else none

/-! ### What an accepted snapshot does (R29) -/

/-- The lane override ends: an open transition is answered ABANDONED (R114). -/
def Chan.laneEnd (c : Chan) (n : ChanNo) : Chan :=
  let cur := c.cur
  let c := c.setCur { cur with acks := cur.acks ++ abandonAcks n cur.loop }
  c.both fun x => { x with loop := loopNoLane x.loop }

/-- The step state of a channel that takes a direct mode (R105, R201). -/
def directStep (st : StepState) (m : Mode) (opens : Beat) : StepState :=
  { st with base := .run, mode := m, running := false, after := .none, forced := false, fresh := true
            stepBeat := opens, beats := 0, edgeBeats := 0 }

/-- Zero current with switching stopped on a channel (R29): the loop state of a generator at ZERO, every non-latched
phase active (R88). -/
def zeroLoop (l : LoopState) : LoopState := { loopTrip l with tucked := [], trims := [] }

/-- A phase in no channel (R60): gates low, no set point, band or slot. -/
def Phase.leave (p : Phase) : Phase :=
  { p.gatesLow with setpt := 0, band := 0, sat := false, slot := 0, enabled := false }

/-- The running copies of the snapshot's phases (R96): those of the new span, and those that are in no channel after the commit,
which carry nothing any more. -/
def State.takePhases (s : State) (n : ChanNo) (x : Snapshot) : State :=
  let old := spanOf n (s.gang n)
  let s := s.modPhase n fun p => { p with run := { p.run with gang := x.gang } }
  forEach x.phases s fun s (p, cfg) =>
    match s.ownerOf p with
    | some o => if o = n then s.modPhase p fun q => { q with run := { cfg with gang := q.run.gang } } else s
    | none =>
        s.modPhase p fun q =>
          let q := if old.contains p then q.leave else q
          { q with run := { cfg with gang := q.run.gang } }

/-- A running group trip takes the channel to TRIPPED instead of letting it leave OFF (R170). -/
def State.groupHold (s : State) (n : ChanNo) : State :=
  let g := s.groups[groupOf n]
  if g.gtActive then
    let causes := g.gtHold.map fun (p, w) => TripCause.groupWindow (phaseOf (16 * (groupOf n).val + p)) w
    s.modChan n fun c => { c.tripRun n with trips := causes }
  else s

/-- The contexts of a channel that a commit creates: afresh, or with what a restore kept of it where the gang size is the
same; it then enters RUN in mode REST, or the direct mode where AUTO_RESUME commits it without a POWER_LOSS record (R400). -/
def freshHalves (c : Chan) (gang : Nat) (m : Mode) (opens : Beat) : Vector Context 2 :=
  match c.restored with
  | some (g, how) =>
      if g = gang then
        let x := c.cur
        Vector.replicate 2 { Context.reset with
          cnt := x.cnt
          step := { directStep x.step (if how = 2 then m else .rest) opens with stepBeat := opens } }
      else Vector.replicate 2 { Context.reset with step := directStep StepState.reset m opens }
  | none => Vector.replicate 2 { Context.reset with step := directStep StepState.reset m opens }

/-- Whether a commit keeps what a restore left in the channel's context: the gang size is the same (R519). -/
def State.keepsRestored (s : State) (n : ChanNo) : Bool :=
  match s.chans[n].restored with
  | some (g, how) => decide (g = s.gang n) && how != 2
  | none => false

/-- A commit of mode OFF, or one that removes the channel (R29): zero current with switching stopped, OFF at once. -/
def State.commitOff (s : State) (n : ChanNo) (oldGang : Nat) (opens : Beat) : State :=
  let gang := s.gang n
  let s := s.lowAll (spanOf n (max oldGang gang))
  s.modChan n fun c =>
    let c := c.laneEnd n
    { (c.both fun x => { x with loop := zeroLoop x.loop, out := idleOut gang
                                step := { directStep x.step .off opens with base := .off } }) with
        paused := false, trips := [], ctxTrip := false, ovrTrip := false, latched := false, latchWins := []
        releaseDue := none, waking := false, wakeDue := false, requests := c.requests.filter fun r => r.cmd.isSome }

/-- Whether an accepted set gives the channel its direct mode anew (R29, R105, R195): a mode other than the one in force, which
in a stop is any mode but REST; a paused channel (R120) or one that stops takes REST only where the set changes DMODE. -/
def takesMode (c : Chan) (changed : Bool) (m : Mode) : Bool :=
  let st := c.cur.step
  if c.paused then changed
  else if c.cur.loop.ramp = .stopRamp then m != .rest || changed
  else st.base == .chrysalis || m != st.mode

/-- The channel of an accepted commit after it has taken effect in the boundary that opens `opens` (R29); `changed` says that
the set changes DMODE. The direct mode acts only while no recipe runs (R105). -/
def State.commitModeNow (s : State) (n : ChanNo) (oldGang : Nat) (changed : Bool) (opens : Beat) : State :=
  let c := s.chans[n]
  let gang := s.gang n
  let m := (Mode.ofCode (dmodeOf c.run)).getD .rest
  let st := c.cur.step
  if gang = 0 ∨ (m = .off ∧ st.running = false ∧ c.restored ≠ some (gang, 1)) then s.commitOff n oldGang opens
  else if oldGang = 0 ∨ c.restored.isSome = true then
    let s := s.modChan n fun c =>
      { c with halves := freshHalves c gang m opens, restored := none
               trips := [], ctxTrip := false, ovrTrip := false, latched := false, held := false, paused := false
               detLapsed := false, waking := false, wakeDue := false }
    s.groupHold n
  else if st.running then s
  else
    let takes := takesMode c changed m
    let s := if changed then s.modChan n fun c => { c with paused := false } else s
    if oldGang = gang ∧ takes = false then s
    else if c.state = .tripped ∨ c.state = .latched then s
    else
      let s := s.modChan n fun c => c.laneEnd n
      if oldGang = gang ∧ c.cur.loop.ramp = .stopRamp then
        s.modChan n fun c => c.both fun x => { x with step := { x.step with after := .mode m } }
      else
        let s := s.lowAll (spanOf n (max oldGang gang))
        let asleep := st.base = .chrysalis
        let wasOff := st.base = .off
        let m := if takes then m else .rest
        let s := s.modChan n fun c =>
          { (c.both fun x => { x with loop := zeroLoop x.loop, out := idleOut gang
                                      cnt := if wasOff then { x.cnt with runQ := 0, runE := 0 } else x.cnt
                                      step := if asleep then { directStep x.step .rest opens with after := .mode m }
                                              else directStep x.step m opens }) with
              waking := c.waking || asleep }
        if wasOff then s.groupHold n else s

/-- A direct mode that would take a channel out of OFF waits while its tray holds it there (R499). -/
def State.commitMode (s : State) (n : ChanNo) (oldGang : Nat) (changed : Bool) (opens : Beat) : State :=
  let m := (Mode.ofCode (dmodeOf s.chans[n].run)).getD .rest
  let wasOff := oldGang = 0 ∨ s.chans[n].cur.step.base = .off
  if s.gang n ≠ 0 ∧ m ≠ .off ∧ wasOff ∧ s.trayHolds n = true then
    let kept := s.keepsRestored n
    let m := if kept = true then Mode.rest else m
    let s := if oldGang = 0 then
        s.modChan n fun c =>
          { c with halves := if kept = true then c.halves else
                     Vector.replicate 2 { Context.reset with step := { directStep StepState.reset .off opens with base := .off } }
                   restored := none, trips := [], ctxTrip := false, ovrTrip := false, latched := false, held := false, paused := false
                   detLapsed := false, waking := false, wakeDue := false }
      else s
    s.modChan n fun c => c.both fun x => { x with step := { x.step with after := .mode m } }
  else s.commitModeNow n oldGang changed opens

/-- A direct mode that waited for its tray takes effect at the first boundary at which nothing holds it (R499). -/
def State.trayRelease (s : State) (n : ChanNo) (opens : Beat) : State :=
  let st := s.chans[n].cur.step
  if st.base = .off ∧ st.after ≠ .none ∧ s.trayHolds n = false then
    let s := s.modChan n fun c => c.both fun x => { x with
      out := idleOut (s.gang n), cnt := { x.cnt with runQ := 0, runE := 0 }
      step := match x.step.after with | .mode m => directStep x.step m opens | .none => x.step }
    s.groupHold n
  else s

/-- An accepted snapshot takes effect (R29). -/
def State.commitApply (s : State) (n : ChanNo) (x : Snapshot) (opens : Beat) : State :=
  let oldGang := s.gang n
  let b := s.phases[n].run.base
  let lockNew := oldGang ≠ gangSize x.gang ∨ bandMin b ≠ bandMin (x.base n) ∨ bandMax b ≠ bandMax (x.base n) ∨
    fTarget b ≠ fTarget (x.base n)
  let changed := dmodeOf s.chans[n].run != dmodeOf x.chan
  let s := s.takePhases n x
  let s := s.modChan n fun c =>
    { c with run := x.chan, snap := none, seq := c.seq + 1, commitResult := 1, commitPhase := 0, commitBeat := opens
             firstStart := c.firstStart || decide lockNew }
  s.commitMode n oldGang changed opens

/-- A snapshot due at a boundary is checked and applied, or rejected whole (R99, R100). -/
def State.commitDue (s : State) (n : ChanNo) (opens : Beat) : State :=
  match s.chans[n].snap with
  | none => s
  | some x =>
      if opens < x.due then s
      else match s.commitCheck n x with
        | some (code, ph) => s.modChan n fun c => { c with snap := none, commitResult := code, commitPhase := ph }
        | none => s.commitApply n x opens

end Sys2Proof.Machine
end

