-- ==== Sys2Proof/Machine/LaneOps.lean ====
section
/-!
DEFINITION. The setpoint lane (R107 to R117 of spec/03_channels_setpoints.md): slots, frames that no beat job answers,
the acknowledgement queue.
-/
namespace Sys2Proof.Machine

/-! ### Frames -/

/-- A frame as its 48 bits spell it (R108). -/
def parseFrame (f : BitVec 48) : LaneFrame :=
  let w := f.toNat
  { chan := w / 2 ^ 40 % 256, tag := w / 2 ^ 36 % 16, kind := w / 2 ^ 34 % 4, target := signed 18 (w / 2 ^ 16)
    slew := w / 2 ^ 8 % 256
    crcOk := crc8 [byte (w / 2 ^ 40), byte (w / 2 ^ 32), byte (w / 2 ^ 24), byte (w / 2 ^ 16), byte (w / 2 ^ 8)] == byte w }

/-- An acknowledgement word (R115); code 0 is the empty word. -/
def ackWord (a : Ack) : BitVec 24 :=
  let v := a.chan % 256 * 256 + a.tag % 16 * 16 + a.code % 16
  BitVec.ofNat 24 (v * 256) ||| (crc8 [byte (v / 256), byte v]).setWidth 24

/-- LANE_SLOT (R107, R110, R116): a slot of `clocks` cycles ends in cycle `cyc` of the beat. -/
def State.laneSlot (s : State) (clocks : Nat) (frame : BitVec 48) (cyc : Nat) : State :=
  if !s.lane.en then s
  else if clocks ≠ 48 then
    s.modLane fun l => { l with frameErr := if l.frameErr = 0xFFFF#16 then l.frameErr else l.frameErr + 1, frameSeen := true }
  else
    let f := parseFrame frame
    let due := if cyc ≤ 480 then s.beat.number + 1 else s.beat.number + 2
    let s := (s.send (.laneWord (s.lane.queue.headD 0))).send (.laneWord ((s.lane.queue.drop 1).headD 0))
    s.modLane fun l =>
      { l with queue := l.queue.drop 2
               frames := if f.crcOk then l.frames + 1 else l.frames
               crcErr := if f.crcOk || l.crcErr == 0xFFFF#16 then l.crcErr else l.crcErr + 1
               crcSeen := l.crcSeen || !f.crcOk
               inputs := if f.chan = 0xFF ∧ f.crcOk = true then l.inputs else l.inputs ++ [(due, f)] }
/-- LANE_SLOT (R107). -/
def execLaneSlot (clocks : Nat) (frame : BitVec 48) (cyc : Nat) (s : State) : Host.Outcome State Fault Refusal :=
  done (s.laneSlot clocks frame cyc)

/-- The frames that are inputs of a beat. -/
def Lane.inputsOf (l : Lane) (b : Beat) : List LaneFrame := (l.inputs.filter fun f => f.1 == b).map Prod.snd

/-! ### Answers at the boundary that closes the beat (R111, R116) -/

/-- The place of an acknowledgement within its channel. -/
def ackRank (a : Ack) : Nat :=
  match a.code with | 3 => 0 | 4 => 1 | 5 => 3 | 1 => 4 | 2 => 5 | _ => 2

/-- Stable insertion by channel and place. -/
def insertAck (a : Ack) : List Ack → List Ack
  | [] => [a]
  | b :: bs =>
      if a.chan < b.chan ∨ (a.chan = b.chan ∧ ackRank a < ackRank b) then a :: b :: bs else b :: insertAck a bs

/-- Acknowledgements in the order of R116. -/
def sortAcks (l : List Ack) : List Ack := l.foldl (fun acc a => insertAck a acc) []

/-- What a frame gets that no beat job answers: a bad CRC, a channel that does not exist, and a channel in OFF. -/
def State.frameRefusal (s : State) (f : LaneFrame) : Nat :=
  if !f.crcOk then 8
  else if 2 ≤ f.kind then 12
  else match finOf 160 f.chan with
    | none => 9
    | some n => if !s.isRun n ∨ laneOf s.chans[n].run / 2 ^ f.kind % 2 = 0 then 9 else 11

/-- The acknowledgements of the frames of a beat that no beat job answers, in arrival order: those of channels without a job in
`jobs`, the earlier ones of a channel with a good CRC SUPERSEDED. -/
def State.strayAcks (s : State) (b : Beat) (jobs : List ChanNo) : List Ack :=
  let stray := (s.lane.inputsOf b).filter fun f => !(jobs.any fun n => n.val == f.chan)
  (List.range stray.length).map fun i =>
    let f := stray.getD i ⟨0, 0, 0, 0, 0, false⟩
    let later := (stray.drop (i + 1)).any fun g => g.chan == f.chan
    ({ chan := f.chan, tag := f.tag, code := if f.crcOk && later then 3 else s.frameRefusal f } : Ack)

/-- Words queued at a boundary (R116): 64 at most, the others dropped and counted. -/
def State.queueAcks (s : State) (acks : List Ack) : State :=
  (sortAcks acks).foldl (fun s a =>
    s.modLane fun l =>
      if l.queue.length < 64 then { l with queue := l.queue ++ [ackWord a] }
      else { l with ovf := true, ackDrop := if l.ackDrop = 0xFFFF#16 then l.ackDrop else l.ackDrop + 1 }) s

end Sys2Proof.Machine
end

