-- ==== Sys2Proof/Machine/LinkCore.lean ====
section
/-!
DEFINITION. Link ports, shared operations (spec/11_energy_links.md): the switch (R359), the hard reset (R369, R370), the
start of a port (R371, R376), the entry to ORDERLY_STOP (R376).
-/
namespace Sys2Proof.Machine

def State.modLink (s : State) (x : Fin 2) (f : LinkPort → LinkPort) : State :=
  { s with links := { s.links with port := s.links.port.set x (f s.links.port[x]) } }

/-- An event of a port; its bit of LNK_EVT is set. -/
def State.linkEvent (s : State) (x : Fin 2) (typ : Nat) (data : List Byte) (evtBit : Option Nat) : State :=
  let s := s.event .port x.val typ data
  match evtBit with
  | some b => s.modLink x fun p => { p with evt := p.evt ||| (1#32 <<< b) }
  | none => s

/-- LINK_FAULT (R377). -/
def State.linkFault (s : State) (x : Fin 2) (code : Nat) : State := s.linkEvent x 56 [byte code] (some 8)

/-- LKG_x goes high: one more closure in the lifetime area (R359). -/
def State.linkClose (s : State) (x : Fin 2) : State :=
  if (s.links.port[x]).switch then s
  else
    let s := s.modLink x fun p => { p with switch := true }
    { s with store := { s.store with closures := s.store.closures.set x (s.store.closures[x] + 1) } }
/-- LKG_x goes low. -/
def State.linkOpen (s : State) (x : Fin 2) : State := s.modLink x fun p => { p with switch := false }

/-- Message IDs restart, nothing is queued or awaited (R352). -/
def LinkPort.quiet (p : LinkPort) : LinkPort :=
  { p with queue := [], tx := none, txId := 0, rxLast := none, await := none, repeatOffer := false, collided := false
           offerDue := false, askDue := false, swapDue := false, bid := none, agreed := none, ocpHit := false }

/-- What a port presents (R345, R346, R367). -/
def LinkPort.presents (p : LinkPort) : Presentation :=
  match p.state with
  | .fixed => .fixed
  | .off | .reversed | .lockout => .none
  | .toggle => if p.part then .source else .sink
  | .sUnatt => .source
  | .kUnatt => .sink
  | _ => if p.source then .source else .sink

/-- Attached states: the partner is there and the protocol runs. -/
def LinkState.attached : LinkState → Bool
  | .sDrainWait | .sPrecharge | .sDefault | .sNegotiate | .sTransition | .sContract | .kDefault | .kNegotiate
  | .kTransition | .kCloseWait | .kContract => true
  | _ => false
/-- States in which a hard reset is acted on: all in which the port runs. -/
def LinkState.runs : LinkState → Bool
  | .fixed | .off | .lockout | .reversed => false
  | _ => true

/-- The unattached state of a policy (R364, R365). -/
def Policy.unattached (p : Policy) : LinkState :=
  if p.role = 1 then .sUnatt else if p.role = 2 then .kUnatt else if p.role = 3 then .toggle else .off

/-- A port that starts under its policy: FIXED gives way to SINK, and a source seen at that instant attaches (R371). -/
def LinkPort.start (p : LinkPort) : LinkPort :=
  let p := { p.quiet with contract := none, switch := false, swap := none, roleHold := false, acked := false, part := false }
  match p.policy with
  | none => { p with state := .off }
  | some q =>
      if p.state = .fixed ∧ p.acc = .sourceSeen then { p with state := .kAttachWait, source := false }
      else { p with state := q.unattached, source := false }

/-- A port in FIXED (R345, R376). -/
def LinkPort.stop (p : LinkPort) : LinkPort :=
  { p.quiet with contract := none, switch := false, swap := none, roleHold := false, state := .fixed, source := false }

/-- The hard reset of R370; `cause` as the bullets of R369, free where none of them names the case. The hard resets of the last 60 s count towards LOCKOUT. -/
def State.hardReset (s : State) (x : Fin 2) (received : Bool) (cause : Byte) : State :=
  let p := s.links.port[x]
  if !p.state.runs then s
  else
    let s := if received then s else s.send (.linkHardReset x.val)
    let now := s.beat.uptime
    let times := (p.times.filter fun t => decide (now < t + 60000000)) ++ [now]
    let role := match p.swap with | some w => w.before | none => p.source
    let st : LinkState := match p.state with
      | .toggle | .sUnatt | .kUnatt | .sAttachWait | .kAttachWait => p.state
      | _ => .hardReset
    let s := s.modLink x fun p =>
      { p.quiet with switch := false, contract := none, swap := none, source := role, state := st, drained := false
                     times := times, hrst := min 0xFFFF (p.hrst + 1), acked := false }
    let s := s.linkEvent x 53 [if received then 1 else 0, cause] (some 5)
    if 3 ≤ times.length then
      let s := s.modLink x fun p => { p with state := .lockout }
      (s.linkEvent x 56 [5] (some 8)).modLink x fun p => { p with evt := p.evt ||| 0x200#32 }
    else s

/-- Entry to ORDERLY_STOP: a hard reset on every attached port, then FIXED (R376). -/
def State.linksStop (s : State) : State :=
  forEach (allFin 2) s fun s x =>
    let st := (s.links.port[x]).state
    let s := if st.attached || st == .swapDischarge || st == .hardReset then s.hardReset x false 6 else s
    s.modLink x LinkPort.stop

/-- Every port in FIXED with its switch open (R376, R433). -/
def State.linksFixed (s : State) : State := forEach (allFin 2) s fun s x => s.modLink x LinkPort.stop

/-- The ports run under EN and the policy (R376). -/
def State.linksStart (s : State) : State :=
  forEach (allFin 2) s fun s x => if (s.links.port[x]).en then s.modLink x LinkPort.start else s

end Sys2Proof.Machine
end

