-- ==== Sys2Proof/Machine/SeqOps.lean ====
section
/-!
DEFINITION. The shared operations of the board rail sequencer (spec/13_rail_sequencer.md): records and events (R429 to
R431), slots on and off (R413, R416, R417, R421), board resets (R423), the instant of a cause and the common start of a
power-down (R416).
-/
namespace Sys2Proof.Machine

/-! ### Fields -/

def SeqProfile.retries (p : SeqProfile) : Nat := fld p.cfg 0 3
def SeqProfile.fltnEn (p : SeqProfile) : Bool := bit p.cfg 17
def SeqProfile.fltStop (p : SeqProfile) : Bool := bit p.cfg 18
def SlotCfg.en (c : SlotCfg) : Bool := bit c.cfg 31
def SlotCfg.rt (c : SlotCfg) : Bool := bit c.cfg 30
def SlotCfg.disEn (c : SlotCfg) : Bool := bit c.cfg 29
/-- PG_MODE; 3 acts as 0. -/
def SlotCfg.mode (c : SlotCfg) : Nat := let m := fld c.cfg 24 2; if m = 3 then 0 else m
def SlotCfg.onDly (c : SlotCfg) : Nat := fld c.dly 0 16
def SlotCfg.offDly (c : SlotCfg) : Nat := fld c.dly 16 16
/-- A reading in mV is good (R410, R414): above 1.2 V in LOGIC mode, not below 0.6 V, between them as it was; in ANALOG mode
within LO and HI, scaled by (1000 + applied code) / 1000 (R425). -/
def slotGood (c : SlotCfg) (applied : Int) (was : Bool) (mv : Nat) : Bool :=
  if c.mode = 1 then decide (1200 < mv) || (was && decide (600 ≤ mv))
  else if c.mode = 2 then
    decide (mv * 1000 ≥ fld c.win 0 12 * (1000 + applied)) && decide (mv * 1000 ≤ fld c.win 16 12 * (1000 + applied))
  else false

def State.modSlot (s : State) (k : Fin 12) (f : Slot → Slot) : State :=
  s.modSeq fun q => { q with slots := q.slots.set k (f q.slots[k]) }

/-! ### Records and events (R429 to R431) -/

/-- The always-on domain keeps sequencer records while the core does not run and from a common start until READY or
COCOON (R430). -/
def State.seqBuffers (s : State) : Bool :=
  s.seq.buffering || !s.coreUp

/-- A sequencer record with its event, if it has one: written at once, or buffered (R430). -/
def State.seqRec (s : State) (code : Nat) (data : List Byte) (ev : Option (Nat × Option Nat × List Byte)) : State :=
  if s.seqBuffers then
    s.modSeq fun q =>
      { q with buffer := if q.buffer.length < 16 then q.buffer ++ [{ code := code, data := data, time := s.logTime }]
                         else q.buffer
               bufLost := if q.buffer.length < 16 then q.bufLost else q.bufLost + 1
               evDue := if q.buffer.length < 16 then q.evDue ++ ev.toList else q.evDue }
  else
    let s := s.logRec 1 code data
    match ev with
    | some (typ, subj, d) =>
        (match subj with
         | some k => s.event .slot k typ d
         | none => s.devEvent typ d).irq 24
    | none => s

/-- At the entry to READY or COCOON the buffered records are written in order, marked BUFFERED, a BUFFER_LOST record
after them, and their events raised (R430). -/
def State.seqFlush (s : State) : State :=
  let q := s.seq
  let s := forEach q.buffer s fun s r =>
    { s with log := s.log.append r.time (BitVec.allOnes 64) 1 r.code (2 + if r.time = 0 then 0 else 1) r.data }
  let s := if q.bufLost = 0 then s else s.logRec 1 12 (leBytes 2 q.bufLost)
  let s := forEach q.evDue s fun s (typ, subj, d) =>
    (match subj with | some k => s.event .slot k typ d | none => s.devEvent typ d).irq 24
  s.modSeq fun q => { q with buffer := [], bufLost := 0, evDue := [], buffering := false }

/-! ### Board resets (R423) -/

/-- BRST_Nj goes low for every reset that a test selects. -/
def State.lowResets (s : State) (p : Fin 4 → Bool) : State :=
  s.modSeq fun q => { q with released := (allFin 4).foldl (fun v j => if p j then v.set j false else v) q.released }

/-- The reset masks the slot. -/
def State.masks (s : State) (j : Fin 4) (k : Fin 12) : Bool := bit s.seq.run.rst[j] k.val

/-! ### Slots -/

/-- RAIL_ENk rises and RAIL_DISk falls (R413). -/
def State.slotOn (s : State) (k : Fin 12) : State :=
  s.modSlot k fun x => { x with en := true, dis := false, due := false, isOff := false, offDone := false
                                pg := if s.seq.run.slots[k].mode = 0 then false else x.pg }

/-- A slot counts as off (R417): LOGIC reads not good, ANALOG reads below OFF_LVL, NONE at its off-time. -/
def slotReadsOff (c : SlotCfg) (x : Slot) : Bool :=
  if c.mode = 1 then !x.pg else if c.mode = 2 then x.sense < fld c.off 0 12 else x.offDone

/-- RAIL_ENk falls at the slot's off-time; RAIL_DISk rises with DIS_EN (R416). -/
def State.slotOff (s : State) (k : Fin 12) : State :=
  let c := s.seq.run.slots[k]
  s.modSlot k fun x =>
    let x := { x with en := false, dis := x.dis || c.disEn, offDone := true, due := false
                      pg := if c.mode = 0 then false else x.pg }
    { x with isOff := x.isOff || slotReadsOff c x }

/-! ### Power-down (R416) -/

/-- The instant of a cause: every BRST_Nj low, every MARGk high impedance with EN and the applied code 0 (R416, R425).
A cause during a power-down changes only the record of causes. -/
def State.seqCause (s : State) (c : DownCause) : State :=
  let s := s.modSeq fun q => { q with lastCause := c.code }
  let s := s.lowResets fun _ => true
  forEach (allFin 12) s fun s k =>
    s.modSlot k fun x => { x with marg := x.marg &&& 0x7FFFFFFF#32, margOn := false, applied := 0 }

/-- The common start of a power-down: slots that are on go off by their off-delays; a delay of 0 acts at once. -/
def State.seqDownStart (s : State) (c : DownCause) : State :=
  let s := s.modSeq fun q => { q with state := .powerDown, cause := some c, stopFirst := false, run := q.profile
                                      partialUp := false }
  let s := s.seqRec 5 [byte c.code] (some (83, none, [byte c.code]))
  let s := forEach (allFin 12) s fun s k =>
    s.modSlot k fun x => { x with wasOn := x.en, isOff := !x.en, offDone := false, due := false }
  forEach ((allFin 12).filter fun k => s.seq.slots[k].en && s.seq.run.slots[k].offDly == 0) s fun s k => s.slotOff k

/-- A power-down that nothing precedes: the cause and its common start together. -/
def State.seqDown (s : State) (c : DownCause) : State :=
  if s.seq.state = .powerUp ∨ s.seq.state = .on then (s.seqCause c).seqDownStart c
  else if s.seq.state = .powerDown then s.modSeq fun q => { q with lastCause := c.code }
  else s

/-- What a main loss does to the RT 0 slots in POWER_UP and ON (R421), and at the entry to COCOON (R446). -/
def State.cutRt0 (s : State) : State :=
  if s.seq.state = .powerUp ∨ s.seq.state = .on then
    let cut := fun (k : Fin 12) => !s.seq.run.slots[k].rt
    let s := s.lowResets fun j => (allFin 12).any fun k => cut k && s.masks j k
    let s := forEach ((allFin 12).filter cut) s fun s k =>
      s.modSlot k fun x => { x with en := false, due := false, pg := x.pg && s.seq.run.slots[k].mode != 0
                                    dis := x.dis || (x.en && s.seq.run.slots[k].disEn) }
    s.modSeq fun q => { q with rtCut := true }
  else s

/-- The power-up is complete (R414): every enabled slot good and every on-delay passed. `t` is the time from the common
start, 100 µs. -/
def State.seqUpCheck (s : State) (t : Nat) : State :=
  let ok := (allFin 12).all fun k =>
    !s.seq.run.slots[k].en || (s.seq.rtCut && !s.seq.run.slots[k].rt) ||
      (s.seq.slots[k].en && s.seq.slots[k].pg && !s.seq.slots[k].due)
  if ok ∧ (s.seq.state = .powerUp ∨ (s.seq.state = .on ∧ s.seq.partialUp)) then
    let s := s.seqRec 2 (leBytes 4 t) (some (80, none, [byte s.seq.retry]))
    s.modSeq fun q => { q with state := .on, partialUp := false }
  else s

/-- The common start of a power-up (R413): on-delays counted from here, a delay of 0 acting at once. `kind` is that of
the UP_START record (R429). -/
def State.seqUpStart (s : State) (kind : Nat) : State :=
  let s := s.modSeq fun q => { q with state := .powerUp, run := q.profile, upKind := kind, buffering := true
                                      rtCut := false, cause := none, partialUp := false }
  let s := s.seqRec 1 [byte s.seq.retry, byte kind] none
  let s := forEach (allFin 12) s fun s k =>
    s.modSlot k fun x => { x with due := s.seq.run.slots[k].en, pg := if s.seq.run.slots[k].mode = 0 then false else x.pg }
  (forEach ((allFin 12).filter fun k => s.seq.run.slots[k].en && s.seq.run.slots[k].onDly == 0) s fun s k => s.slotOn k).seqUpCheck 0

/-- The partial power-up of the RT 0 slots when main counts as returned within the window (R421). -/
def State.seqPartialUp (s : State) : State :=
  if s.seq.rtCut ∧ (s.seq.state = .powerUp ∨ s.seq.state = .on) then
    let s := s.modSeq fun q => { q with rtCut := false, partialUp := true, upKind := 3 }
    let s := s.seqRec 1 [byte s.seq.retry, 3] none
    let rt0 := fun (k : Fin 12) => s.seq.run.slots[k].en && !s.seq.run.slots[k].rt
    let s := forEach ((allFin 12).filter rt0) s fun s k => s.modSlot k fun x => { x with due := true }
    (forEach ((allFin 12).filter fun k => rt0 k && s.seq.run.slots[k].onDly == 0) s fun s k => s.slotOn k).seqUpCheck 0
  else s

end Sys2Proof.Machine
end

