-- ==== Sys2Proof/Machine/StopOps.lean ====
section
/-!
DEFINITION. The alive output stopped (R464, R466), the orderly stop begun (R397), the board powered down (R455).
-/
namespace Sys2Proof.Machine

/-! ### WINGBEAT and FAULT_N -/

/-- A cause of R464 acts on the alive output: WINGBEAT stops low; FAULT_N is driven low for 128 µs and held by AUTO_HOLD
(R466). `cause` is the source, 0xFF for a device state (R485). -/
def State.wbStop (s : State) (cause : Nat) : State :=
  let was := s.flt.running
  let s := s.modFlt fun f =>
    { f with running := false, level := false, pulse := f.pulse || f.mode, hold := f.hold || (f.mode && f.autoHold) }
  if was then s.devEvent 128 [0, byte cause] else s

/-- The alive output at every entry to READY (R464, R466, R467): the MODE written takes effect and the output starts
high, unless FAULT_N is held. -/
def State.wbReady (s : State) : State :=
  s.modFlt fun f => { f with mode := f.modeReg, running := !(f.modeReg && f.hold), level := !(f.modeReg && f.hold)
                             pulse := false }

/-- An entry to READY from a state in which the device already ran: the MODE written takes effect and a running output
starts high; a stopped one waits for its restart (R464, R465, R467). -/
def State.backToReady (s : State) : State :=
  (s.goState .ready).modFlt fun f => { f with mode := f.modeReg, level := f.running }

/-- READY or ACTIVE by the channels (R432). -/
def State.readyOrActive (s : State) : State := if s.allOff then s.backToReady else s.goState .active

/-- The device leaves DEVICE_CHRYSALIS (R432). -/
def State.wakeDevice (s : State) : State := if s.dev.state = .chrysalis then s.readyOrActive else s

/-! ### Orderly stop -/

/-- DATA byte 0 of the STOP event (R408). -/
def StopCause.data : StopCause → Byte
  | .windowEnd | .mainLost => 1 | .vstop => 2 | .vlink => 3 | .faultS4 => 4 | .watchdog => 5
  | .sequencer => Config.stopDataSequencer

/-- The reason with which recipes are interrupted (R397, R454, R482). -/
def StopCause.reason : StopCause → Reason
  | .faultS4 | .watchdog => .trip
  | _ => .powerLoss

/-- The save area that does not hold the newest sealed image (R398). -/
def Saves.next (v : Saves) : Nat :=
  let no := fun (a : Option Image) => match a with | some i => if i.isSealed then i.sealNo + 1 else 0 | none => 0
  if no v.areas[0] ≤ no v.areas[1] then 0 else 1

/-- A save that runs ends unsealed: its area holds no image, and the next start reports it (R398, R455). -/
def Saves.tear (v : Saves) : Saves :=
  match v.writing with
  | some a => { v with writing := none, torn := some a, areas := if a = 0 then v.areas.set 0 none else v.areas.set 1 none }
  | none => v

/-- Whole milliseconds of a ride-through up to now (HLD_RT_LAST.MS). -/
def State.rideMs (s : State) : Nat := min 0xFFFF ((s.beat.uptime - s.hold.rtStart) / 1000)

/-- A staging command that runs is given up without a completion (R506). -/
def HostIf.dropChunk (h : HostIf) : HostIf :=
  let ids := h.nvOps.filterMap fun o => match o with | .chunk id _ => some id | _ => none
  { h with nvOps := h.nvOps.filter fun o => match o with | .chunk .. => false | _ => true
           running := h.running.filter fun c => !ids.contains c.id }

/-- A forced stop is asked of a channel that has left its rest (R81, R397). -/
def State.askStop (s : State) (n : ChanNo) (r : Reason) : State :=
  match s.chans[n].state with
  | .run | .glide | .hold => s.request n (.stop .rest r true) (s.beat.number + 1) none
  | _ => s

/-- An orderly stop starts (R397), where R432 lets one start. -/
def State.orderlyStop (s : State) (c : StopCause) : State :=
  match s.dev.state with
  | .ready | .active | .chrysalis | .rideThrough =>
      let s := if s.dev.state = .rideThrough then s.modHold fun h => { h with rtMs := s.rideMs } else s
      let s := (s.goState .orderlyStop).modHost HostIf.dropChunk
      let s := s.modDev fun d => { d with stopCause := some c, mainLostInStop := !s.hold.main }
      let s := s.modSaves fun v => { v with writing := some v.next }
      let s := forEach s.runChans s fun s n => s.askStop n c.reason
      let s := s.linksStop.devEvent 70 [c.data]
      (s.wbStop 0xFF).irq 26
  | _ => s

/-! ### Immediate off (R455) -/

/-- Every GH and GL is low. -/
def State.allGatesLow (s : State) : State := { s with phases := s.phases.map Phase.gatesLow }

/-- A fault power-down of the board: every output low, every channel not OFF tripped, the sequencer started down and the
save that runs left unsealed (R455, R484). -/
def State.immediateOff (s : State) (src : Fin 128) : State :=
  let s := (s.allGatesLow.linkOpen 0).linkOpen 1
  let s := forEach s.runChans s fun s n => s.trip n (.fault src)
  let s := s.modSaves Saves.tear
  (s.seqDown .fault).modDev fun d => { d with boardDown := true, stopCause := none }

end Sys2Proof.Machine
end

