-- ==== Sys2Proof/Machine/FaultOps.lean ====
section
/-!
DEFINITION. The fault collector (R450 to R463): the table of sources, a raise with its severity action, the first fault.
-/
namespace Sys2Proof.Machine

/-! ### The table of R457 -/

/-- Sources that exist (R457). -/
def srcExists (k : Nat) : Bool := k ≤ 41 || (120 ≤ k && k ≤ 127)
/-- Default severity. -/
def srcDefault (k : Nat) : Nat :=
  if k ≤ 3 ∨ k = 6 ∨ k = 7 then 5
  else if k = 4 ∨ k = 8 ∨ k = 9 ∨ k = 21 ∨ k = 36 ∨ k = 37 then 4
  else if k = 20 then 3
  else 1
/-- Floor. -/
def srcFloor (k : Nat) : Nat :=
  if k ≤ 3 then 4
  else if k = 4 then 1
  else if k = 6 ∨ k = 7 then 5
  else if k = 8 ∨ k = 36 ∨ k = 37 then 4
  else if k = 9 then 2
  else if k = 20 then 3
  else if k = 21 then 1
  else 0
/-- Subject kind. -/
def srcKind (k : Nat) : Kind :=
  if k = 10 ∨ k = 13 ∨ k = 19 then .channel
  else if k = 16 ∨ k = 17 ∨ k = 18 ∨ k = 20 then .group
  else if k = 25 ∨ k = 26 ∨ k = 27 then .port
  else if k = 32 then .slot
  else .device

/-- The severity that a field acts as: 6 and 7 act as 5. -/
def sevActs (v : BitVec 3) : Nat := min v.toNat 5
def Faults.sevOf (f : Faults) (k : Fin 128) : Nat := sevActs f.sev[k]
/-- WB_SEV; 0 acts as 1. -/
def Faults.wbLevel (f : Faults) : Nat := max 1 f.wbSev.toNat

/-! ### The first fault (R459, R460) -/

/-- FLT_FIRST as a register word. -/
def FirstFault.word (f : FirstFault) : Word :=
  0x80000000#32 ||| flagAt f.injected 30 ||| at_ f.severity 27 ||| at_ (f.subject % 256) 16 ||| at_ f.kind 12 |||
    at_ f.source 0

/-- Latches a first fault, or counts an overflow; the latch is copied to the RTC domain with the time. -/
def State.latchFirst (s : State) (r : FirstFault) : State :=
  match s.flt.first with
  | some _ => s.modFlt fun f => { f with ovf := true }
  | none => (s.modFlt fun f => { f with first := some r, rtcCopy := some (r, s.logTime) }).irq 21

/-! ### A raise (R450, R451) -/

/-- The channels that S2 and S3 act on (R452). -/
def State.faultScope (s : State) (k : Nat) (subject sev : Nat) : List ChanNo :=
  match srcKind k with
  | .channel => if sev = 2 then s.runChans.filter fun n => n.val == subject
                else s.runChans.filter fun n => n.val / 16 == subject / 16
  | .group => s.runChans.filter fun n => n.val / 16 == subject
  | _ => s.runChans

/-- The severity action of a raise, each with those below it. -/
def State.faultAct (s : State) (k : Fin 128) (sev subject : Nat) (data : Word) (injected : Bool) : State :=
  let s :=
    if 1 ≤ sev then
      let s := s.modFlt fun f => { f with count := if f.count = 0xFFFF#16 then f.count else f.count + 1 }
      let s := s.latchFirst { injected := injected, severity := sev, subject := subject, kind := (srcKind k).code
                              source := k.val, data := data, beat := s.beatOrOnes }
      (s.event .faultSource k.val 17 [byte sev]).irq 22
    else s
  let s := if 2 ≤ sev then forEach (s.faultScope k.val subject sev) s fun s n => s.trip n (.fault k) else s
  let s := if (s.flt.wbLevel ≤ sev ∧ 1 ≤ sev) ∨ sev = 5 then s.wbStop k.val else s
  if sev = 4 then
    s.orderlyStop .faultS4
  else if sev = 5 then s.immediateOff k
  else s

/-- A raise of a source (R450). A source that is ACTIVE is not raised anew; a level source stays ACTIVE. The log record
of an S5 raise is written at the next start from the RTC-domain copy (R455). -/
def State.raise (s : State) (k : Fin 128) (subject : Nat) (data : Word) (level injected : Bool) : State :=
  if !srcExists k.val || s.flt.active.getLsbD k.val then s
  else
    let subject := if srcKind k.val = .device then 0xFF else subject
    let sev := s.flt.sevOf k
    let s := s.modFlt fun f =>
      { f with hit := f.hit ||| (1#128 <<< k.val)
               active := if level then f.active ||| (1#128 <<< k.val) else f.active }
    let s := if sev = 5 then s else
      s.logRec 3 k.val (leBytes 4 data.toNat ++ [byte sev, byte (srcKind k.val).code, byte subject,
        if injected then 1 else 0])
    if injected then (s.faultAct k sev subject data true).devEvent 131 [byte k.val]
    else s.faultAct k sev subject data false

/-- The condition of a level source has ended. -/
def State.unraise (s : State) (k : Fin 128) : State :=
  s.modFlt fun f => { f with active := f.active &&& ~~~(1#128 <<< k.val) }

/-- A fault event source without detail on the whole device. -/
def State.raiseDev (s : State) (k : Fin 128) (data : Word) : State := s.raise k 0xFF data false false

/-- The fault cause of a channel has ended: not ACTIVE and its FLT_HIT bit cleared (R453). -/
def Faults.cleared (f : Faults) (k : Fin 128) : Bool := !f.active.getLsbD k.val && !f.hit.getLsbD k.val

end Sys2Proof.Machine
end

