-- ==== Sys2Proof/Machine/JobInput.lean ====
section
/-!
DEFINITION. What a beat job reads (R22, R26 of spec/01_beat_and_engines.md): its sample set, the channel's configuration, and
what is captured at its release so that its result does not depend on when it runs (R27, R45, R48).
-/
namespace Sys2Proof.Machine

/-- The band state in force. -/
def Chan.band (c : Chan) : BandState := if c.tenthCur then c.tenth[1] else c.tenth[0]

/-- The sample set of a beat; none kept gives no valid sample. -/
def State.setOf (s : State) (b : Beat) : SampleSet := (s.beat.sets.find? fun x => x.beat == b).getD { SampleSet.reset with beat := b }

/-- A release of barrier `x` applies for beat `b` (R197, R330). -/
def State.released (s : State) (x : Nat) (b : Beat) : Bool := s.dom.releases.any fun r => r.id == x && r.beat == b

/-- What a job released now reads beside its half, its sample set, its frames and the channel's configuration. -/
def State.jobIn (s : State) (n : ChanNo) : JobIn :=
  let c := s.chans[n]
  { latched := (s.phasesOf n).map fun p => s.phases[p].latched
    temp := c.temp.value, tempOld := c.temp.value == -32768 || decide (2000000 < c.temp.age), zTemp := c.ep.temp
    vHist := c.estCur.vHist, govK := c.govK, deferrable := c.gClass == .deferrable && !c.paused
    wake := c.chry.toNat, stopped := c.state == .tripped || c.state == .latched, band := c.band.band }

/-- The inputs of the job of a beat on a channel, the part of JobIn as it stands now. -/
def State.jobEnv (s : State) (n : ChanNo) (b : Beat) : JobEnv :=
  let c := s.chans[n]
  let x := s.setOf b
  let r := s.recipeOf n
  let st := c.cur.step
  { toJobIn := s.jobIn n, chan := n, beat := b, cfg := c.run, base := s.phases[n].run.base, gang := s.gang n
    rsh := shuntOf s.phases[n].run
    pairs := (s.phasesOf n).map fun p => x.cur[p]
    volt := x.volt[n]
    frames := (s.lane.inputsOf b).filter fun f => f.chan == n.val
    recipe := r
    release := match r with
      | some r => (r.stepAt st.step).typ == tBARRIER && s.released (r.stepAt st.step).param1 (b + 1)
      | none => false }

end Sys2Proof.Machine
end

