-- ==== Sys2Proof/Machine/Governor.lean ====
section
/-!
DEFINITION. The power governor (R118 to R121 of spec/03_channels_setpoints.md). Its means and powers are quotients whose
rounding the spec leaves open (log entry 3).
-/
namespace Sys2Proof.Machine

/-- The uncapped target current of a channel (R118): that of its last job, or, of a step or mode that the boundary itself has
brought into force, what the mode equation gives for it. DEDUCED (log entry 66): with the means of the last completed beat. -/
def State.uncapped (s : State) (n : ChanNo) : Int :=
  let x := s.chans[n].cur
  if x.step.fresh && x.step.base == .run then
    let env := s.jobEnv n s.beat.number
    (modeOut env x.loop x.step (stepTarget env x.step).1 x.vMean true).ivc
  else x.loop.uncapped

/-- The class of a channel by the step or direct mode in force (R118). -/
def State.govClass (s : State) (n : ChanNo) : GovClass :=
  let c := s.chans[n]
  let st := c.cur.step
  -- DEDUCED (log entry 21): a paused channel counts as deferrable until the ramp of its pause has ended
  if c.paused ∧ (c.pauseRamp ∨ c.cur.loop.ramp = .stopRamp) then .deferrable
  else match c.state with
  | .run | .glide =>
      if c.cur.loop.ramp = .stopRamp then .neutral
      else
        let up := 0 < s.uncapped n
        match s.recipeOf n with
        | some r =>
            let t := (r.stepAt st.step).typ
            if isMeasuring t then .measuring
            else if (t = tCC ∨ t = tCP ∨ t = tCV ∨ t = tCCCV) ∧ up then .deferrable
            else .neutral
        | none => if (st.mode = .cc ∨ st.mode = .cp ∨ st.mode = .cv) ∧ up then .deferrable else .neutral
  | _ => .neutral

/-- The measured power of a channel in the closed period, mW. DESIGN CHOICE (log entry 66): the mean over its beats of the
products V̄ × Ī, not the product of the period's means. -/
def Chan.power (c : Chan) : Int := if c.tN = 0 then 0 else openDiv c.tP (c.tN * 1000000000)
/-- The demand of a channel, mW: its mean voltage times its uncapped target current (R119). -/
def State.demand (s : State) (n : ChanNo) : Int :=
  let c := s.chans[n]
  if c.tN = 0 then 0 else openDiv (c.tV * s.uncapped n) (c.tN * 1000000000)

/-- k_new in 1/65,536 (R119), rounded down. -/
def kNew (budget n sum : Int) : Nat :=
  if sum = 0 then 65536 else min 65536 (max 0 ((budget - n) * 65536 / sum)).toNat

/-- Which channels the loop of R119 pauses, highest number first, with what is left of s and k_new. -/
def govPauses (budget n : Int) (kmin : Nat) : List (ChanNo × Int) → Int → List ChanNo → List ChanNo × Int × Nat
  | [], sum, out => (out, sum, kNew budget n sum)
  | (c, p) :: rest, sum, out =>
      if kNew budget n sum < kmin then govPauses budget n kmin rest (sum - p) (out ++ [c])
      else (out, sum, kNew budget n sum)

/-- The event of a pause, a resume or OVER (R119, R120), with source 47. -/
def State.govEvent (s : State) (kind : Kind) (subject code : Nat) : State :=
  (s.event kind subject 8 ([byte code, 0, 0, 0] ++ leBytes 4 s.gov.k)).irq 47

/-- A pause of a channel (R120): its step interrupted, the reference to 0 at the governor rate. -/
def State.govPause (s : State) (n : ChanNo) : State :=
  let p := s.demand n
  let glideI := fld s.phases[n].run.base.glideI 0 32
  let s := s.interrupt n .governorPause false (s.beat.number - 1)
  let s := s.modChan n fun c =>
    let c := (c.laneEnd n)
    let rate := max glideI (2 * c.cur.loop.ref.natAbs)
    { (c.both fun x =>
        let x := stopHalf x n glideI .rest false
        { x with loop := if x.loop.ramp = .stopRamp then { x.loop with rate := rate } else x.loop }) with
        paused := true, pausedP := p, pauseRamp := true }
  s.govEvent .channel n.val 0

/-- The governor at a boundary that opens a tenth period (R118, R119). -/
def State.govern (s : State) : State :=
  let s := forEach s.runChans s fun s n => s.modChan n fun c => { c with gClass := s.govClass n }
  let chans := s.runChans
  let isDef := fun (n : ChanNo) => s.chans[n].gClass == .deferrable
  let n := chans.foldl (fun a c => if isDef c then a else a + s.chans[c].power) 0
  let d := chans.foldl (fun a c => a + s.chans[c].power) 0
  let defs := (chans.filter fun c => isDef c && !s.chans[c].paused).reverse.map fun c => (c, s.demand c)
  let sum := defs.foldl (fun a x => a + x.2) 0
  let s :=
    if s.gov.budget = 0xFFFFFFFF then
      s.modGov fun g => { g with k := 65536, overB := false, draw := d, nonDef := n, demand := sum }
    else
      let budget : Int := s.gov.budget.toNat
      let (pauses, left, kn) := govPauses budget n (fld s.gov.cfg 0 16) defs sum []
      let k := if kn < s.gov.k then kn else min kn (s.gov.k + 1024)
      let was := s.gov.overB
      let ovr := decide (budget < n)
      let s := s.modGov fun g => { g with k := k, overB := ovr, draw := d, nonDef := n, demand := left }
      let s := forEach pauses s State.govPause
      if ovr && !was then s.govEvent .device 0 2 else s
  forEach s.runChans s fun s n => s.modChan n fun c =>
    { c with govK := if c.gClass = .deferrable ∧ c.paused = false then s.gov.k else 65536
             pauseRamp := c.paused && c.cur.loop.ramp == .stopRamp, tP := 0, tV := 0, tN := 0 }

end Sys2Proof.Machine
end

