-- ==== Sys2Proof/Machine/HostOps.lean ====
section
/-!
DEFINITION. The rings of the host interface (R249 to R266, R284 to R290 of spec/08_host_rings.md): entries written,
completions, the start of a command, events at a boundary.
-/
namespace Sys2Proof.Machine

/-! ### Rings (R254 to R257) -/

/-- Entries of a ring. -/
def Ring.entries (r : Ring) : Nat := 2 ^ r.size
/-- Entries that the device has written and the host not consumed. -/
def Ring.used (r : Ring) : Nat := (r.dev + r.entries - r.host) % r.entries
/-- Free entries (R255). -/
def Ring.room (r : Ring) : Nat := if r.size = 0 then 0 else r.entries - 1 - r.used
/-- The device's index after one more entry; PHASE flips at the wrap (R256). -/
def Ring.advance (r : Ring) : Ring :=
  if r.dev + 1 = r.entries then { r with dev := 0, phase := !r.phase } else { r with dev := r.dev + 1 }
/-- The state in which the rings are served (R250). -/
def State.served (s : State) : Bool :=
  match s.dev.state with
  | .ready | .active | .chrysalis | .rideThrough | .orderlyStop => true
  | _ => false
/-- The device may issue memory requests (R249, R250). -/
def State.mayWrite (s : State) : Bool := s.served && s.host.bme

/-- The message of a ring after an entry (R289). -/
def Ring.counted (r : Ring) : Ring × Bool :=
  if max 1 r.modCnt ≤ r.since + 1 then ({ r with since := 0 }, true) else ({ r with since := r.since + 1 }, false)

/-! ### Writes into data buffers (R249, R265, R290) -/

/-- Max_Payload_Size in bytes. -/
def HostIf.payload (h : HostIf) : Nat := 128 * 2 ^ min 2 h.pci.mps
/-- The requests of at most `n` bytes that write `bs` at `a`. -/
def pieces (n : Nat) : Nat → Nat → List Byte → List (Nat × List Byte)
  | 0, _, _ => []
  | fuel + 1, a, bs => if bs.isEmpty then [] else (a, bs.take n) :: pieces n fuel (a + n) (bs.drop n)
/-- The write requests for a run of bytes. -/
def HostIf.requests (h : HostIf) (w : Nat × List Byte) : List (Nat × List Byte) :=
  pieces h.payload (w.2.length / h.payload + 1) w.1 w.2
/-- Sends the write requests for a run of bytes. -/
def State.sendBytes (s : State) (a : Nat) (bs : List Byte) : State :=
  (s.host.requests (a, bs)).foldl (fun s w => s.send (.hostWrite w.1 w.2)) s
/-- Data that waited for Bus Master Enable are written. -/
def State.flushData (s : State) : State :=
  if s.mayWrite then
    s.host.dataPend.foldl (fun s w => s.sendBytes w.1 w.2) (s.modHost fun h => { h with dataPend := [] })
  else s
/-- Writes data into a command's buffer, or keeps them until requests may be made. -/
def State.dmaOut (s : State) (a : Nat) (bs : List Byte) : State :=
  (s.modHost fun h => { h with dataPend := h.dataPend ++ [(a, bs)] }).flushData

/-! ### Completions (R261, R264, R265) -/

/-- Writes a CPLQ entry, then its message. -/
def State.writeCpl (s : State) (e : CplEntry) : State :=
  let r := s.host.cplq
  let flags := (if r.phase then 1 else 0) + if e.background then 2 else 0
  let bytes := leBytes 2 e.cid ++ [byte e.opcode, byte e.status] ++ leBytes 4 e.detail ++ leBytes 4 e.value ++
    leBytes 2 s.host.cmdq.dev ++ [byte flags, 0]
  let s := s.send (.hostWrite (r.base.toNat + 16 * r.dev) bytes)
  let (r, msg) := r.advance.counted
  let s := (s.modHost fun h => { h with cplq := r }).irqPriv 2 1
  if msg then s.vector 1 else s

/-- Data and completions that waited for Bus Master Enable are written, the data first (R265, R290). -/
def State.flushCpl (s : State) : State :=
  let s := s.flushData
  if s.mayWrite then
    let l := s.host.cplPend
    l.foldl State.writeCpl (s.modHost fun h => { h with cplPend := [] })
  else s

/-- A discarded completion is counted (R251, R254). -/
def HostIf.lose (h : HostIf) : HostIf := { h with cplLost := if h.cplLost = 0xFFFFFFFF then h.cplLost else h.cplLost + 1 }

/-- The completion of a running command (R261 to R265). -/
def State.complete (s : State) (id status detail value : Nat) : State :=
  match s.host.running.find? fun c => c.id == id with
  | none => s
  | some c =>
      let s := s.modHost fun h => { h with running := h.running.filter fun x => x.id != id }
      let s := if 0x10 ≤ c.opcode ∧ c.opcode ≤ 0x12 then s.modSec fun x => { x with updLast := status } else s
      if !c.reserved then s.modHost HostIf.lose
      else
        let e : CplEntry := { cid := c.cid, opcode := c.opcode, status := status, detail := detail, value := value
                              background := c.background }
        (s.modHost fun h => { h with cplPend := h.cplPend ++ [e] }).flushCpl

/-- The completion of a command that may be waited for. -/
def State.completeOpt (s : State) (id : Option Nat) (status detail value : Nat) : State :=
  match id with | some i => s.complete i status detail value | none => s

/-- The end of a command that writes its data buffer: the data, then the completion. A write that cannot be completed leaves
the bytes before the failure and ends the command DMA_ERROR (R265, R290). -/
def State.completeData (s : State) (id addr : Nat) (bs : List Byte) (cut : Option Nat) (detail value : Nat) : State :=
  match cut with
  | some n => (s.dmaOut addr (bs.take n)).complete id 5 0 0
  | none => (s.dmaOut addr bs).complete id 0 detail value

/-- A completion that reports a beat (R261). -/
def State.completeBeat (s : State) (id : Option Nat) (b : Beat) : State :=
  s.completeOpt id 0 (b.toNat % 4294967296) (b.toNat / 4294967296)

/-! ### Events (R284 to R286) -/

/-- The bytes of an EVTQ entry (R284). -/
def Event.bytes (e : Event) (phase : Bool) : List Byte :=
  leBytes 8 e.beat.toNat ++ leBytes 2 e.typ ++ [if phase then 1 else 0, byte e.kind.code] ++ leBytes 2 e.subject ++
    [0, 0] ++ leBytes 4 e.seq.toNat ++ padTo 12 e.data

/-- Writes an EVTQ entry, then its message. -/
def State.writeEvt (s : State) (e : Event) : State :=
  let r := s.host.evtq
  let s := s.send (.hostWrite (r.base.toNat + 32 * r.dev) (e.bytes r.phase))
  let (r, msg) := r.advance.counted
  let s := (s.modHost fun h => { h with evtq := r }).irqPriv 2 2
  if msg then s.vector 2 else s

/-- Held events are written while there is room; EVENTS_LOST is raised once they are, and takes its place in its own beat
(R285, R286). -/
def pumpEvents : Nat → State → State
  | 0, s => s
  | fuel + 1, s =>
      if !s.mayWrite || s.host.evtq.room == 0 then s
      else match s.host.heldEvents with
        | e :: es => pumpEvents fuel ((s.modHost fun h => { h with heldEvents := es }).writeEvt e)
        | [] =>
            if s.host.dropped = 0 then s
            else
              let t := s.devEvent 18 (leBytes 4 s.host.dropped ++ leBytes 4 s.host.dropSeq.toNat)
              t.modHost fun h => { h with dropped := 0, dropSeq := 0 }

/-- Every held event that can be written is. -/
def State.pumpEvt (s : State) : State := pumpEvents 260 s

/-- An event finds its place in the hold, or is dropped and counted (R286). -/
def HostIf.hold (h : HostIf) (e : Event) : HostIf :=
  if h.heldEvents.length < 256 then { h with heldEvents := h.heldEvents ++ [e] }
  else { h with evtLost := if h.evtLost = 0xFFFFFFFF then h.evtLost else h.evtLost + 1, dropped := h.dropped + 1
                dropSeq := if h.dropped = 0 then e.seq else h.dropSeq }

/-- The order of R285. -/
def Event.before (a b : Event) : Bool :=
  let k := fun (e : Event) => (((e.beat.toNat * 16 + e.kind.code) * 65536 + e.subject) * 256) + e.typ
  decide (k a < k b)

def insertEvent (e : Event) : List Event → List Event
  | [] => [e]
  | x :: xs => if e.before x then e :: x :: xs else x :: insertEvent e xs

/-- Events in the order of R285. -/
def sortEvents (l : List Event) : List Event := l.foldl (fun acc e => insertEvent e acc) []

/-- The events of the beats that have closed are written or held (R285). `opens` is the beat that opens. -/
def State.closeEvents (s : State) (opens : Beat) : State :=
  let due := s.host.openEvents.filter fun e => decide (e.beat < opens)
  let later := s.host.openEvents.filter fun e => !decide (e.beat < opens)
  let s := s.modHost fun h => { h with openEvents := later }
  ((sortEvents due).foldl (fun s e => ((s.modHost fun h => h.hold e).pumpEvt)) s).pumpEvt

/-- An event with a beat of its own. -/
def State.eventAt (s : State) (b : Beat) (kind : Kind) (subject typ : Nat) (data : List Byte) : State :=
  let q := s.host.evtSeq + 1
  s.modHost fun h =>
    { h with evtSeq := q
             openEvents := h.openEvents ++ [{ beat := b, kind := kind, subject := subject, typ := typ, seq := q
                                              data := padTo 12 data }] }

/-- An event that a job asked for. -/
def State.eventReq (s : State) (r : EvReq) : State := s.eventAt r.beat r.kind r.subject r.typ r.data

/-! ### The start of a command (R259 to R264) -/

/-- A descriptor as its 32 bytes spell it (R258). -/
def parseDesc (bs : List Byte) : Desc :=
  { opcode := getLe bs 0 1, flags := getLe bs 1 1, cid := getLe bs 2 2, target := getLe bs 4 2, rsv := getLe bs 6 2
    addr := getLe bs 8 8, len := getLe bs 16 4, arg0 := getLe bs 20 4, arg1 := getLe bs 24 8 }

/-- CPLQ slots that a command may still reserve (R264). -/
def HostIf.slots (h : HostIf) : Nat := h.cplq.room - (h.running.filter fun c => c.reserved).length - h.cplPend.length

/-- The front descriptor may start now: the one before it has completed or runs in the background (R262), FENCE waits for
all (R263), a completion slot is free (R264). -/
def State.canStart (s : State) : Bool :=
  match s.host.fetched with
  | [] => false
  | d :: _ =>
      s.served && s.dev.state != .orderlyStop && s.host.cplq.size != 0 && 0 < s.host.slots &&
        s.host.running.all (fun c => c.background) && (d.flags % 2 == 0 || s.host.running.isEmpty)

/-- The front descriptor starts: its slot is reserved; the state with it running, its descriptor and its identity. -/
def State.startFront (s : State) (background : Bool) : Option (State × Desc × Nat) :=
  if s.canStart then
    match s.host.fetched with
    | d :: ds =>
        let id := s.host.nextId
        some (s.modHost fun h =>
          { h with fetched := ds, nextId := id + 1
                   running := h.running ++ [{ id := id, cid := d.cid, opcode := d.opcode, background := background
                                              reserved := true, target := d.target }] }, d, id)
    | [] => none
  else none

/-- Codes of R267. -/
def opcodeKnown (c : Nat) : Bool := c ≤ 0x12

/-- Front descriptors whose OPCODE is not in R267 complete BAD_OPCODE as soon as they may start (R259). -/
def refuseUnknown : Nat → State → State
  | 0, s => s
  | fuel + 1, s =>
      match s.host.fetched with
      | d :: _ =>
          if opcodeKnown d.opcode then s
          else match s.startFront false with
            | some (s, _, id) => refuseUnknown fuel (s.complete id 1 0 0)
            | none => s
      | [] => s

/-- In ORDERLY_STOP the descriptors fetched and not started complete ABORTED, in order (R250). -/
def abortFetched : Nat → State → State
  | 0, s => s
  | fuel + 1, s =>
      match s.host.fetched with
      | d :: ds =>
          if s.host.cplq.size = 0 ∨ s.host.slots = 0 then s
          else
            let id := s.host.nextId
            let s := s.modHost fun h =>
              { h with fetched := ds, nextId := id + 1
                       running := h.running ++ [{ id := id, cid := d.cid, opcode := d.opcode, background := false
                                                  reserved := true, target := d.target }] }
            abortFetched fuel (s.complete id 9 0 0)
      | [] => s

/-- What the queue does of itself after any change (R250, R259). -/
def State.pumpCmd (s : State) : State :=
  if s.dev.state = .orderlyStop then abortFetched s.host.fetched.length s else refuseUnknown s.host.fetched.length s

end Sys2Proof.Machine
end

