-- ==== Sys2Proof/Machine/RunOps.lean ====
section
/-!
DEFINITION. What a channel does at a boundary beside its job: stops, starts and resumes that wait for it (R81, R82, R200,
R204, R272 to R274), the budget test of a new step (R39), the end of trips and latches (R57, R106, R168), the wake
(R202).
-/
namespace Sys2Proof.Machine

/-! ### Notes for the estimator (R206) -/

/-- The step that is in force is noted as started. -/
def State.noteStep (s : State) (n : ChanNo) : State :=
  let st := s.chans[n].cur.step
  match s.recipeOf n with
  | some r =>
      let x := r.stepAt st.step
      s.modChan n fun c =>
        { c with
            ep := { c.ep with stepLane := false
                              evs := c.ep.evs ++ [.stepStart st.recipe st.step x.typ x.set1 x.set2 st.stepBeat] } }
  | none => s

/-- What the last job of the channel resolved is noted: step ends, the start of the step in force, END with GRADE. -/
def State.noteJob (s : State) (n : ChanNo) : State :=
  let c := s.chans[n]
  let x := c.cur
  let calOff := !s.calTransferred n
  let ride := s.dev.state == .rideThrough
  let s := forEach x.ends s fun s e => s.modChan n fun c =>
    let c := c.note (.stepEnd { e with lane := c.ep.stepLane } c.detLapsed c.sliceSubst calOff)
    if ride then c.note .ride else c
  let s := if x.step.entered then s.noteStep n else s
  if x.step.gradeDue then
    match s.recipeNo x.step.recipe with
    | some r => s.modChan n fun c =>
        (c.note (.grade r.number r.gradeTable r.version c.detLapsed c.sliceSubst calOff x.step.anyResumed)).both
          fun y => { y with step := { y.step with gradeDue := false } }
    | none => s
  else s

/-! ### Stops -/

/-- The end of a pause by anything but a resume (R120). -/
def Chan.unpause (c : Chan) : Chan := { c with paused := false }

/-- A stop takes effect on a channel (R81, R82, R273). A channel in OFF stays in OFF; one already in the stop target is
not changed. -/
def State.stopChan (s : State) (n : ChanNo) (target : StopTarget) (reason : Reason) (forced : Bool) : State :=
  let c := s.chans[n]
  let st := c.cur.step
  let there := !st.running && c.cur.loop.ramp != .stopRamp &&
    (match target with
     | .rest => st.base == .run && st.mode == .rest
     | .chrysalis => st.base == .chrysalis
     | .off => st.base == .off
     | .hold => st.base == .hold)
  if st.base = .off ∨ there = true then s
  else
    let s := s.interrupt n reason false (s.beat.number - 1)
    let glideI := fld s.phases[n].run.base.glideI 0 32
    s.modChan n fun c =>
      { ((c.laneEnd n).both fun x => stopHalf x n glideI target forced).unpause with waking := false }

/-! ### Starts and resumes -/

/-- A step with NOTIFY or the end of a recipe reached at a boundary, as events (R287 types 1 and 2). -/
def State.landEvents (s : State) (n : ChanNo) (r : Recipe) (l : Landing) (opens : Beat) : State :=
  match l with
  | .step i _ =>
      if (r.stepAt i).flags / 2 % 2 = 1 then
        (s.eventAt opens .channel n.val 1 [byte r.number, byte i]).irq 43
      else s
  | .finish i action _ => s.eventAt opens .channel n.val 2 [byte r.number, byte i, byte action]

/-- The step state of a landing takes effect on the channel at the boundary that opens `opens`; the step counters start anew
with a step or a resume (R210). -/
def State.landAt (s : State) (n : ChanNo) (r : Recipe) (l : Landing) (opens : Beat) (resumed : Bool) : State :=
  let glideI := fld s.phases[n].run.base.glideI 0 32
  let s := s.modChan n fun c => c.both fun x =>
    let (st, stop) := land r x.step opens l
    let st := { st with edgeBeats := 0, fresh := true, entered := false, resumed := resumed
                        anyResumed := st.anyResumed || resumed }
    let zero := resumed || (match l with | .step .. => true | .finish .. => false)
    let x := { x with step := st, cnt := if zero then { x.cnt with stepQ := 0, stepE := 0 } else x.cnt }
    match stop with | some t => stopHalf x n glideI t false | none => x
  let s := s.landEvents n r l opens
  match l with
  | .step .. => s.noteStep n
  | .finish _ _ true => s.noteJob n
  | .finish .. => s

/-- Whether the recipe would fit its group's budget in the step it lands on (R39). -/
def State.landFits (s : State) (n : ChanNo) (r : Recipe) (l : Landing) (opens : Beat) : Bool :=
  match l with
  | .step .. =>
      let t := s.modChan n fun c => c.both fun x => { x with step := { (land r x.step opens l).1 with recipe := r.number } }
      t.stepFits n
  | _ => true

/-- Comparators still settle or the stop still runs: the request waits (R82, R202). -/
def State.mustWait (s : State) (n : ChanNo) : Bool :=
  s.chans[n].waking || s.chans[n].wakeDue || s.chans[n].cur.loop.ramp == .stopRamp

/-- A start at a boundary (R200). The answer: whether the request is done with. DESIGN CHOICE (log entry 73): an accepted start
takes CH_STEP_END back to NONE. -/
def State.startChan (s : State) (n : ChanNo) (k : Nat) (cmd : Option Nat) (opens : Beat) : State × Bool :=
  let c := s.chans[n]
  match s.recipeNo k with
  | none => (s.completeOpt cmd 32 0 0, true)
  | some r =>
      if c.state = .tripped ∨ c.state = .latched ∨ c.cur.step.running then (s.completeOpt cmd 33 0 0, true)
      else if c.cur.step.base = .chrysalis then (s.modChan n fun c => { c with wakeDue := true }, false)
      else if s.mustWait n then (s, false)
      else if c.cur.step.base = .off ∧ s.trayHolds n = true then (s.completeOpt cmd 33 0 0, true)
      else if c.cur.step.base = .off ∧ (s.groups[groupOf n]).gtActive then (s.completeOpt cmd 33 0 0, true)
      else
        let l := resolveStart r
        if !s.landFits n r l opens then (s.completeOpt cmd 37 0 0, true)
        else
          let s := s.modChan n fun c =>
            { (((c.laneEnd n).both fun x => { x with
                  step := { StepState.reset with base := .run, mode := .rest, recipe := r.number, gradeDue := x.step.gradeDue
                                                 holdBeats := 0 }
                  cnt := { x.cnt with runQ := 0, runE := 0 } }).note .runStart).unpause with
                detLapsed := false, sliceSubst := false, nomCharge := r.nomCharge }
          let s := s.landAt n r l opens false
          (s.completeBeat cmd opens, true)

/-- The status that R204 and R274 give a resume; 0 when nothing refuses it. -/
def State.resumeCheck (s : State) (n : ChanNo) (next : Bool) (opens : Beat) : Nat × Option (Recipe × Landing × Intr) :=
  let c := s.chans[n]
  let st := c.cur.step
  if c.state = .tripped ∨ c.state = .latched ∨ st.running ∨ st.base ≠ .run ∨ st.mode ≠ .rest then (33, none)
  else match st.intr with
  | none => (38, none)
  | some i =>
  match s.recipeNo i.recipe with
  | none => (39, none)
  | some r =>
      if r.crc ≠ i.crc then (39, none)
      else
        let l := if next then resolveChain r 9 i.stack i.step (nextIdx (r.stepAt i.step).dnext i.step)
                 else .step i.step i.stack
        if s.landFits n r l opens then (0, some (r, l, i)) else (37, none)

/-- A resume at a boundary (R204). DESIGN CHOICE (log entry 73): an accepted resume discards the interruption record. -/
def State.resumeChan (s : State) (n : ChanNo) (next : Bool) (cmd : Option Nat) (opens : Beat) : State × Bool :=
  if s.chans[n].cur.step.base = .chrysalis then (s.modChan n fun c => { c with wakeDue := true }, false)
  else if s.mustWait n then (s, false)
  else
    match s.resumeCheck n next opens with
    | (0, some (r, l, _)) =>
        let was := s.chans[n].paused
        let s := s.modChan n fun c =>
          { (c.both fun x => { x with step := { x.step with recipe := r.number, intr := none } }).unpause with
              nomCharge := r.nomCharge }
        let s := s.landAt n r l opens true
        let s := if was then s.govEvent .channel n.val 1 else s
        (s.completeBeat cmd opens, true)
    | (code, _) => (s.completeOpt cmd code 0 0, true)

/-! ### Requests at a boundary (R122) -/

/-- One request of a channel; those that still wait stay queued. -/
def State.doRequest (s : State) (n : ChanNo) (e : ReqEntry) (opens : Beat) : State :=
  let keep := fun (p : State × Bool) => if p.2 then p.1 else p.1.modChan n fun c => { c with requests := c.requests ++ [e] }
  match e.req with
  | .stop target reason forced =>
      let st := s.chans[n].state
      if st = .tripped ∨ st = .latched then s.completeOpt e.cmd 33 0 0
      else (s.stopChan n target reason forced).completeBeat e.cmd opens
  | .start k => keep (s.startChan n k e.cmd opens)
  | .resume next _ => keep (s.resumeChan n next e.cmd opens)

/-- A request of a device power event, which goes before every other (R4). -/
def ReqEntry.power (e : ReqEntry) : Bool := match e.req with | .stop _ _ true => true | _ => false

/-- Every request of a channel that the boundary may take up (R24): those of device power events first (R4), the others in their order (R122). -/
def State.doRequests (s : State) (n : ChanNo) (opens : Beat) : State :=
  let ready := fun (e : ReqEntry) => decide (e.due ≤ opens)
  let l := s.chans[n].requests.filter ready
  let l := l.filter ReqEntry.power ++ l.filter fun e => !e.power
  forEach l (s.modChan n fun c => { c with requests := c.requests.filter fun e => !ready e }) fun s e => s.doRequest n e opens

/-! ### The end of trips and latches -/

/-- A trip cause has ended under its own rule (R168, R170, R134, R453). -/
def State.causeOver (s : State) (c : TripCause) : Bool :=
  match c with
  | .window pos w | .groupWindow pos w =>
      let x := s.cmpOf pos
      let out := match w with | .current => x.holdI | .vtrip => x.holdV | .vwarn => x.holdW
      out && !x.inWin w && !(s.groups[groupOf pos]).dacFailed (pos.val % 16) w
  | .fault k => s.flt.cleared k
  | .unserved pos voltage =>
      let g := s.groups[groupOf pos]
      (if voltage then g.mapV[(⟨pos.val % 16, by omega⟩ : Fin 16)] else g.mapI[(⟨pos.val % 16, by omega⟩ : Fin 16)]) != 0x1F

/-- A context written afresh (R57): counters kept where a half can still be read. -/
def freshContext (c : Chan) : Context :=
  let cnt := if !c.cur.bad then c.cur.cnt else if !c.nxt.bad then c.nxt.cnt else Counters.reset
  let st := c.cur.step
  { Context.reset with cnt := cnt
                       step := { StepState.reset with base := .run, mode := .rest, recipe := st.recipe, intr := st.intr
                                                      endStep := st.endStep, endNext := st.endNext, endCause := st.endCause } }

/-- The channel leaves TRIPPED or LATCHED where every cause has ended (R57, R106, R168); `busy` says that a catch-up job of
the channel is outstanding. -/
def State.tripEnd (s : State) (n : ChanNo) (busy : Bool) (opens : Beat) : State :=
  let c := s.chans[n]
  let left := c.trips.filter fun t => !s.causeOver t
  let ctx := c.ctxTrip && (s.flt.hit.getLsbD 10 || busy)
  let ovr := c.ovrTrip && (s.flt.hit.getLsbD 13 || busy)
  let fresh := (c.ctxTrip && !ctx) || (c.ovrTrip && !ovr)
  let free := left.isEmpty && !ctx && !ovr
  let release := match c.releaseDue with | some b => decide (b ≤ opens) | none => false
  let s := s.modChan n fun c =>
    { c with latched := c.latched && !release, releaseDue := if release then none else c.releaseDue, trips := left
             ctxTrip := if free then false else c.ctxTrip, ovrTrip := if free then false else c.ovrTrip }
  if fresh && free then s.modChan n fun c => { c with halves := Vector.replicate 2 (freshContext c) } else s

/-! ### The wake (R202) -/

/-- Every comparator of a channel has settled in its run mode. -/
def State.settledCmp (s : State) (n : ChanNo) : Bool := (s.phasesOf n).all fun p => !(s.cmpOf p).settling

/-- The two parts of a wake at a boundary: out of CHRYSALIS to RUN in mode REST, then free to switch. -/
def State.wakeAt (s : State) (n : ChanNo) (opens : Beat) : State :=
  let c := s.chans[n]
  if c.waking ∧ s.settledCmp n = true ∧ c.wakeDue = false then
    s.modChan n fun c =>
      { (c.both fun x => match x.step.after with
          | .mode m => { x with step := directStep x.step m opens }
          | .none => x) with waking := false }
  else if (c.wakeDue || c.cur.step.wakeReq) && c.cur.step.base == .chrysalis then
    s.modChan n fun c =>
      { (c.both fun x => { x with step := { x.step with base := .run, mode := .rest, wakeReq := false, wakeCount := 0 } }) with
          wakeDue := false, waking := true }
  else s.modChan n fun c => { c with wakeDue := false }

end Sys2Proof.Machine
end

