-- ==== Sys2Proof/Machine/Boundary.lean ====
section
/-!
DEFINITION. The boundary sequence for channels and phases (R28 to R30 of spec/01_beat_and_engines.md): what a beat job
reads, how a channel commits, how codes reach the phases (R65, R66, R72, R77), slow results (R27), sums for the slow jobs.
-/
namespace Sys2Proof.Machine

/-! ### Shares after the active set has changed at a boundary (R76, R85, R91) -/

/-- The output of a loop state over its carrying phases, trims as they are but for a share whose sign has changed (R102). -/
def reshare (env : JobEnv) (l : LoopState) : LoopState × OutRec :=
  let carrying := carryingOf env l
  let lim : Int := (chanFs (countB carrying) env.rsh : Nat)
  let iref := clampInt (-lim) lim l.ref
  let shares := sharesOf iref carrying l.half
  let l := { l with
    ref := iref
    trims := (List.range env.gang).map fun k => if signFlips (getI shares k) (getI l.signs k) then 0 else getI l.trims k
    signs := (List.range env.gang).map fun k => signAfter (getI shares k) (getI l.signs k) }
  (l, shedOut env l (encode env l shares (activeList env.gang l.tucked env.latched) true))

/-- A shed starts (R84, R85): the highest active phase carries half its share. -/
def shedStart (gang : Nat) (latched : List Bool) (l : LoopState) : LoopState :=
  let active := activeList gang l.tucked latched
  let k := ((List.range gang).filter fun i => getB active i).getLastD 0
  { l with tuck := .shed1, shed := k, shedOff := false, half := (List.range gang).map fun i => i == k }

/-- The shedding phase has stopped (R88): it is tucked. -/
def shedEnd (gang : Nat) (l : LoopState) : LoopState :=
  { l with tuck := .steady, half := [], shedOff := false
           tucked := (List.range gang).map fun k => getB l.tucked k || k == l.shed }

/-- Phases cleared in a switching channel rejoin with half their share (R93). -/
def rejoinStart (gang : Nat) (rejoin : List Bool) (l : LoopState) : LoopState :=
  { l with tuck := .readd1, half := (List.range gang).map fun i => getB rejoin i || getB l.half i
           tucked := (List.range gang).map fun i => getB l.tucked i && !getB rejoin i }

/-- The current half after sheds, rejoins and latches of the beat. `shed` says that a shed starts at this boundary, which a
suspension forbids (R87); a shedding phase that has stopped is tucked from here on (R88), and the slots follow (R78). -/
def State.retuck (s : State) (n : ChanNo) (shed : Bool) (b : Beat) : State :=
  let ps := s.phasesOf n
  let x := s.chans[n].cur
  let l := x.loop
  let switching := countB x.out.enable ≠ 0 ∧ l.ramp ≠ .zero
  let due := fun (q : Phase) => match q.rejoin with | some x => decide (x ≤ b + 1) | none => false
  let rejoin := ps.map fun p => due s.phases[p]
  let latchNow := ps.any fun p => s.phases[p].latchNow
  let stopped := l.tuck == .shed2 && l.shedOff && ps.any fun p => p.val == n.val + l.shed && !s.phases[p].switching
  let m := countB (activeList (s.gang n) l.tucked (ps.map fun p => s.phases[p].latched))
  let canShed := shed && l.tuck == .steady && !l.tuckSusp && decide (tuckMin s.phases[n].run.base < m)
  let anyRejoin := rejoin.any id
  let s := forEach ps s fun s p => s.modPhase p fun q => { q with rejoin := if due q then none else q.rejoin }
  if !switching ∨ !(canShed || anyRejoin || latchNow || stopped) then s
  else
    let env := s.jobEnv n b
    let l := if stopped then shedEnd env.gang l else l
    let l := if anyRejoin then rejoinStart env.gang rejoin l
             else if canShed then shedStart env.gang env.latched l else l
    let (l, o) := reshare env l
    s.modChan n fun c => c.setCur { c.cur with loop := l, out := o, zSmall := if anyRejoin then 5 else if canShed then 4
                                                                              else c.cur.zSmall }

/-! ### Codes to the phases (R28, R65, R66, R72, R77) -/

/-- The band lock state at a start of switching (R72). -/
def startBand (b : BaseCfg) (first : Bool) (x : BandState) : BandState :=
  if fTarget b = 0 then { x with band := bandMin b }
  else if first then { x with band := (bandMin b + bandMax b) / 2, pf := 0, nolock := 0, locked := 0 }
  else { x with pf := 0 }

/-- A phase takes the code, the channel's one band code (R71), the enable and the slot of a boundary. A phase that starts in
low-cell mode is ready to raise GH at once (R65). DESIGN CHOICE (log entry 63): a start that meets a phase whose stop still
runs cancels the stop, and the phase goes on switching. -/
def Phase.latchOut (p : Phase) (code : Int) (sat en : Bool) (band slot : Nat) (lowcell : Bool) : Phase :=
  let p := { p with setpt := BitVec.ofInt 16 code, sat := sat, slot := slot, enabled := en, band := BitVec.ofNat 10 band }
  if en && !p.switching then
    let p := { p.gatesLow with switching := true, period := 0, riseAt := none }
    if lowcell then { p with riseReady := true } else p.setGates false true
  else
    let p := if lowcell && (p.gl || p.dead == .hl) then { p.setGates p.gh false with dead := .none } else p
    { p with stopping := p.switching && !en }

/-- The output record of the current half with what the boundary itself knows (R25): the band code in force. -/
def Chan.fillOut (c : Chan) (gang : Nat) : Chan :=
  c.setCur { c.cur with out := { c.cur.out with bands := List.replicate gang c.band.band } }

/-- An open impedance record that no further job follows ends (R223, R224). -/
def endZ (x : Context) : Context :=
  { x with openZ := none, doneZ := x.doneZ ++ (x.openZ.map fun z => { z with done := true }).toList }

/-- The output in force of a channel reaches its phases. A channel that has come to OFF by a stop first runs the beat of R66
at code 0; the next boundary then stops its phases. -/
def State.latchChan (s : State) (n : ChanNo) (opens : Beat) : State :=
  let c := s.chans[n]
  let st := c.state
  let go := st != .tripped && st != .latched
  let o := c.cur.out
  let ps := s.phasesOf n
  let en := fun (p : PhaseNo) => go && getB o.enable (p.val - n.val) && !s.phases[p].latched
  let starts := c.cur.loop.startDue && ps.any en
  let s := s.modChan n fun c =>
    let c := if starts then { c.setBand (startBand s.phases[n].run.base c.firstStart) with firstStart := false, bandStart := true }
             else c
    let c := c.setCur { c.cur with loop := { c.cur.loop with startDue := c.cur.loop.startDue && !starts } }
    c.fillOut (s.gang n)
  let o := s.chans[n].cur.out
  let low := s.chans[n].cur.loop.lowcell
  let s := forEach ps s fun s p =>
    let k := p.val - n.val
    s.modPhase p fun q =>
      q.latchOut (if go then getI o.codes k else 0) (getB o.sat k) (en p) (o.bands.getD k 0) (o.slots.getD k 0) low
  let s := forEach ps s fun s p => s.tryRise p (opens.toNat % 10 * 400)
  if st = .off then s.modChan n fun c => c.both fun x => endZ { x with out := idleOut (s.gang n) } else s

/-! ### A channel commits at a boundary (R28) -/

/-- The half that the job of the closing beat wrote becomes current; after a trip in the beat its step state and loop are
discarded (R205, R82), and `acks` answer the beat's frames. -/
def Chan.flip (c : Chan) (closed : Beat) (acks : List Ack) : Chan :=
  let old := c.cur
  let c' := { c with curHalf := closed.toNat % 2 == 1 }
  if c.tripNow then
    let x := c'.cur
    c'.setCur { x with step := { old.step with wakeReq := false, entered := false }, loop := old.loop
                       out := idleOut x.out.codes.length, acks := old.acks ++ acks, ends := []
                       evs := x.evs.filter fun e => e.typ != 1 && e.typ != 2 }
  else c'

/-- The answers to the frames of a beat in which the channel has tripped or latched: those of R111 in that state. DEDUCED (log
entry 61): no transition of theirs is ever latched, so none is ACCEPTED. -/
def State.tripAcks (s : State) (n : ChanNo) (closed : Beat) : List Ack :=
  let env := s.jobEnv n closed
  let frames := (s.lane.inputs.filter fun f => decide (f.1 ≤ closed) && f.2.chan == n.val).map Prod.snd
  (laneAct { env with stopped := true, frames := frames } { s.chans[n].cur with acks := [] }).acks

/-- An output clamped to new current limits (R29). -/
def clampOut (env : JobEnv) (x : Context) : Context :=
  let lo := sword env.cfg.ilimLo
  let hi := sword env.cfg.ilimHi
  let r := clampInt lo hi x.loop.ref
  if r = x.loop.ref ∨ x.loop.ramp = .zero then x
  else
    let (l, o) := reshare env { x.loop with ref := r }
    { x with loop := l, out := o }

/-- The acknowledgements that a channel's half carries; they leave with the boundary. -/
def State.takeAcks (s : State) (n : ChanNo) : State × List Ack :=
  let acks := s.chans[n].cur.acks
  (s.modChan n fun c => c.both fun x => { x with acks := [] }, acks)

/-- Sums for the slow jobs and the governor (R70, R84, R118, R229, R235): the means in the half `x` that the job of the closed
beat wrote, the state and the lane target in force in that beat in the half `old` that it read. -/
def Chan.beatSums (c : Chan) (old x : Context) (closed : Beat) (fs : Nat) : Chan :=
  let quiet := match c.state with
    | .tripped | .latched => false
    | _ => old.step.base == .hold || (old.step.base == .run && old.step.mode == .rest && old.loop.ramp == .zero)
  let rest := quiet && decide (x.iMean.natAbs * 1000 ≤ fs)
  let e := c.ep
  { c with
    tP := c.tP + x.vMean * x.iMean, tV := c.tV + x.vMean, tN := c.tN + 1
    ep := { e with rest := if rest then some (e.rest.getD closed) else none
                   n := e.n + 1, iSum := e.iSum + x.iMean
                   iMin := if e.n = 0 then x.iMean else min e.iMin x.iMean
                   iMax := if e.n = 0 then x.iMean else max e.iMax x.iMean
                   stepLane := e.stepLane || old.loop.lane.isSome } }

/-- A completed impedance record waits for the milli job (R224). -/
def closeZ (x : Context) : Context :=
  match x.openZ with
  | some z => if z.done then { x with openZ := none, doneZ := x.doneZ ++ [z] } else x
  | none => x

/-- The group of a channel cannot afford the step that its job entered (R39). -/
def State.overBudget (s : State) (n : ChanNo) : Bool := s.chans[n].cur.step.entered && !s.stepFits n

/-- The event is the START of a step (R287 type 1). -/
def EvReq.isStart (e : EvReq) : Bool := e.typ == 1 && e.data.getD 2 0 == 0

/-- What a job resolved reaches the events and the estimator; of a step that is refused, its start does not (R39). -/
def State.jobEvents (s : State) (n : ChanNo) (refused : Bool) : State :=
  let s := forEach s.chans[n].cur.evs s fun s e =>
    if refused && e.isStart then s
    else
      let s := s.eventReq e
      if e.typ = 1 then s.irq 43 else s
  let s := if refused then s.modChan n fun c => c.both fun x => { x with step := { x.step with entered := false } } else s
  s.noteJob n

/-- A step that its group cannot afford is refused (R39): the channel goes to REST and the recipe stops with the step not
started. Nothing of the refused step reaches the output: the ordinary stop takes the place of its first job. -/
def State.budgetTest (s : State) (n : ChanNo) (refused : Bool) (closed : Beat) : State :=
  if refused = false then s
  else
    let glideI := fld s.phases[n].run.base.glideI 0 32
    let s := s.interrupt n .stepOverBudget true closed
    let c := s.chans[n].laneEnd n
    let old := c.nxt
    let h := stopHalf { old with step := c.cur.step, loop := { old.loop with lane := none } } n glideI .rest false
    let y := jobStep { s.jobEnv n closed with recipe := none, frames := [] } h
    s.modChan n fun _ => c.both fun x => { x with loop := y.loop, out := y.out, step := y.step }

/-- The commit of one channel at the boundary that opens `opens`, its jobs DONE: `ran` says that a beat job ran in the
closing beat, `shed` that a shed starts. Acknowledgements are collected. -/
def State.commitChan (s : State) (acks : List Ack) (n : ChanNo) (ran shed : Bool) (opens : Beat) : State × List Ack :=
  let closed := opens - 1
  let wasTuck := s.chans[n].cur.loop.tuck
  let s := if ran then
      let acks := if s.chans[n].tripNow then s.tripAcks n closed else []
      s.modChan n fun c =>
        let c := c.flip closed acks
        (c.setCur (closeZ c.cur)).beatSums c.nxt c.cur closed (chanFs (s.gang n) (shuntOf s.phases[n].run))
    else s
  let refused := ran && s.overBudget n
  let s := if ran then s.jobEvents n refused else s
  let s := s.modChan n fun c => { c with held := false, tripNow := false }
  let s := s.wakeAt n opens
  let s := s.budgetTest n refused closed
  let runWas := s.chans[n].run
  let s := s.commitDue n opens
  let s := if s.chans[n].run == runWas then s else
      let env := s.jobEnv n closed
      s.modChan n fun c => c.setCur (clampOut env c.cur)
  let s := s.tripEnd n false opens
  let s := s.doRequests n opens
  let s := s.retuck n shed closed
  let readd := wasTuck != .readd1 && s.chans[n].cur.loop.tuck == .readd1
  let s := s.modChan n fun c => c.both fun x =>
    { x with evs := [], ends := [], zSmall := if readd then 5 else x.zSmall
             step := { x.step with entered := false, wakeReq := false } }
  let (s, a) := s.takeAcks n
  let s := s.latchChan n opens
  (forEach (s.phasesOf n) s fun s p => s.modPhase p fun q => { q with latchNow := false, clearedNow := false }, acks ++ a)

/-- A channel that is held at a boundary (R28, R50): nothing of it changes. -/
def State.holdChan (s : State) (n : ChanNo) : State := s.modChan n fun c => { c with held := true }

/-! ### Means over the milli period (R150) and phase figures of every beat -/

/-- A configured channel in OFF has no job, and its slices keep sampling: the means of CH_MEAS_I and CH_MEAS_V (R31, R124; log
entry 65). -/
def idleMeans (env : JobEnv) (x : Context) : Context := { x with iMean := chanMean env, vMean := voltMean env.volt }

/-- Every phase and channel takes the figures of the sample set of the beat that closes. -/
def State.beatFigures (s : State) (closed : Beat) : State :=
  let x := s.setOf closed
  let phases := Vector.ofFn fun p =>
    let q := s.phases[p]
    let rsh := shuntOf q.run
    let i := if rsh = 0 then 0 else phaseMean x.cur[p] rsh
    let sb := if q.switching then q.switchBeats + 1 else q.switchBeats
    let sum := fun (z : Pair) => (if z.validA then z.a else 0) + (if z.validB then z.b else 0)
    let cnt := fun (z : Pair) => (if z.validA then 1 else 0) + (if z.validB then 1 else 0)
    let one := fun (ok : Bool) (v : Int) => if ok ∧ rsh ≠ 0 then [sampleI v rsh] else []
    let is := one x.cur[p].validA x.cur[p].a ++ one x.cur[p].validB x.cur[p].b
    { q with iMean := i
             mI := q.mI + sum x.cur[p], mIn := q.mIn + cnt x.cur[p], mV := q.mV + sum x.volt[p]
             mVn := q.mVn + cnt x.volt[p]
             switchBeats := if 1000000 ≤ sb then 0 else sb
             life := { q.life with peakPos := is.foldl max q.life.peakPos, peakNeg := is.foldl min q.life.peakNeg
                                   throughput := q.life.throughput + i.natAbs
                                   switchSec := if 1000000 ≤ sb then q.life.switchSec + 1 else q.life.switchSec } }
  let chans := Vector.ofFn fun n =>
    let c := s.chans[n]
    if s.isRun n && c.cur.step.base == .off then c.both (idleMeans (s.jobEnv n closed)) else c
  { s with phases := phases, chans := chans }

/-! ### Slow periods (R27, R49) -/

/-- The tenth-beat result of a closed period becomes current, or a copy of the one in force does, so that the other area is
free (R28, R49). `done` says that the job is DONE; `half` is the area of its period. What the period itself has done to the
lock in force, a start of switching (R72) or the latch of the lock phase (R91), prevails over a result computed from before. -/
def Chan.takeTenth (c : Chan) (done half : Bool) : Chan :=
  let keep := { c.band with shedNow := false }
  let new := if half then c.tenth[1] else c.tenth[0]
  let new := if done = false then keep
    else if c.bandStart then { keep with shedNow := new.shedNow, qual := new.qual }
    else if c.pfZero then { new with pf := 0 } else new
  { c with tenth := if half then c.tenth.set 1 new else c.tenth.set 0 new, tenthCur := half, bandStart := false, pfZero := false }

/-- The figures of the phases frozen at a boundary that opens a tenth period, before anything that the boundary starts (R70). -/
def State.freezePhases (s : State) : State :=
  { s with phases := s.phases.map fun q =>
    { q with edges := q.edgesNow, span := if q.edgesNow = 0 then 0 else min 0xFFFF (q.lastEdge - q.firstEdge)
             minTime := q.minTimeNow, edgesNow := 0, minTimeNow := false, riseAt := q.riseAt.map fun r => r - 4000 } }

/-- What the tenth-beat job of the period that opens reads (R27). -/
def State.tenthIn (s : State) (n : ChanNo) : TenthIn :=
  let c := s.chans[n]
  let x := c.cur
  let (edges, span) := match s.lockPhase n with | some l => (s.phases[l].edges, s.phases[l].span) | none => (0, 0)
  { base := s.phases[n].run.base, gang := s.gang n, rsh := shuntOf s.phases[n].run
    latched := (s.phasesOf n).map fun p => s.phases[p].latched
    tucked := x.loop.tucked, steady := x.loop.tuck == .steady
    suspended := x.loop.tuckBreak || x.loop.tuckSusp || x.loop.ramp == .zero || x.step.base != .run
    maxAbs := x.loop.maxAbs, switching := (s.phasesOf n).any fun p => s.phases[p].switching
    edges := edges, span := span, band := c.band }

/-- A channel's freeze at the boundary that opens a tenth period (R27); its sums and marks start anew. -/
def Chan.freezeTenth (c : Chan) (t : TenthIn) : Chan :=
  let c := { c with tin := t, bandStart := false, pfZero := false }
  c.setCur { c.cur with loop := { c.cur.loop with maxAbs := 0, tuckBreak := false } }

/-- The freeze of the channels at a boundary that opens a tenth period (R27). -/
def State.freezeTenth (s : State) : State :=
  { s with chans := Vector.ofFn fun n => if s.isRun n then (s.chans[n]).freezeTenth (s.tenthIn n) else s.chans[n] }

/-- A milli result takes effect (R207): its events, its interrupts, the charge since the reference, cross-checks. -/
def State.takeMilli (s : State) (n : ChanNo) : State :=
  let e := s.chans[n].estNext
  let s := s.modChan n fun c =>
    let c := { c with estCur := { e with posts := [], irqs := [], xAsk := [] } }
    c.both fun x =>
      { x with cnt := { x.cnt with refQ := if e.zeroQ then 0 else x.cnt.refQ
                                   through := if e.zeroThrough then 0 else x.cnt.through } }
  let s := forEach e.posts s fun s r => s.event r.kind r.subject r.typ r.data
  let s := forEach e.irqs s State.irq
  s.modMet fun m => { m with checks := m.checks ++ e.xAsk.map fun p => (n, p) }

/-- The metrology averages of a position in register units (R126, R150): µV, and µA of the phase. -/
def Phase.avgV (q : Phase) : Int := if q.avVn = 0 then 0 else divRound q.avV (256 * q.avVn)
def Phase.avgI (q : Phase) : Int :=
  let r := shuntOf q.run
  if q.avIn = 0 ∨ r = 0 then 0 else divRound (q.avI * 1000000) (256 * q.avIn * r)

/-- The estimator registers that a boundary finds (R24). -/
def Chan.estRegs (c : Chan) (opens : Beat) : LateEst :=
  let now : LateEst := { due := opens, cfg := c.estCfg, learnT := c.learnT, learnRate := c.learnRate }
  match c.estLate with | some l => if opens < l.due then l else now | none => now

/-- The freeze at a boundary that opens a milli period (R27, R150); FORGET acts here (R214) and CH_EST_CFG takes effect. -/
def State.freezeMilli (s : State) (opens : Beat) : State :=
  let phases := s.phases.map fun (q : Phase) =>
    { q with avI := q.mI, avIn := q.mIn, avV := q.mV, avVn := q.mVn, mI := 0, mIn := 0, mV := 0, mVn := 0 }
  let s : State := { s with phases := phases }
  let chans := Vector.ofFn fun n =>
    let c := s.chans[n]
    if !s.isRun n then { c with milliIn := MilliIn.reset }
    else
      let vm := s.phases[n].avgV
      let im := (s.phasesOf n).foldl (fun a p => a + s.phases[p].avgI) 0
      let old := c.temp.value == -32768 || decide (2000000 < c.temp.age)
      let est := match c.estCur.forget with
        | some b => if b ≤ opens then c.estCur.cleared else c.estCur
        | none => c.estCur
      let regs := c.estRegs opens
      let c := { c with frozenM := c.cur, vm := vm, im := im, epFrozen := c.ep
                        estCur := est, estCfgRun := regs.cfg
                        milliIn := { fs := s.gang n * 100000000000, rsh := shuntOf s.phases[n].run, nom := c.nomCharge
                                     learnT := regs.learnT, learnRate := regs.learnRate, phases := s.phasesOf n }
                        ep := { EstPeriod.reset with temp := c.temp.value, tempOld := old, rest := c.ep.rest
                                                     stepLane := c.ep.stepLane } }
      c.both fun x => { x with doneZ := [] }
  { s with chans := chans }

/-- What the milli job of a channel reads. -/
def State.estIn (s : State) (n : ChanNo) (first : Beat) : EstIn :=
  let c := s.chans[n]
  let t := fld c.estCfgRun 8 3
  { chan := n, first := first, vm := c.vm, im := c.im, per := c.epFrozen, cnt := c.frozenM.cnt, doneZ := c.frozenM.doneZ
    fs := c.milliIn.fs, rsh := c.milliIn.rsh, nom := c.milliIn.nom, cfg := c.estCfgRun, learnT := c.milliIn.learnT
    learnRate := c.milliIn.learnRate, phases := c.milliIn.phases
    ocv := match finOf 4 t with | some k => s.store.ocv[k] | none => none
    grades := fun k => match finOf 16 k with | some k => s.store.gradeRun[k] | none => none }

/-! ### The tenth-beat job (R71, R72, R84) -/

/-- The shed condition of R84. -/
def shedTest (t : TenthIn) (x : BandState) : BandState :=
  let m := countB (activeList t.gang t.tucked t.latched)
  let ok := tuckTh t.base ≠ 0 ∧ tuckMin t.base < m ∧ t.suspended = false ∧ t.steady = true ∧
    t.maxAbs.natAbs * 1024 * t.rsh < tuckTh t.base * (m - 1) * 100000000000
  if ok then (if 50 ≤ x.qual + 1 then { x with qual := 0, shedNow := true } else { x with qual := x.qual + 1, shedNow := false })
  else { x with qual := 0, shedNow := false }

/-- The band procedure of R71 with the lock count of R72. DEDUCED (log entry 21): a period of fewer than two edges does
not end inside the dead band. -/
def bandTest (b : BaseCfg) (switching : Bool) (edges span : Nat) (x : BandState) : BandState :=
  if fTarget b = 0 then { x with band := bandMin b, flLimit := false, locked := 0 }
  else
    let tt := 400000 / fTarget b
    if !switching then x
    else if edges < 2 then
      (if 8 ≤ x.nolock + 1 then
         { x with band := max (bandMin b) (x.band - max 1 (x.band / 8)), nolock := 0, locked := 0 }
       else { x with nolock := x.nolock + 1, locked := 0 })
    else
      let p : Int := (span / (edges - 1) : Nat)
      let pf := if x.pf = 0 then p else x.pf + divZero (p - x.pf) 4
      let x := { x with nolock := 0, pf := pf }
      if (pf - tt).natAbs ≤ tt / 64 then { x with locked := satInc 8 x.locked }
      else
        let band : Int := x.band
        let new := divZero (band * tt + divZero pf 2) (max pf 1)
        let step := max 1 (x.band / 8 : Nat)
        let new := min (band + step) (max (band - step) new)
        let new := if new = band then (if pf < tt then band + 1 else band - 1) else new
        { x with flLimit := decide (new < bandMin b) || decide ((bandMax b : Int) < new), locked := 0
                 band := (min (bandMax b : Int) (max (bandMin b : Int) new)).toNat }

/-- The tenth-beat job of a channel, on what was frozen at the boundary that opened its period. -/
def State.tenthJob (s : State) (n : ChanNo) (half : Bool) : State :=
  s.modChan n fun c =>
    let t := c.tin
    let x := shedTest t (bandTest t.base t.switching t.edges t.span t.band)
    { c with tenth := if half then c.tenth.set 1 x else c.tenth.set 0 x }

end Sys2Proof.Machine
end

