-- ==== Sys2Proof/Machine/Sha.lean ====
section
/-!
DEFINITION. SHA-256 and HMAC-SHA-256, which spec/10 R331, spec/16 R486, R493, R497 and R506 name by their names.
-/
namespace Sys2Proof.Machine

/-- The sum modulo 2 of a word rotated right by each of `r`, and of the word shifted right by `sh` where that is not 0. -/
def shaMix (w : Word) (r : List Nat) (sh : Nat) : Word :=
  (r.map fun n => w.rotateRight n).foldl (· ^^^ ·) (if sh = 0 then 0 else w >>> sh)

/-- The round constants, constant `i` in bits 32 i to 32 i + 31 of one number. -/
def shaConst (i : Nat) : Word := BitVec.ofNat 32 (shaConsts / 2 ^ (32 * i))
where
  shaConsts : Nat :=
    0xc67178f2bef9a3f7a4506ceb90befffa8cc7020884c8781478a5636f748f82ee682e6ff35b9cca4f4ed8aa4a391c0cb334b0bcb52748774c1e376c0819a4c116106aa070f40e3585d6990624d192e819c76c51a3c24b8b70a81a664ba2bfe8a192722c8581c2c92e766a0abb650a735453380d134d2c6dfc2e1b213827b70a851429296706ca6351d5a79147c6e00bf3bf597fc7b00327c8a831c66d983e515276f988da5cb0a9dc4a7484aa2de92c6f240ca1cc0fc19dc6efbe4786e49b69c1c19bf1749bdc06a780deb1fe72be5d74550c7dc3243185be12835b01d807aa98ab1c5ed5923f82a459f111f13956c25be9b5dba5b5c0fbcf71374491428a2f98

/-- The eight working words before the first block, word `i` in bits 32 i to 32 i + 31. -/
def shaInit : List Word :=
  (List.range 8).map fun i => BitVec.ofNat 32 (0x5be0cd191f83d9ab9b05688c510e527fa54ff53a3c6ef372bb67ae856a09e667 / 2 ^ (32 * i))

/-- `n` more words of the message schedule, which stands newest word first. -/
def shaSchedule : Nat → List Word → List Word
  | 0, w => w
  | n + 1, w =>
      let back := fun (k : Nat) => w.getD (k - 1) 0
      shaSchedule n ((shaMix (back 2) [17, 19] 10 + back 7 + shaMix (back 15) [7, 18] 3 + back 16) :: w)

/-- One round on the working words, first to eighth. -/
def shaStep (x : List Word) (addend : Word) : List Word :=
  let v := fun (i : Nat) => x.getD i 0
  let choice := v 6 ^^^ (v 4 &&& (v 5 ^^^ v 6))
  let major := (v 0 &&& (v 1 ||| v 2)) ||| (v 1 &&& v 2)
  let t := addend + v 7 + choice + shaMix (v 4) [6, 11, 25] 0
  (t + major + shaMix (v 0) [2, 13, 22] 0) :: ((x.take 7).set 3 (v 3 + t))

/-- A big-endian word of four bytes. -/
def beWord (bs : List Byte) (off : Nat) : Word := BitVec.ofNat 32 (leNat (slice bs off 4).reverse)

/-- One block of 64 bytes. -/
def shaBlock (x : List Word) (block : List Byte) : List Word :=
  let w := (shaSchedule 48 ((List.range 16).reverse.map fun i => beWord block (4 * i))).reverse
  let y := (List.range 64).foldl (fun y i => shaStep y (shaConst i + w.getD i 0)) x
  (x.zip y).map fun (a, b) => a + b

/-- The blocks of a padded message. -/
def shaBlocks : Nat → List Word → List Byte → List Word
  | 0, x, _ => x
  | n + 1, x, bs => shaBlocks n (shaBlock x (bs.take 64)) (bs.drop 64)

/-- The 32 bytes of the SHA-256 digest. -/
def sha256 (bs : List Byte) : List Byte :=
  let n := bs.length
  let zeros := (119 - n % 64) % 64
  let msg := bs ++ [0x80#8] ++ List.replicate zeros 0 ++ (leBytes 8 (8 * n)).reverse
  (shaBlocks (msg.length / 64) shaInit msg).flatMap fun w => (leBytes 4 w.toNat).reverse

/-- HMAC-SHA-256. -/
def hmacSha256 (key msg : List Byte) : List Byte :=
  let k := padTo 64 (if 64 < key.length then sha256 key else key)
  sha256 (k.map (· ^^^ 0x5C#8) ++ sha256 (k.map (· ^^^ 0x36#8) ++ msg))

end Sys2Proof.Machine
end

