-- ==== Sys2Proof/Machine/DomCore.lean ====
section
/-!
DEFINITION. The sync domain, shared operations (spec/10_sync_domain.md): ports and messages (R312, R313, R315, R319),
states and leaders (R316 to R318, R324), what channels owe a barrier (R325, R326), the roster and Q (R327, R336), the
conditions and the issue of a release (R327 to R329), activations (R335), joins (R321, R339).
-/
namespace Sys2Proof.Machine

def State.modDom (s : State) (f : Domain → Domain) : State := { s with dom := f s.dom }
/-- A ring's index: A 0, B 1. -/
def ringIdx (b : Bool) : Fin 2 := if b then 1 else 0
def Domain.port (d : Domain) (b : Bool) : RingPort := d.ports[ringIdx b]
def State.modRing (s : State) (b : Bool) (f : RingPort → RingPort) : State :=
  s.modDom fun d => { d with ports := d.ports.set (ringIdx b) (f d.ports[ringIdx b]) }

/-! ### Registers -/

def Domain.addr (d : Domain) : Nat := fld d.cfg 0 10
def Domain.quorumReg (d : Domain) : Nat := fld d.cfg 16 10
/-- The device serial (R246). -/
def State.serial (s : State) : Nat := (s.otpWord 128).toNat + 4294967296 * (s.otpWord 129).toNat
def State.ownKey (s : State) : DomKey := { strap := s.dom.strapped, addr := s.dom.addr, serial := s.serial }
/-- The order of election keys (R316). -/
def DomKey.better (a b : DomKey) : Bool :=
  if a.strap != b.strap then a.strap
  else if a.addr ≠ b.addr then decide (a.addr < b.addr) else decide (a.serial < b.serial)

/-- The device follows a leader. -/
def DomState.member : DomState → Bool
  | .acquire | .aligned | .outOfStep => true
  | _ => false
/-- The device originates trains. -/
def DomState.originates : DomState → Bool
  | .search | .leading => true
  | _ => false

/-! ### Ports (R319, R320) -/

/-- h in 0.25 ns: the mean of half of what the last exchanges measured (R319). -/
def RingPort.hop (p : RingPort) : Nat :=
  if p.hs.isEmpty then 0 else (openDiv (p.hs.foldl (· + ·) 0) (2 * p.hs.length)).toNat
/-- A ring carries valid trains from the leader. -/
def RingPort.usable (p : RingPort) : Bool := p.up && decide (p.missing < 4)
/-- DOM_STAT.PORT. -/
def RingPort.code (p : RingPort) : Nat := if !p.up then 0 else if p.trains then 2 else 1

/-! ### Messages (R313, R315) -/

/-- The 12 bytes of a FULL slot. -/
def slotBytes (typ addr : Nat) (payload : List Byte) : List Byte :=
  let b := [byte typ] ++ leBytes 2 addr ++ padTo 8 payload
  b ++ [crc8 b]
/-- The CRC of a FULL slot is good. -/
def slotGoodCrc (x : List Byte) : Bool := x.length == 12 && crc8 (x.take 11) == x.getD 11 0
/-- A hop message (R313). -/
def isHop (x : List Byte) : Bool := slotGoodCrc x && (x.getD 0 0 == 0x20#8 || x.getD 0 0 == 0x21#8)

/-- A message joins the queue of a ring's output. -/
def State.queueMsg (s : State) (ring : Bool) (m : List Byte) : State :=
  s.modRing ring fun p => { p with queue := p.queue ++ [m] }
/-- A member sends a message on every ring that is UP (R315). -/
def State.memberMsg (s : State) (typ hi : Nat) (payload : List Byte) : State :=
  let m := slotBytes typ (s.dom.addr + hi) payload
  forEach [false, true] s fun s r => if (s.dom.port r).up then s.queueMsg r m else s

/-- The beat number nearest to the device's own whose low 32 bits are given (R330). -/
def beatNear (own : Beat) (low : Nat) : Beat := own + BitVec.ofInt 64 (signed 32 (low + 4294967296 - own.toNat % 4294967296))

/-- A message of the leader in slot 0 of the train of beat `b`. -/
def LeadMsg.bytes (m : LeadMsg) (own : Nat) (b : Beat) : List Byte :=
  match m with
  | .release id n rseq => slotBytes 0x03 own (leBytes 4 id ++ leBytes 2 (n - b).toNat ++ [byte rseq, 0])
  | .activate tag n rseq => slotBytes 0x04 own (leBytes 2 tag ++ leBytes 2 (n - b).toNat ++ [byte rseq])
  | .updReset n rseq mf => slotBytes 0x06 own (leBytes 2 (n - b).toNat ++ [byte rseq, 0] ++ mf.take 4)
  | .mismatch a t => slotBytes 0x05 a t

/-! ### States and leaders (R324, R341) -/

/-- HOLDOVER, with its level fault source (R338). -/
def State.setHoldover (s : State) (on : Bool) : State :=
  let was := s.dom.holdover
  let s := s.modDom fun d => { d with holdover := on }
  if on && !was then s.raise 24 0xFF 0 true false else if was && !on then s.unraise 24 else s

/-- What a leader keeps is given up with the lead: its order is lost (R335), a DIGEST_QUERY of the domain ends as on any
other device (R333). -/
def State.dropLead (s : State) : State :=
  let qs := s.dom.dig.queries
  let s := s.modDom fun d =>
    { d with members := [], reports := [], outq := [], blocked := [], dig := { d.dig with queries := [] }
             act := { d.act with result := if d.act.order.isSome then 5 else d.act.result, order := none } }
  forEach qs s fun s q => (s.complete q.1 14 1 0).pumpCmd

/-- DOM_STAT.STATE changes: event and interrupt source 12. -/
def State.domGo (s : State) (st : DomState) : State :=
  let old := s.dom.state
  if old = st then s
  else
    let s := if old = .leading then s.dropLead else s
    ((s.modDom fun d => { d with state := st, ok := 0, bad := 0 }).devEvent 34 [byte st.code, byte old.code]).irq 12

/-- The leader is known or changes; its RSEQs are numbered anew (R330). -/
def State.setLeader (s : State) (addr : Nat) (strap self_ : Bool) : State :=
  let s := s.modDom fun d =>
    if d.leader = addr then { d with leaderStrap := strap }
    else { d with leader := addr, leaderStrap := strap, seenRel := [], seenAct := [], seenUpd := [] }
  (s.devEvent 33 (leBytes 2 addr ++ [if self_ then 1 else 0])).irq 12

/-- Entry to SEARCH (R317): the election starts with the own key. -/
def State.enterSearch (s : State) : State :=
  (s.modDom fun d => { d with best := some s.ownKey, still := 0, joining := false, otherInfo := none, reepochDue := false
                              ports := d.ports.map fun p => { p with others := 0 } }).domGo .search

/-- A train with CANDIDATE clear from the address of the best key has arrived in this election (R317). -/
def Domain.heardBest (d : Domain) : Bool :=
  d.ports.toList.any fun p => decide (0 < p.others) && (match d.best with | some k => k.addr == p.otherAddr | none => false)

/-! ### What channels owe (R325) -/

/-- The recipe digest of a channel: the first four bytes of the digest of the image as loaded. -/
def Recipe.digest4 (r : Recipe) : List Byte := (sha256 r.image).take 4
def Recipe.barrierAt (r : Recipe) (i x : Nat) : Bool :=
  decide (i < r.steps.length) && (r.stepAt i).typ == tBARRIER && (r.stepAt i).param1 == x

/-- A channel waits at barrier `x` (R197). -/
def State.waitsAt (s : State) (n : ChanNo) (x : Nat) : Bool :=
  match s.recipeOf n with
  | some r => s.chans[n].state == .hold && r.barrierAt s.chans[n].cur.step.step x
  | none => false

/-- A channel owes barrier `x` (R325). -/
def State.owes (s : State) (n : ChanNo) (x : Nat) : Bool :=
  match s.recipeOf n with
  | some r =>
      let st := s.chans[n].cur.step
      let ahead := (List.range r.steps.length).any fun i => st.step ≤ i && r.barrierAt i x
      let inBody := st.stack.any fun e => decide (e.head < st.step) && decide (st.step ≤ e.last) &&
        (List.range (e.last + 1)).any fun i => e.head < i && r.barrierAt i x
      !s.waitsAt n x && (ahead || inBody)
  | none => false

/-- The reports of the device for a barrier: digest, WAITING, READY; one for each distinct recipe digest (R326). -/
def State.ownReports (s : State) (x : Nat) : List OwnReport :=
  let cs := s.runChans.filter fun n => s.waitsAt n x || s.owes n x
  let ready := !cs.any fun n => s.owes n x
  let digOf := fun (n : ChanNo) => match s.recipeOf n with | some r => r.digest4 | none => []
  let ds := cs.foldl (fun l n => if l.contains (digOf n) then l else l ++ [digOf n]) []
  ds.map fun d => { digest := d, waiting := cs.any (fun n => s.waitsAt n x && digOf n == d), ready := ready }

/-! ### Roster and Q (R327, R336) -/

def State.now (s : State) : Nat := s.beat.number.toNat
/-- Members of the roster. -/
def State.rosterMembers (s : State) : List Member := s.dom.members.filter fun m => decide (s.now < m.at_ + 3000)
def State.rosterSize (s : State) : Nat := 1 + s.rosterMembers.length
def Member.isAligned (m : Member) : Bool := m.flags % 2 == 1
def State.alignedMembers (s : State) : List Member := s.rosterMembers.filter Member.isAligned
/-- Q (R336). -/
def State.quorum (s : State) : Nat := if s.dom.quorumReg ≠ 0 then s.dom.quorumReg else s.dom.rlast / 2 + 1
/-- (a) of R327. -/
def State.quorumOk (s : State) : Bool := decide (s.quorum ≤ 1 + s.alignedMembers.length)
/-- (b) of R327. -/
def State.noneAcquiring (s : State) : Bool := !s.rosterMembers.any fun m => m.state == 2
/-- L_max, 0.25 ns. -/
def State.lmax (s : State) : Nat := s.alignedMembers.foldl (fun a m => max a m.dly) 0
/-- LEAD (R329); 257 for a device in OFF (R330). -/
def State.leadInUse (s : State) : Nat :=
  if s.dom.state = .leading then max (257 + ceilDiv s.lmax 4000) s.dom.leadReg else 257
/-- The roster of a leader is counted anew; R_last is the largest (R336). -/
def State.recount (s : State) : State :=
  if s.dom.state = .leading then
    s.modDom fun d => { d with roster := s.rosterSize, rlast := max d.rlast s.rosterSize }
  else s

/-! ### Releases (R327 to R329) -/

/-- The beat of the previous release of a barrier has passed by 256 beats. -/
def State.relAged (s : State) (x at_ : Nat) : Bool :=
  match s.dom.lastRel.find? fun p => p.1 == x with
  | some p => decide (p.2 + 256 ≤ at_)
  | none => true

/-- The fresh reports for a barrier, the device's own ones included (R326, R327). -/
def State.freshReports (s : State) (x : Nat) : List OwnReport :=
  let al := s.alignedMembers.map fun m => m.addr
  let rs := s.dom.reports.filter fun r =>
    r.id == x && al.contains r.addr && decide (s.now < r.at_ + 3000) && s.relAged x r.at_
  let own := if s.relAged x s.now then s.ownReports x else []
  own ++ if s.dom.state = .leading then rs.map fun r => { digest := r.digest, waiting := r.waiting, ready := r.ready } else []

/-- (c) of R327. -/
def someWaits (l : List OwnReport) : Bool := l.any fun r => r.waiting
/-- (d). -/
def allReady (l : List OwnReport) : Bool := l.all fun r => r.ready
/-- (e). -/
def oneDigest (l : List OwnReport) : Bool := match l with | [] => true | r :: rs => rs.all fun q => q.digest == r.digest
/-- (f). -/
def State.roomForRelease (s : State) (x : Nat) : Bool :=
  !(s.dom.releases.any fun r => r.id == x) && decide (s.dom.releases.length < 16)

/-- The activation that waits for a release is sent with it; one without BAR at once (R335). The leader's own armed tag
acts as a member's. -/
def State.sendActivate (s : State) (o : ActOrder) (n : Beat) : State :=
  s.modDom fun d =>
    { d with outq := d.outq ++ [(.activate o.tag n d.rseq, 3)], rseq := (d.rseq + 1) % 256
             act := { d.act with n := n, result := 2, order := none }
             stage := if d.stage.state = .armed ∧ d.stage.tag = o.tag then { d.stage with actAt := some n } else d.stage }

/-- A release of barrier `x` is issued (R329): held by the device itself, and sent by a leader. -/
def State.issueRelease (s : State) (x : Nat) : State :=
  let n := s.beat.number + BitVec.ofNat 64 s.leadInUse
  let lead := s.dom.state == .leading
  let s := s.modDom fun d =>
    { d with releases := d.releases ++ [{ id := x, beat := n, rseq := d.rseq }], barRseq := d.rseq
             rseq := (d.rseq + 1) % 256
             lastRel := (d.lastRel.filter fun p => p.1 != x) ++ [(x, n.toNat)]
             blocked := d.blocked.filter fun p => p.1 != x
             outq := if lead then d.outq ++ [(.release x n d.rseq, 3)] else d.outq }
  let s := s.eventAt n .device 0 35 (leBytes 4 x)
  match s.dom.act.order with
  | some o => if lead && o.bar == some x then s.sendActivate o n else s
  | none => s

/-- BARRIER_BLOCKED, once for each cause and barrier. -/
def State.blockedBy (s : State) (x cause : Nat) : State :=
  if s.dom.blocked.contains (x, cause) then s
  else ((s.modDom fun d => { d with blocked := d.blocked ++ [(x, cause)] }).devEvent 36 (leBytes 4 x ++ [byte cause])).irq 13

/-! ### Joins (R321, R339) -/

/-- A re-epoch is allowed (R339). -/
def State.reepochOk (s : State) : Bool :=
  s.runChans.all fun n =>
    let c := s.chans[n]
    match c.state with
    | .off | .chrysalis => true
    | .run => !c.cur.step.running
    | .hold => (match s.recipeOf n with | some r => (r.stepAt c.cur.step.step).typ == tBARRIER | none => false)
    | _ => false

/-- The ring whose valid trains give the smaller D, A on a tie (R320). -/
def Domain.shorter (d : Domain) (addr : Nat) : Bool :=
  let ok := fun (r : Bool) => (d.port r).up && (d.port r).trains && (d.port r).leader == addr
  if ok false && ok true then decide ((d.port true).dly < (d.port false).dly) else ok true

/-- The device joins a leader at its EPOCH (R321). -/
def State.join (s : State) (addr : Nat) (strap : Bool) (delta : Int) : State :=
  let s := s.modDom fun d =>
    { d with joining := false, otherInfo := none, delta := delta, ringUsed := d.shorter addr, gain := 0
             ports := d.ports.map fun p => { p with missing := if p.leader = addr then 0 else 16, others := 0 } }
  let s := s.setLeader addr strap false
  if delta.natAbs ≤ 500 then (s.setHoldover false).domGo .acquire
  else if s.reepochOk then ((s.modDom fun d => { d with reepochDue := true }).setHoldover false).domGo .acquire
  else s.domGo .outOfStep

end Sys2Proof.Machine
end

