-- ==== Sys2Proof/Machine/Engines.lean ====
section
/-!
DEFINITION. The claim table and the engine array (R31, R32, R42 to R44, R49 to R54, R56 of
spec/01_beat_and_engines.md): pickup, the jobs of R31, overruns, engine losses.
-/
namespace Sys2Proof.Machine

/-! ### Queues (R42, R43) -/

/-- The place of a class in the order of R31. -/
def JobClass.rank : JobClass → Nat
  | .catchUp => 0 | .beat => 1 | .tenth => 2 | .milli => 3
/-- A job that holds its channel: catch-up or beat (R28). -/
def JobClass.fast : JobClass → Bool
  | .catchUp | .beat => true
  | _ => false
/-- An entry is DONE. -/
def Job.isDone (j : Job) : Bool := j.claim == .done
/-- An entry is FREE. -/
def Job.isFree (j : Job) : Bool := j.claim == .free

/-- Every earlier catch-up or beat job of the channel is DONE (R43). -/
def claimable (jobs : List Job) (j : Job) : Bool :=
  j.isFree && jobs.all fun k => !(k.chan == j.chan && k.cls.fast && decide (k.beat < j.beat)) || k.isDone

/-- The free jobs of a class in an engine's queue, from the head. -/
def queueOf (jobs : List Job) (e : EngineNo) (c : JobClass) : List Job :=
  jobs.filter fun j => j.home == e && j.cls == c && j.isFree

/-- The same entry of the claim table. -/
def Job.same (a b : Job) : Bool := a.cls == b.cls && a.chan == b.chan && a.beat == b.beat

/-- The engine with the most free jobs of a class, the lowest number on a tie (R44). -/
def victim (jobs : List Job) (c : JobClass) : List EngineNo → Option EngineNo
  | [] => none
  | e :: es =>
      match victim jobs c es with
      | none => if (queueOf jobs e c).isEmpty then none else some e
      | some v => if (queueOf jobs v c).length ≤ (queueOf jobs e c).length then some e else some v

/-- The job that the procedure of R44 takes in one class, and whether it was picked from another engine's tail. -/
def pickIn (jobs : List Job) (engines : List EngineNo) (e : EngineNo) (c : JobClass) : Option (Job × Bool) :=
  match (queueOf jobs e c).find? (claimable jobs) with
  | some j => some (j, false)
  | none =>
      match victim jobs c engines with
      | none => none
      | some v => ((queueOf jobs v c).reverse.find? (claimable jobs)).map fun j => (j, v != e)

/-- The next job of an engine over the classes in their order (R31, R44). -/
def pickJob (jobs : List Job) (engines : List EngineNo) (e : EngineNo) : Option (Job × Bool) :=
  [JobClass.catchUp, .beat, .tenth, .milli].findSome? fun c => pickIn jobs engines e c

/-- One entry of the claim table changed. -/
def setJob (jobs : List Job) (j : Job) (f : Job → Job) : List Job := jobs.map fun k => if k.same j then f k else k

/-- An engine claims the next job (R44). One that is out of service, declared lost or at work does nothing. -/
def State.pickup (s : State) (e : EngineNo) : State :=
  let b := s.beat
  if !b.running || !b.engines.contains e || b.lost.any (fun x => x.1 == e) || b.jobs.any (fun j => j.claim == .claimed e) then s
  else match pickJob b.jobs b.engines e with
    | none => s
    | some (j, stolen) => s.modBeat fun b =>
        { b with jobs := setJob b.jobs j fun k => { k with claim := .claimed e, ran := some e }
                 diag := if stolen then b.diag.set e { b.diag[e] with pickups := b.diag[e].pickups + 1 } else b.diag }
/-- ENGINE_PICKUP (R44). -/
def execEnginePickup (e : EngineNo) (s : State) : Host.Outcome State Fault Refusal := done (s.pickup e)

/-! ### Overruns (R49 to R51) -/

/-- The determinism guarantee ends for every channel that runs a recipe (R51). DESIGN CHOICE (log entry 64): the beat in which
the overrun occurs is that in which it is raised, so the channels are those that run a recipe at the classification. -/
def State.detLapse (s : State) : State :=
  { s with chans := s.chans.map fun c => if c.cur.step.running then { c with detLapsed := true } else c }

/-- A beat overrun (R49): its record, its fault and its interrupt. -/
def State.overrun (s : State) (n : ChanNo) (cls : JobClass) (b : Beat) : State :=
  let s := s.modBeat fun u =>
    { u with ovrCount := if u.ovrCount = 0xFFFF#16 then u.ovrCount else u.ovrCount + 1, ovrClass := cls.ovrCode
             ovrChan := if u.ovrCount = 0 then n.val else u.ovrChan, ovrBeat := if u.ovrCount = 0 then b else u.ovrBeat }
  ((s.raise 13 n.val (at_ cls.ovrCode 16) false false).irq 10).detLapse

/-- Jobs found outstanding at the boundary are classified in cycle 32 (R49): one that a lost engine held is no
overrun. DESIGN CHOICE (log entry 64): a job outstanding over several boundaries is one overrun at each of them. -/
def State.classify (s : State) : State :=
  let late := fun (n : ChanNo) => s.beat.jobs.filter fun j => j.chan == n && j.late
  let s := forEach (allFin 160) s fun s n => forEach (late n) s fun s j =>
    if j.claim = .failed then s else s.overrun n j.cls j.beat
  s.modBeat fun b => { b with jobs := b.jobs.map fun j => { j with late := false } }
/-- OVERRUN_CLASSIFY (R49). -/
def execOverrunClassify (s : State) : Host.Outcome State Fault Refusal := done s.classify

/-! ### Engine loss (R53, R54) -/

/-- An entry is FAILED (R54); one that had completed keeps that in mind for its re-run (R48). -/
def Job.fail (j : Job) : Job := { j with claim := .failed, ended := if j.isDone then some j.cls else j.ended }

/-- An engine is declared lost (R54): what it ran or claimed in the beat is FAILED. -/
def State.loseEngine (s : State) (e : EngineNo) (cause : LossCause) : State :=
  if !s.beat.engines.contains e || s.beat.lost.any (fun x => x.1 == e) then s
  else
    let s := s.modBeat fun b =>
      { b with lost := b.lost ++ [(e, cause)], lossCause := cause, lossEngine := e.val, lossBeat := b.number
               jobs := b.jobs.map fun j => if j.ran = some e then j.fail else j }
    (s.raiseDev 14 (at_ e.val 24 ||| at_ cause.code 16)).irq 11

/-- The engine runs a job. -/
def State.engineBusy (s : State) (e : EngineNo) : Bool := s.beat.jobs.any fun j => j.claim == .claimed e

/-- RESIDUE_TRIP (R53). -/
def execResidueTrip (e : EngineNo) (s : State) : Host.Outcome State Fault Refusal := done (s.loseEngine e .residue)
/-- PROGRESS_TIMEOUT (R53): the progress signal is still while the engine runs a job. -/
def execProgressTimeout (e : EngineNo) (s : State) : Host.Outcome State Fault Refusal :=
  done (if s.engineBusy e then s.loseEngine e .progress else s)
/-- JOB_OVERTIME (R53). -/
def execJobOvertime (e : EngineNo) (s : State) : Host.Outcome State Fault Refusal :=
  done (if s.engineBusy e then s.loseEngine e .overtime else s)

/-! ### The jobs -/

/-- A half of a context by the parity of its beat (R26). -/
def Chan.half (c : Chan) (odd : Bool) : Context := if odd then c.halves[1] else c.halves[0]
def Chan.setHalf (c : Chan) (odd : Bool) (x : Context) : Chan :=
  { c with halves := if odd then c.halves.set 1 x else c.halves.set 0 x }
/-- The parity of a beat. -/
def oddBeat (b : Beat) : Bool := b.getLsbD 0

/-- The claimed job of a channel that a completion command means: the oldest of its class that is claimed. -/
def State.claimedJob (s : State) (n : ChanNo) (p : JobClass → Bool) : Option (Job × EngineNo) :=
  (s.beat.jobs.filter fun j => j.chan == n && p j.cls).findSome? fun j =>
    match j.claim with | .claimed e => some (j, e) | _ => none

/-- A job ends on its engine: DONE, its cycles counted. -/
def State.finishJob (s : State) (j : Job) (e : EngineNo) (cycles : Nat) : State :=
  s.modBeat fun b =>
    { b with jobs := setJob b.jobs j fun k => { k with claim := .done }
             peakNow := if j.cls.fast then b.peakNow + cycles else b.peakNow
             diag := b.diag.set e { b.diag[e] with busyNow := b.diag[e].busyNow + cycles } }

/-- The inputs of a job `j` that reads the half `h`: those captured at its release (R45, R48); the recipe and the barrier's
release are those of that half's step. -/
def State.envFor (s : State) (n : ChanNo) (h : Context) (j : Job) : JobEnv :=
  let r := if h.step.running then s.recipeNo h.step.recipe else none
  let b := j.beat
  { s.jobEnv n b with
      toJobIn := j.inp
      recipe := r
      release := match r with
        | some r => (r.stepAt h.step.step).typ == tBARRIER && s.released (r.stepAt h.step.step).param1 (b + 1)
        | none => false }

/-- A context half that cannot be read (R52): the job is abandoned and the channel trips. -/
def State.contextError (s : State) (n : ChanNo) (odd : Bool) : State :=
  let was := s.chans[n].cur.step.running
  let s := s.lowAll (s.phasesOf n)
  let s := s.interrupt n .trip false s.beat.number
  let s := s.modChan n fun c =>
    let c := c.tripRun n
    let c := c.setHalf odd { c.half odd with bad := true }
    { c with ctxTrip := true, detLapsed := c.detLapsed || was }
  s.raise 10 n.val 0 false false

/-- The half that job `j` writes, from the half of the beat before (R26). What a catch-up job asked for and no boundary has
delivered goes with the next job's half. -/
def State.beatHalf (s : State) (n : ChanNo) (j : Job) : Context :=
  let c := s.chans[n]
  let b := j.beat
  let h := c.half (!oddBeat b)
  let x := jobStep (s.envFor n h j) h
  if c.curHalf = !oddBeat b then x
  else { x with evs := h.evs ++ x.evs, ends := h.ends ++ x.ends, acks := h.acks ++ x.acks
                step := { x.step with entered := x.step.entered || h.step.entered } }

/-- The beat job of a channel completes (R26, R50, R101). The re-run of a job that had completed before its engine was lost leaves
the half as its first run wrote it (R48), and its figures count once. -/
def State.beatJob (s : State) (n : ChanNo) (cycles : Nat) (ctxError : Bool) : State :=
  match s.claimedJob n JobClass.fast with
  | none => s
  | some (j, e) =>
      let t := s.finishJob j e cycles
      if ctxError then t.contextError n (!oddBeat j.beat)
      else
        let again := j.cls == .catchUp && j.ended.isSome
        let x := if again then (s.chans[n]).half (oddBeat j.beat) else s.beatHalf n j
        t.modChan n fun c =>
          let old := c.half (!oddBeat j.beat)
          let c := c.setHalf (oddBeat j.beat) x
          if j.cls = .catchUp ∧ j.ended ≠ some .catchUp then c.beatSums old x j.beat (chanFs (s.gang n) (shuntOf s.phases[n].run)) else c
/-- BEAT_JOB (R101). -/
def execBeatJob (n : ChanNo) (cycles : Nat) (ctxError : Bool) (s : State) : Host.Outcome State Fault Refusal :=
  done (s.beatJob n cycles ctxError)

/-- The area of a slow job's period (R27). -/
def areaOf (b : Beat) (len : Nat) : Bool := b.toNat / len % 2 == 1

/-- The tenth-beat job of a channel completes (R27, R71, R84). -/
def State.tenthDone (s : State) (n : ChanNo) (cycles : Nat) (ctxError : Bool) : State :=
  match s.claimedJob n (· == .tenth) with
  | none => s
  | some (j, e) =>
      let t := s.finishJob j e cycles
      if ctxError then
        (t.modChan n fun c => { c with tenth := #v[c.band, c.band] }).contextError n s.chans[n].curHalf
      else t.tenthJob n (areaOf j.beat 10)
/-- TENTH_BEAT_JOB (R27). -/
def execTenthBeatJob (n : ChanNo) (cycles : Nat) (ctxError : Bool) (s : State) : Host.Outcome State Fault Refusal :=
  done (s.tenthDone n cycles ctxError)

/-- The milli job of a channel completes (R27, R207). -/
def State.milliDone (s : State) (n : ChanNo) (cycles : Nat) (ctxError : Bool) : State :=
  match s.claimedJob n (· == .milli) with
  | none => s
  | some (j, e) =>
      let t := s.finishJob j e cycles
      if ctxError then
        (t.modChan n fun c => { c with estNext := c.estCur }).contextError n s.chans[n].curHalf
      else
        t.modChan n fun c => { c with estNext := estMilli (s.estIn n (j.beat - 1000)) c.estCur }
/-- MILLI_JOB (R207). -/
def execMilliJob (n : ChanNo) (cycles : Nat) (ctxError : Bool) (s : State) : Host.Outcome State Fault Refusal :=
  done (s.milliDone n cycles ctxError)

/-! ### The claim table at a boundary -/

/-- A job of the channel holds it at the boundary (R28). -/
def State.isHeld (s : State) (n : ChanNo) : Bool := s.beat.jobs.any fun j => j.chan == n && j.cls.fast && !j.isDone
/-- A beat job ran for the channel in the closing beat. -/
def State.hasRun (s : State) (n : ChanNo) : Bool := s.beat.jobs.any fun j => j.chan == n && j.cls == .beat
/-- The slow job of a class is DONE. -/
def State.slowDone (s : State) (n : ChanNo) (c : JobClass) : Bool :=
  s.beat.jobs.any fun j => j.chan == n && j.cls == c && j.isDone
/-- A slow job of a class is not DONE (R49). -/
def State.slowLate (s : State) (n : ChanNo) (c : JobClass) : Bool :=
  s.beat.jobs.any fun j => j.chan == n && j.cls == c && !j.isDone

/-- What remains of an entry after a boundary (R31, R32, R49, R54): done beat jobs leave, outstanding ones become
catch-up jobs, FAILED ones are released again, suspended slow jobs return unclaimed with the engine that last ran them. -/
def Job.after (j : Job) : Option Job :=
  if j.cls.fast then
    match j.claim with
    | .done => none
    | .failed => some { j with cls := .catchUp, claim := .free, ran := none, late := false }
    | .free => some { j with cls := .catchUp, ran := none, late := true }
    | .claimed _ => some { j with cls := .catchUp, late := true }
  else
    match j.claim with
    | .done | .failed => some { j with claim := if j.isDone then .done else .free, ran := none }
    | _ => some { j with claim := .free }

/-- The slow job was suspended: it goes to the head of its home engine's list (R32). -/
def Job.suspended (j : Job) : Bool := match j.claim with | .claimed _ => !j.cls.fast | _ => false

/-- The outstanding entries carried over a boundary, suspended ones first. -/
def carryJobs (jobs : List Job) : List Job :=
  (jobs.filter Job.suspended ++ jobs.filter fun j => !j.suspended).filterMap Job.after

/-- Home engines (R42): the rank of a channel among those not in OFF, modulo the engines in service. -/
def homeOf (engines : List EngineNo) (live : List ChanNo) (n : ChanNo) : EngineNo :=
  engines.getD (live.findIdx (· == n) % max 1 engines.length) 0

/-- The channels that get jobs: every one not in OFF (R31). -/
def State.liveChans (s : State) : List ChanNo := s.runChans.filter fun n => s.chans[n].state != .off

/-- The jobs released at the boundary that opens `opens` (R31, R42); queues are rebuilt when an engine has left. -/
def State.releaseJobs (s : State) (opens : Beat) (rebuild : Bool) : State :=
  let live := s.liveChans
  let engines := s.beat.engines
  let home := homeOf engines live
  let kept := s.beat.jobs.map fun j => if rebuild || j.cls.fast then { j with home := home j.chan } else j
  -- a queue stands in ascending channel number (R42), the jobs of one channel in beat order (R43)
  let late := kept.filter fun j => j.cls.fast
  let kept := (if late.isEmpty then [] else (allFin 160).flatMap fun n => late.filter fun j => j.chan == n) ++
    kept.filter fun j => !j.cls.fast
  let mk := fun (c : JobClass) (n : ChanNo) =>
    ({ cls := c, chan := n, beat := opens, home := home n, claim := .free, ran := none, late := false, ended := none
       inp := s.jobIn n } : Job)
  let tenth := opens.toNat % 10 == 0
  let milli := opens.toNat % 1000 == 0
  let s := s.modBeat fun b =>
    { b with jobs := kept ++ live.map (mk .beat) ++ (if tenth then live.map (mk .tenth) else []) ++
                       if milli then live.map (mk .milli) else [] }
  -- a channel without an outstanding job reads the half that the boundary made current (R26)
  forEach live s fun s n =>
    if kept.any fun j => j.chan == n && j.cls.fast then s
    else s.modChan n fun c =>
      if c.curHalf = !oddBeat opens then c else { c with halves := Vector.replicate 2 c.cur, curHalf := !oddBeat opens }

/-- A fourth sample set would be needed (R56): the catch-up of the oldest ends, its channels trip. `opens` is the beat
whose set is new. -/
def State.dropOldestSet (s : State) (opens : Beat) : State :=
  let beats := (s.beat.jobs.filter fun j => j.cls == .catchUp && !j.isDone).map fun j => j.beat
  let kept := (s.beat.sets.filter fun x => beats.contains x.beat).map fun x => x.beat
  if kept.length < 3 then s
  else
    let oldest := kept.foldl (fun a b => if b < a then b else a) (kept.headD 0)
    let hit := (allFin 160).filter fun n => s.beat.jobs.any fun j => j.chan == n && j.cls == .catchUp && j.beat == oldest
    forEach hit s fun s n =>
      let s := s.modBeat fun b => { b with jobs := b.jobs.filter fun j => !(j.chan == n && j.cls.fast) }
      let s := s.lowAll (s.phasesOf n)
      let s := s.interrupt n .trip false (opens - 1)
      let s := s.modChan n fun c =>
        let c := c.tripRun n
        { c with ovrTrip := true, halves := Vector.replicate 2 c.cur, curHalf := !oddBeat opens }
      s.overrun n .beat oldest

/-- The sample sets kept after a boundary (R56): those of outstanding catch-up jobs and the new one. -/
def State.keepSets (s : State) (new : SampleSet) : State :=
  s.modBeat fun b =>
    { b with sets := new :: b.sets.filter fun x => x.beat != new.beat &&
        b.jobs.any fun j => j.cls == .catchUp && !j.isDone && j.beat == x.beat }

/-! ### Register commands (R38, BEAT_NUM_LO, BEAT_PEAK) -/

/-- A write of BEAT_GRP_BUDGETg waits for its boundary; one that waits already is replaced (R38). -/
def State.budgetSet (s : State) (g : GroupNo) (v : Word) (cyc : Nat) : State :=
  s.modBeat fun b =>
    { b with writes := (b.writes.filter fun w => w.group != g) ++ [{ group := g, value := fld v 0 14, due := s.dueAt cyc }]
             statGroup := g.val, statResult := .pending }
/-- BUDGET_WRITE (R38). -/
def execBudgetWrite (g : GroupNo) (v : Word) (cyc : Nat) (s : State) : Host.Outcome State Fault Refusal :=
  done (s.bar (s.budgetSet g v cyc))

/-- A read of BEAT_NUM_LO captures the high half. -/
def State.readBeatLo (s : State) : State :=
  (s.modBeat fun b => { b with hiCap := (b.number >>> 32).setWidth 32 }).send (.readReply (s.beat.number.setWidth 32))
/-- BEAT_NUM_LO_READ (registers of spec/01). -/
def execBeatNumLoRead (s : State) : Host.Outcome State Fault Refusal :=
  done (if s.reads then s.readBeatLo else s.send (.readReply 0))

/-- BEAT_PEAK.CLR. -/
def State.peakClear (s : State) (v : Word) : State :=
  if bit v 31 then s.modBeat fun b => { b with peak := 0 } else s
/-- BEAT_PEAK_CLEAR (registers of spec/01). -/
def execBeatPeakClear (v : Word) (s : State) : Host.Outcome State Fault Refusal := done (s.bar (s.peakClear v))

end Sys2Proof.Machine
end

