-- ==== Sys2Proof/Machine/Telemetry.lean ====
section
/-!
DEFINITION. Telemetry streams (spec/09_telemetry.md): enables and their checks (R305 to R307), values (R292, R293), blocks
cut at boundaries (R294 to R297), the buffer (R299 to R303), writes (R298).
-/
namespace Sys2Proof.Machine

def State.modStream (s : State) (k : Fin 8) (f : Stream → Stream) : State :=
  s.modTel fun t => { t with streams := t.streams.set k (f t.streams[k]) }

/-! ### Shape (R292, R294, R295) -/

/-- Beats of a period. -/
def StreamRun.len (r : StreamRun) : Nat := if r.filter = 2 then 1000 else 1
/-- S, the beats of a block span. -/
def StreamRun.spanLen (r : StreamRun) : Nat := r.periods * r.decim * r.len
def StreamRun.has (r : StreamRun) (q : Nat) : Bool := r.quant / 2 ^ q % 2 == 1
/-- Q. -/
def StreamRun.quants (r : StreamRun) : Nat := r.quant % 2 + r.quant / 2 % 2 + r.quant / 4 % 2
/-- Bytes of a block before padding (R295). -/
def StreamRun.blockLen (r : StreamRun) : Nat :=
  16 + r.periods * r.chans.length * r.quants * 4
/-- Units of a block. -/
def StreamRun.units (r : StreamRun) : Nat := ceilDiv r.blockLen r.unit
/-- The rate as a fraction of bit/s: numerator and denominator (R306). -/
def StreamRun.rate (r : StreamRun) : Nat × Nat := (r.units * r.unit * 8 * 1000000, r.spanLen)

/-- The limit of R307 in bit/s by speed code (1 to 4: 2.5, 5, 8, 16 GT/s) and width. -/
def linkLimit (speed width : Nat) : Nat :=
  match speed, width with
  | 1, 1 => 1500000000 | 1, 2 => 3000000000
  | 2, 1 => 3000000000 | 2, 2 => 6000000000
  | 3, 1 => 5900000000 | 3, 2 => 11800000000
  | 4, 1 => 11800000000 | 4, 2 => 23600000000
  | _, _ => 0

/-- The sum of fractions. -/
def sumRates (l : List (Nat × Nat)) : Nat × Nat := l.foldl (fun a x => (a.1 * x.2 + x.1 * a.2, a.2 * x.2)) (0, 1)
/-- The sum of the rates exceeds the limit of the link in force. -/
def State.overLink (s : State) (extra : List StreamRun) : Bool :=
  let l := (s.tel.streams.toList.filterMap fun x => x.run) ++ extra
  let (n, d) := sumRates (l.map StreamRun.rate)
  decide (linkLimit s.host.speed s.host.width * d < n)

/-! ### Enable and disable (R305, R306) -/

/-- The selected channels of a mask, ascending. -/
def maskChans (m : Vector Word 5) : List Nat :=
  (List.range 160).filter fun n => match finOf 5 (n / 32) with | some j => bit m[j] (n % 32) | none => false

/-- The configuration that the registers of a stream spell. -/
def Stream.config (x : Stream) (startAt : Beat) : StreamRun :=
  { base := x.baseLo.toNat + 4294967296 * x.baseHi.toNat, size := fld x.cfg 0 5, unit := 2 ^ (6 + fld x.cfg 10 3)
    filter := fld x.cfg 8 2, quant := fld x.cfg 5 3, periods := fld x.shape 0 16, decim := fld x.shape 16 16
    irqBlk := max 1 (fld x.cfg 16 8), maskId := fld x.cfg 24 8, chans := maskChans x.mask, startAt := startAt }

/-- The first reason of R306 from FILTER on; 0 when the enable passes. -/
def State.streamCheck (s : State) (r : StreamRun) : Nat :=
  if r.filter = 3 ∨ r.quant = 0 ∨ (r.has 2 = true ∧ r.filter ≠ 1) then 2
  else if r.periods < 1 ∨ 1000 < r.periods ∨ r.decim < 1 ∨ 1000 < r.decim then 3
  else if 4096 < r.unit ∨ r.size < 4 ∨ 16 < r.size ∨ r.base % 64 ≠ 0 then 4
  else if r.chans = [] then 5
  else if 65536 < r.blockLen then 6
  else if 2 ^ r.size < 4 * r.units then 7
  else if s.overLink [r] then 8
  else 0

/-- An enable that has passed its checks. -/
def Stream.enable (x : Stream) (r : StreamRun) : Stream :=
  { x with run := some r, running := false, gen := x.gen + 1, phase := true, write := 0, nextAt := 0, nextPhase := true
           read := 0, dropCount := 0, blk := r.units, delivered := false, lastSeq := 0, noticed := false, sinceMsg := 0
           body := [], got := 0 }

/-- A disable: the block in progress is discarded, staged blocks are still written. -/
def Stream.disable (x : Stream) : Stream :=
  { x with cfg := x.cfg &&& ~~~0x1F#32, run := none, running := false, body := [], got := 0 }

/-- A write of TSQk_CFG (R305, R254). -/
def State.tsqCfg (s : State) (k : Fin 8) (v : Word) (cyc : Nat) : State :=
  let x := s.tel.streams[k]
  let v := v &&& 0xFFFF1FFF#32
  let old := fld x.cfg 0 5
  let new := fld v 0 5
  if new = 0 then s.modStream k fun x => { x with cfg := v }.disable
  else if old = 0 then
    let y := { x with cfg := v }
    let r := y.config (s.dueAt cyc)
    match s.streamCheck r with
    | 0 => s.modStream k fun _ => y.enable r
    | code => (s.modStream k fun x => { x with reason := code }).modHost fun h => { h with cfgErr := true }
  else if new = old then s.modStream k fun x => { x with cfg := v }
  else s.modHost fun h => { h with cfgErr := true }
/-- TSQ_CFG (R305). -/
def execTsqCfg (k : Fin 8) (v : Word) (cyc : Nat) (s : State) : Host.Outcome State Fault Refusal := done (s.bar (s.tsqCfg k v cyc))

/-- Blocks of a stream still wait to be written. -/
def State.stagedOf (s : State) (k : Fin 8) : Bool := s.tel.staged.any fun b => b.stream == k
/-- TSQk_STAT.STATE. -/
def State.streamState (s : State) (k : Fin 8) : Nat :=
  match (s.tel.streams[k]).run with
  | some _ => if (s.tel.streams[k]).running then 2 else 1
  | none => if s.stagedOf k then 2 else 0

/-! ### Values (R293) -/

/-- RAW I of `i` µA: FS_ch is `gang` · 10^11 / `rsh` exactly. -/
def rawI (i : Int) (gang rsh : Nat) : Nat :=
  ((clampInt (-32767) 32767 (divRound (i * 32768 * rsh) (gang * 100000000000))) % 65536).toNat
/-- RAW V. -/
def rawV (v : Int) : Nat := (clampInt 0 65534 (divRound (v + 500000) 100)).toNat
/-- A signed 32-bit value in bytes. -/
def le32 (v : Int) : List Byte := leBytes 4 (v % 4294967296).toNat
def noI16 : List Byte := [0x00, 0x80]
def noV16 : List Byte := [0xFF, 0xFF]
def no32 : List Byte := [0, 0, 0, 0x80]

/-- The values of one channel in one beat of a sample set (RAW, BEAT_MEAN). -/
def State.beatValues (s : State) (r : StreamRun) (set : SampleSet) (c : Nat) : List Byte :=
  let raw := r.filter == 0
  let none_ := (if r.has 0 then (if raw then noI16 ++ noI16 else no32) else []) ++
    (if r.has 1 then (if raw then noV16 ++ noV16 else no32) else []) ++ if r.has 2 then no32 else []
  match finOf 160 c with
  | none => none_
  | some n =>
      if !s.isRun n then none_
      else
        let rsh := shuntOf s.phases[n].run
        let ps := (s.phasesOf n).map fun p => set.cur[p]
        let v := set.volt[n]
        let sumA := ps.foldl (fun a p => a + sampleI p.a rsh) 0
        let sumB := ps.foldl (fun a p => a + sampleI p.b rsh) 0
        let okA := ps.all fun p => p.validA
        let okB := ps.all fun p => p.validB
        let i := if raw then (if okA then leBytes 2 (rawI sumA (s.gang n) rsh) else noI16) ++ (if okB then leBytes 2 (rawI sumB (s.gang n) rsh) else noI16)
                 else if okA && okB then le32 (ps.foldl (fun a p => a + phaseMean p rsh) 0) else no32
        let vv := if raw then (if v.validA then leBytes 2 (rawV (sampleV v.a)) else noV16) ++
                                if v.validB then leBytes 2 (rawV (sampleV v.b)) else noV16
                  else if v.validA && v.validB then le32 (voltMean v) else no32
        let sw := (s.phasesOf n).any fun p => s.phases[p].switching
        let iref := if sw then s.chans[n].cur.out.iref else 0
        (if r.has 0 then i else []) ++ (if r.has 1 then vv else []) ++ if r.has 2 then le32 iref else []

/-- The values of one channel in one milli period (METRO). -/
def State.milliValues (s : State) (r : StreamRun) (c : Nat) : List Byte :=
  let none_ := (if r.has 0 then no32 else []) ++ if r.has 1 then no32 else []
  match finOf 160 c with
  | none => none_
  | some n =>
      if !s.isRun n then none_
      else
        let ps := s.phasesOf n
        let okI := ps.all fun p => s.phases[p].avIn == 2000
        (if r.has 0 then (if okI then le32 (ps.foldl (fun a p => a + s.phases[p].avgI) 0) else no32) else []) ++
          if r.has 1 then (if s.phases[n].avVn = 2000 then le32 s.phases[n].avgV else no32) else []

/-! ### Closing a block (R297, R300 to R303) -/

/-- A block that is not delivered: reason 0 FULL, 1 STALL. -/
def State.dropBlock (s : State) (k : Fin 8) (reason : Nat) : State :=
  let first := !(s.tel.streams[k]).noticed
  let s := s.modStream k fun x =>
    { x with dropCount := satInc 0xFFFFFFFF x.dropCount, noticed := true
             full := x.full || reason == 0, stall := x.stall || reason == 1 }
  if first then s.devEvent 19 [byte k.val, byte reason] else s

/-- Bytes staged. -/
def Telem.pool (t : Telem) : Nat := t.staged.foldl (fun a b => a + b.bytes) 0
/-- Units of the blocks of a stream that are closed and not yet written. -/
def Telem.stagedUnits (t : Telem) (k : Fin 8) (gen : Nat) : Nat :=
  t.staged.foldl (fun a b => if b.stream = k ∧ b.gen = gen then a + b.units else a) 0

/-- A header (R296). -/
def blockHeader (beat : Beat) (seq maskId flags gap : Nat) : List Byte :=
  leBytes 8 beat.toNat ++ leBytes 4 seq ++ [byte maskId, byte flags] ++ leBytes 2 gap

/-- A block whose last value exists: staged, or not delivered. GAP is the difference of the SEQ values less 1 (R296). -/
def State.closeBlock (s : State) (k : Fin 8) (r : StreamRun) : State :=
  let x := s.tel.streams[k]
  let size := 2 ^ r.size
  let units := r.units
  let pad := if size < x.nextAt + units then size - x.nextAt else 0
  let free := (x.read + size - x.write - 1) % size
  if s.dev.state = .chrysalis then s.dropBlock k 1
  else if s.dev.state = .orderlyStop then s
  else if free < units + pad + s.tel.stagedUnits k x.gen then s.dropBlock k 0
  else if 262144 < s.tel.pool + units * r.unit then s.dropBlock k 1
  else
    let seq := x.span.toNat / r.spanLen % 4294967296
    let det := r.chans.any fun c => match finOf 160 c with | some n => s.chans[n].detLapsed | none => false
    let sub := r.chans.any fun c => match finOf 160 c with | some n => s.chans[n].sliceSubst | none => false
    let at_ := if pad = 0 then x.nextAt else 0
    let ph := if pad = 0 then x.nextPhase else !x.nextPhase
    let flag := fun (b : Bool) (v : Nat) => if b then v else 0
    let msg := decide (r.irqBlk ≤ x.sinceMsg + 1)
    let endAt := at_ + units
    let b : Block :=
      { stream := k, gen := x.gen
        pad := if pad = 0 then none
               else some (r.base + x.nextAt * r.unit, blockHeader x.span seq r.maskId (flag x.nextPhase 1 + 2) 0)
        addr := r.base + at_ * r.unit
        header := blockHeader x.span seq r.maskId (flag ph 1 + flag (!x.delivered) 4 + flag det 8 + flag sub 16)
          (if x.delivered then min 0xFFFF ((seq + 4294967295 - x.lastSeq) % 4294967296) else 0)
        body := padTo (units * r.unit - 16) x.body
        units := units + pad, bytes := units * r.unit, seq := BitVec.ofNat 32 seq
        nextAt := if endAt = size then 0 else endAt, nextPhase := if endAt = size then !ph else ph, message := msg }
    let s := s.modTel fun t => { t with staged := t.staged ++ [b] }
    s.modStream k fun x =>
      { x with nextAt := b.nextAt, nextPhase := b.nextPhase, delivered := true, lastSeq := seq, noticed := false
               sinceMsg := if msg then 0 else x.sinceMsg + 1 }

/-- One period's values join the block in progress; the last delivered one closes it. -/
def State.addPeriod (s : State) (k : Fin 8) (r : StreamRun) (bytes : List Byte) : State :=
  let s := s.modStream k fun x => { x with body := x.body ++ bytes, got := x.got + 1 }
  if (s.tel.streams[k]).got = r.periods then s.closeBlock k r else s

/-- One stream at the boundary that opens beat `b`, whose sample set is complete (R294, R297). -/
def State.streamBoundary (s : State) (b : Beat) (set : SampleSet) (k : Fin 8) : State :=
  match (s.tel.streams[k]).run with
  | none => s
  | some r =>
      let x := s.tel.streams[k]
      -- METRO: the period that ends at this boundary
      let s := if r.filter = 2 ∧ x.running = true ∧ b.toNat % 1000 = 0 ∧ x.span.toNat + 1000 ≤ b.toNat then
          let idx := (b.toNat - 1000 - x.span.toNat) / 1000
          if idx % r.decim = 0 ∧ x.got < r.periods then s.addPeriod k r (r.chans.flatMap (s.milliValues r)) else s
        else s
      -- a span starts
      let s := if b.toNat % r.spanLen = 0 ∧ (x.running = true ∨ r.startAt ≤ b) then
          s.modStream k fun x => { x with running := true, span := b, body := [], got := 0 }
        else s
      let x := s.tel.streams[k]
      if r.filter ≠ 2 ∧ x.running = true ∧ x.span ≤ b ∧ (b.toNat - x.span.toNat) % r.decim = 0 ∧ x.got < r.periods then
        s.addPeriod k r (r.chans.flatMap (s.beatValues r set))
      else s

/-- Every stream, in ascending number (R298). -/
def State.telBoundary (s : State) (b : Beat) (set : SampleSet) : State := forEach (allFin 8) s fun s k => s.streamBoundary b set k

/-! ### Writing blocks (R297, R298, R302) -/

/-- STREAM_CONFIG disables whose stream has nothing more to write complete (R308). -/
def State.pumpDisables (s : State) : State :=
  let due := s.tel.disableCmds.filter fun x => !s.stagedOf x.2
  forEach due (s.modTel fun t => { t with disableCmds := t.disableCmds.filter fun x => !due.contains x }) fun s x =>
    (s.complete x.1 0 0 0).pumpCmd

/-- The oldest staged block is written: PAD header, values and padding, header, message. -/
def State.blockWrite (s : State) : State :=
  match s.tel.staged with
  | [] => s
  | b :: rest =>
      if !s.mayWrite then s
      else
        let s := s.modTel fun t => { t with staged := rest }
        let s := match b.pad with
          | some (a, bytes) => let s := s.sendBytes a bytes; if b.message then s.vector (3 + b.stream.val) else s
          | none => s
        let s := (s.sendBytes (b.addr + 16) b.body).sendBytes b.addr b.header
        let s := if b.message then s.vector (3 + b.stream.val) else s
        let s := s.modStream b.stream fun x =>
          if x.gen = b.gen then { x with write := b.nextAt, phase := b.nextPhase, seq := b.seq } else x
        s.pumpDisables
/-- BLOCK_WRITE (R297). -/
def execBlockWrite (s : State) : Host.Outcome State Fault Refusal := done s.blockWrite

/-- A write of HRG_DB_TSQk releases units (R257, R300). -/
def State.dbTsq (s : State) (k : Fin 8) (v : Word) : State :=
  match (s.tel.streams[k]).run with
  | some r =>
      if v.toNat < 2 ^ r.size then
        let t := s.modStream k fun x => { x with read := v.toNat }
        if (s.tel.streams[k]).write = v.toNat then t.modHost fun h => { h with msixPend := h.msixPend &&& ~~~(1#32 <<< (3 + k.val)) }
        else t
      else s.modHost fun h => { h with dbErr := true }
  | none => s.modHost fun h => { h with dbErr := true }
/-- HRG_DB_TSQ (R300). -/
def execHrgDbTsq (k : Fin 8) (v : Word) (s : State) : Host.Outcome State Fault Refusal := done (s.bar (s.dbTsq k v))

/-- The link has a new speed and width; OVERCOMMIT where one of them is lower and the enabled streams exceed the new limit
(R306). -/
def State.retrain (s : State) (speed width : Nat) : State :=
  let lower := decide (speed < s.host.speed) || decide (width < s.host.width)
  let s := s.modHost fun h => { h with speed := speed, width := width }
  if s.overLink [] && lower then s.devEvent 19 [Config.overcommitStream (s.host.evtSeq + 1), 2] else s
/-- LINK_RETRAIN (R306). -/
def execLinkRetrain (speed width : Nat) (s : State) : Host.Outcome State Fault Refusal :=
  done (if s.host.linkUp ∧ 1 ≤ speed ∧ speed ≤ 4 ∧ 1 ≤ width ∧ width ≤ 2 then s.retrain speed width else s)

/-- Streams disabled with the rings, staged blocks discarded (R301). -/
def State.telReset (s : State) : State :=
  (s.modTel fun t => { t with streams := t.streams.map Stream.disable, staged := [] }).pumpDisables

end Sys2Proof.Machine
end

