-- ==== Sys2Proof/Machine/Domain.lean ====
section
/-!
DEFINITION. The commands of the beat ring and the sync domain (spec/10_sync_domain.md, R309 to R341), what every beat
boundary does to the domain, and the re-epoch.
-/
namespace Sys2Proof.Machine

/-! ### Ports and trains (R310 to R314, R319, R320) -/

/-- RING_PORT_CHANGE (R310, R319, R341). -/
def State.ringPort (s : State) (ring up : Bool) : State :=
  if (s.dom.port ring).up = up then s
  else
    let s := s.modRing ring fun p =>
      { p with up := up, trains := false, quiet := 16, missing := 16, seen := false, others := 0
               burst := if up then 16 else 0, pingAt := none, queue := if up then p.queue else [] }
    (s.devEvent 32 [if ring then 1 else 0, if up then 1 else 0]).irq 12
def execRingPortChange (ring up : Bool) (s : State) : Host.Outcome State Fault Refusal := done (s.ringPort ring up)

/-- The device originates trains now: a leader that joins a better one has stopped (R339). -/
def Domain.originating (d : Domain) : Bool := d.state.originates && !d.joining

/-- A train leaves on its ring: hop messages are removed, one waiting message takes the first EMPTY slot 1 or 2 (R313). -/
def State.forwardTrain (s : State) (ring : Bool) (hdr : List Byte) (slots : List (List Byte)) : State :=
  let clr := fun (x : List Byte) => if isHop x then [] else x
  let s0 := slots.getD 0 []
  let s1 := clr (slots.getD 1 [])
  let s2 := clr (slots.getD 2 [])
  match s.dom.state.member, (s.dom.port ring).queue with
  | true, m :: ms =>
      if s1 = [] then (s.modRing ring fun p => { p with queue := ms }).send (.ringTrain ring hdr [s0, m, s2])
      else if s2 = [] then (s.modRing ring fun p => { p with queue := ms }).send (.ringTrain ring hdr [s0, s1, m])
      else s.send (.ringTrain ring hdr [s0, s1, s2])
  | _, _ => s.send (.ringTrain ring hdr [s0, s1, s2])

/-- The servo of R322 on one train; `e` in 0.25 ns. -/
def Domain.servoStep (d : Domain) (e : Int) : Domain :=
  let free := !(d.trim = 400000 && e ≤ 0) && !(d.trim = -400000 && 0 ≤ e)
  let sm := if free then d.servo + e else d.servo
  let good := decide (e.natAbs ≤ 20)
  { d with err := e, servo := sm, trim := clampInt (-400000) 400000 (-(100 * e + sm))
           ok := if good then d.ok + 1 else 0, bad := if good then 0 else d.bad + 1 }

/-- A good header of a leader's train, at a device that does not take it as its own (R314, R320, R322, R338, R339). `t` is
the local boundary less the train start at the input, 0.25 ns. -/
def State.leaderTrain (s : State) (ring : Bool) (addr : Nat) (strap : Bool) (acc : Nat) (t : Int) : State :=
  let mine := s.dom.state.member && addr == s.dom.leader
  let s := s.modRing ring fun p =>
    { p with leader := addr, dly := acc + p.hop, seen := p.seen || mine, missing := if mine then 0 else p.missing
             others := if mine then 0 else if p.otherAddr = addr then p.others + 1 else 1
             otherAddr := if mine then p.otherAddr else addr, otherStrap := if mine then p.otherStrap else strap }
  let d := s.dom
  let s := if mine && ring != d.ringUsed then
      s.modDom fun d => { d with gain := if (d.port ring).dly + 4000 < (d.port d.ringUsed).dly then d.gain + 1 else 0 }
    else s
  if mine && ring == d.ringUsed && (d.state == .acquire || d.state == .aligned) then
    s.modDom fun d => d.servoStep (t + (d.port ring).dly)
  else s

/-- A train arrives (R313, R314): its header in 10 bytes, its slots (an EMPTY one as no bytes), the forwarding latency
and the local boundary less the train start, both in 0.25 ns. -/
def State.trainIn (s : State) (ring : Bool) (hdr : List Byte) (slots : List (List Byte)) (f : Nat) (t : Int) : State :=
  let p := s.dom.port ring
  if !p.up || !s.beat.running then s
  else
    let badSlots := (slots.filter fun x => x != [] && !slotGoodCrc x).length
    let s := if p.trains then s else s.irq 12
    let s := (s.modRing ring fun p => { p with quiet := 0, trains := true }).modDom fun d =>
      { d with slotErr := min 0xFFFF (d.slotErr + badSlots) }
    if crc8 (hdr.take 9) != hdr.getD 9 0 then
      let s := s.modDom fun d => { d with hdrErr := min 0xFFFF (d.hdrErr + 1) }
      if s.dom.originating then s else s.forwardTrain ring (hdr.take 9 ++ [~~~(hdr.getD 9 0)]) slots
    else
      let acc := getLe hdr 4 3
      let lead := getLe hdr 7 2
      let addr := lead % 1024
      let cand := lead / 2048 % 2 == 1
      let strap := lead / 4096 % 2 == 1
      let s := if s.dom.originating then s
        else
          let h := hdr.take 4 ++ leBytes 3 (acc + p.hop + f) ++ slice hdr 7 2
          s.forwardTrain ring (h ++ [crc8 h]) slots
      if cand then s
      else if s.dom.state = .leading ∧ addr = s.dom.addr then s.modDom fun d => { d with closed := 0 }
      else if s.dom.state = .off ∨ s.dom.state = .conflict then s
      else s.leaderTrain ring addr strap acc t
/-- TRAIN_RECEIVE (R314). -/
def execTrainReceive (ring : Bool) (hdr : List Byte) (slots : List (List Byte)) (f : Nat) (t : Int) (s : State) :
    Host.Outcome State Fault Refusal := done (s.trainIn ring hdr slots f t)

/-- PING_SEND (R319): the input of `ring` is measured; the PING leaves on the other ring's output. -/
def State.pingSend (s : State) (ring : Bool) : State :=
  let p := s.dom.port ring
  let due := match p.pingAt with
    | none => true
    | some a => if 0 < p.burst then decide (a < s.beat.uptime) else decide (a + 1000 ≤ s.beat.uptime)
  let may := s.dom.state.member || s.dom.state.originates
  if p.up && may && due then
    let s := s.modRing ring fun p => { p with burst := p.burst - 1, pingAt := some s.beat.uptime, pingSeq := (p.pingSeq + 1) % 256 }
    s.queueMsg (!ring) (slotBytes 0x20 s.dom.addr [byte p.pingSeq])
  else s
def execPingSend (ring : Bool) (s : State) : Host.Outcome State Fault Refusal := done (s.pingSend ring)

/-- PING (R319): answered on the other ring with the turnaround in 0.25 ns. -/
def execPing (ring : Bool) (addr seq turn : Nat) (s : State) : Host.Outcome State Fault Refusal :=
  let _ := addr
  done (if s.dom.state.member || s.dom.state.originates then
    s.queueMsg (!ring) (slotBytes 0x21 s.dom.addr ([byte seq] ++ leBytes 3 turn)) else s)

/-- PONG (R319): the round trip of an exchange, 0.25 ns. -/
def execPong (ring : Bool) (addr seq turn rt : Nat) (s : State) : Host.Outcome State Fault Refusal :=
  let _ := addr
  let _ := seq
  done (if (s.dom.port ring).up then
    s.modRing ring fun p => { p with hs := (((rt : Int) - turn) :: p.hs).take 16 } else s)

/-- RING_SWITCH (R320): the ring in use has carried no valid train for 4 beats while the other one does, or the other has
been shorter by more than 1 µs for 1,000 beats. -/
def State.ringSwitch (s : State) : State :=
  let d := s.dom
  let loss := 4 ≤ (d.port d.ringUsed).missing && (d.port (!d.ringUsed)).usable
  if d.state.member && (loss || decide (1000 ≤ d.gain)) then s.modDom fun d => { d with ringUsed := !d.ringUsed, gain := 0 }
  else s
def execRingSwitch (s : State) : Host.Outcome State Fault Refusal := done s.ringSwitch

/-! ### Alignment (R322) -/

/-- ALIGNED_ENTRY (R322). -/
def execAlignedEntry (s : State) : Host.Outcome State Fault Refusal :=
  done (if s.dom.state = .acquire ∧ 1000 ≤ s.dom.ok then s.domGo .aligned else s)
/-- ALIGNMENT_LOSS (R322). -/
def execAlignmentLoss (s : State) : Host.Outcome State Fault Refusal :=
  done (if s.dom.state = .aligned ∧ 16 ≤ s.dom.bad then s.domGo .acquire else s)

/-! ### Election, loss, comparison (R317, R318, R338, R339) -/

/-- DOM_CTRL.EN is written (R317, R318, R324). -/
def State.domEn (s : State) (en : Bool) : State :=
  let st := s.dom.state
  let s := s.modDom fun d => { d with en := en }
  if en then (if st = .off ∨ st = .conflict then s.enterSearch else s)
  else ((s.modDom fun d => { d with joining := false, reepochDue := false, best := none, roster := 0, leader := 0 }).setHoldover false).domGo
    .off

/-- R_last of a leader becomes the present roster (R336). -/
def State.rlastClr (s : State) : State :=
  if s.dom.state = .leading then s.modDom fun d => { d with rlast := s.rosterSize } else s

/-- A write of DOM_CTRL: BAR_MODE, EN, RLAST_CLR. -/
def State.domCtrl (s : State) (v : Word) : State :=
  let s := (s.modDom fun d => { d with barMode := bit v 1 }).domEn (bit v 0)
  if bit v 2 then s.rlastClr else s
/-- DOM_CTRL_EN (R317). -/
def execDomCtrlEn (v : Word) (s : State) : Host.Outcome State Fault Refusal := done (s.bar (s.domCtrl v))
/-- RLAST_CLR (R336). -/
def execRlastClr (v : Word) (s : State) : Host.Outcome State Fault Refusal := done (s.bar (s.domCtrl v))

/-- LEADER_LOST (R338). -/
def State.leaderLost (s : State) : State :=
  if s.dom.state.member && s.dom.ports.toList.all fun p => decide (16 ≤ p.missing) then (s.setHoldover true).enterSearch else s
def execLeaderLost (s : State) : Host.Outcome State Fault Refusal := done s.leaderLost

/-- ELECTION_WIN (R317). -/
def State.electionWin (s : State) : State :=
  if s.dom.state = .search ∧ s.dom.best = some s.ownKey ∧ 2000 ≤ s.dom.still then
    let s := (s.setLeader s.dom.addr s.dom.strapped true).setHoldover false
    let s := s.modDom fun d => { d with closed := 16, members := [], reports := [], otherInfo := none }
    (s.domGo .leading).recount
  else s
def execElectionWin (s : State) : Host.Outcome State Fault Refusal := done s.electionWin

/-- ELECTION_RESTART (R317). -/
def State.electionRestart (s : State) : State :=
  if s.dom.state = .search ∧ s.dom.best ≠ some s.ownKey ∧ 4000 ≤ s.dom.still ∧ s.dom.heardBest = false then
    s.modDom fun d => { d with best := some s.ownKey, still := 0, ports := d.ports.map fun p => { p with others := 0 } }
  else s
def execElectionRestart (s : State) : Host.Outcome State Fault Refusal := done s.electionRestart

/-- STRAP_CONFLICT is found (R318, R340). -/
def State.strapConflict (s : State) (addr : Nat) : State :=
  if s.dom.strapConflict then s
  else (s.modDom fun d => { d with strapConflict := true }).devEvent 40 ([1, 0] ++ leBytes 2 addr)

/-- CLAIM (R317, R318). -/
def State.claim (s : State) (addr : Nat) (strap : Bool) (serial : Nat) : State :=
  let k : DomKey := { strap := strap, addr := addr, serial := serial }
  if s.dom.state = .off ∨ s.dom.state = .conflict then s
  else if addr = s.dom.addr ∧ serial ≠ s.serial then
    let s := (s.modDom fun d => { d with addrConflict := true, best := none, joining := false }).devEvent 40 ([0, 0] ++ leBytes 2 addr)
    s.domGo .conflict
  else
    let s := if strap && s.dom.strapped && addr != s.dom.addr then s.strapConflict addr else s
    match s.dom.state, s.dom.best with
    | .search, some b => if k.better b then s.modDom fun d => { d with best := some k, still := 0 } else s
    | .search, none => s.modDom fun d => { d with best := some k, still := 0 }
    | _, _ => s
def execClaim (ring : Bool) (addr : Nat) (strap : Bool) (serial : Nat) (s : State) : Host.Outcome State Fault Refusal :=
  let _ := ring
  done (s.claim addr strap serial)

/-- LEADER_COMPARE (R339): after 16 trains of another leader on an input and its INFO. -/
def State.leaderCompare (s : State) (ring : Bool) : State :=
  let p := s.dom.port ring
  let d := s.dom
  match d.otherInfo with
  | some (a, roster) =>
      if a = p.otherAddr ∧ 16 ≤ p.others ∧ (d.state.member ∨ d.state = .leading) then
        let mine := if d.state = .leading then d.strapped else d.leaderStrap
        let s := if p.otherStrap && mine then s.strapConflict a else s
        let better := if p.otherStrap != mine then p.otherStrap
          else if roster ≠ d.roster then decide (d.roster < roster) else decide (a < d.leader)
        if better then s.modDom fun d => { d with joining := true } else s
      else s
  | none => s
def execLeaderCompare (ring : Bool) (s : State) : Host.Outcome State Fault Refusal := done (s.leaderCompare ring)

/-- EPOCH (R321): the leader's address and strap, and the offset Δ in ns. -/
def State.epoch (s : State) (addr : Nat) (strap : Bool) (delta : Int) : State :=
  let d := s.dom
  let elected := d.state == .search && (match d.best with | some k => k.addr == addr && addr != d.addr | none => false)
  let better := d.joining && (match d.otherInfo with | some (a, _) => a == addr | none => false)
  if elected || better then s.join addr strap delta
  else if d.state.member && addr == d.leader then s.modDom fun d => { d with delta := delta }
  else s
def execEpoch (ring : Bool) (addr : Nat) (strap : Bool) (delta : Int) (s : State) : Host.Outcome State Fault Refusal :=
  let _ := ring
  done (s.epoch addr strap delta)

/-- INFO (R315, R336, R339). -/
def execInfo (ring : Bool) (addr roster rlast lead q : Nat) (s : State) : Host.Outcome State Fault Refusal :=
  let _ := ring
  let d := s.dom
  done (if d.state.member && addr == d.leader then
      s.modDom fun d => { d with roster := roster, rlast := rlast, leadUse := lead, qUse := q }
    else if d.state.member || (d.state == .leading && addr != d.addr) then
      s.modDom fun d => { d with otherInfo := some (addr, roster) }
    else s)

/-! ### Re-epoch (R339) -/

/-- REEPOCH: an OUT_OF_STEP device may; it takes place at its next boundary. -/
def execReepoch (s : State) : Host.Outcome State Fault Refusal :=
  done (if s.dom.state = .outOfStep ∧ s.reepochOk = true then
    ((s.modDom fun d => { d with reepochDue := true }).setHoldover false).domGo .acquire else s)

/-- A step start follows the count. -/
def EstEv.renumber (e : EstEv) (sh : Beat → Beat) : EstEv :=
  match e with
  | .stepStart r i t a b beat => .stepStart r i t a b (sh beat)
  | e => e
/-- The beats to which the estimator compares later ones follow the count. -/
def Est.renumber (e : Est) (sh : Beat → Beat) : Est :=
  { e with ref := e.ref.map fun r => { r with beat := sh r.beat }, forget := e.forget.map sh, relaxRest := e.relaxRest.map sh
           dcir := e.dcir.map fun d => { d with startBeat := sh d.startBeat } }
/-- The impedance records of a half follow the count. -/
def OpenZ.renumber (z : OpenZ) (sh : Beat → Beat) : OpenZ := { z with beatE := sh z.beatE, stepBeat := sh z.stepBeat }
def Context.renumber (x : Context) (sh : Beat → Beat) : Context :=
  { x with step := { x.step with stepBeat := sh x.step.stepBeat }, openZ := x.openZ.map fun z => z.renumber sh
           doneZ := x.doneZ.map fun z => z.renumber sh }
/-- The beats that a channel's pending work names follow the count. -/
def Chan.renumber (c : Chan) (sh : Beat → Beat) (odd : Bool) : Chan :=
  let c := if odd then { c with curHalf := !c.curHalf, halves := #v[c.halves[1], c.halves[0]] } else c
  { (c.both fun x => x.renumber sh) with
      snap := c.snap.map fun x => { x with due := sh x.due }
      requests := c.requests.map fun r => { r with due := sh r.due }
      releaseDue := c.releaseDue.map sh
      estLate := c.estLate.map fun e => { e with due := sh e.due }
      ep := { c.ep with rest := c.ep.rest.map sh, evs := c.ep.evs.map fun e => e.renumber sh }
      estCur := c.estCur.renumber sh, estNext := c.estNext.renumber sh }

/-- The sums of the tenth and milli periods in progress are ended. -/
def Chan.endPeriods (c : Chan) : Chan :=
  { c with tP := 0, tV := 0, tN := 0, tenth := #v[c.band, c.band], bandStart := false, pfZero := false, estNext := c.estCur
           milliIn := MilliIn.reset
           ep := { EstPeriod.reset with temp := c.ep.temp, tempOld := c.ep.tempOld, rest := c.ep.rest, stepLane := c.ep.stepLane
                                        evs := c.ep.evs } }
def Phase.endPeriods (q : Phase) : Phase := { q with edgesNow := 0, minTimeNow := false, mI := 0, mIn := 0, mV := 0, mVn := 0 }

/-- A group's items that name beats follow the count; the calibration slot in progress ends, its slice stays the spare. -/
def Group.renumber (g : Group) (sh : Beat → Beat) : Group :=
  { g with substs := g.substs.map fun x => { x with start := sh x.start, testAt := sh x.testAt }
           wrBeatI := g.wrBeatI.map sh, wrBeatV := g.wrBeatV.map sh, slotAt := none
           calI := { g.calI with active := false, pts := [], par := [] }, calV := { g.calV with active := false, pts := [], par := [] } }

/-- The beat unit renumbered: slow jobs that are not DONE are discarded (R339). -/
def BeatUnit.renumber (u : BeatUnit) (sh : Beat → Beat) : BeatUnit :=
  { u with number := sh u.number
           writes := u.writes.map fun w => { w with due := sh w.due }
           sets := u.sets.map fun x => { x with beat := sh x.beat }
           forming := { u.forming with beat := sh u.forming.beat }
           jobs := (u.jobs.filter fun j => j.cls == .beat || j.cls == .catchUp).map fun j => { j with beat := sh j.beat } }

/-- The domain's own beats follow the count. -/
def Domain.renumber (d : Domain) (sh : Beat → Beat) : Domain :=
  { d with reepochDue := false, releases := [], lastRel := d.lastRel.map fun (x, b) => (x, (sh (BitVec.ofNat 64 b)).toNat)
           stage := { d.stage with actAt := d.stage.actAt.map sh }, updAt := d.updAt.map sh }
/-- Results of slow jobs that are DONE become current as their periods end (R28, R339). -/
def State.takeDone (s : State) (closed : Beat) : State :=
  forEach s.runChans s fun s n =>
    let s := if s.slowDone n .tenth then s.modChan n fun c => c.takeTenth true (areaOf closed 10) else s
    if s.slowDone n .milli then s.takeMilli n else s
/-- The re-epoch of R339 at a boundary that has just opened a beat. -/
def State.reepoch (s : State) : State :=
  if s.dom.reepochDue = false then s
  else
    let s := s.takeDone (s.beat.number - 1)
    let k := divRound s.dom.delta 1000
    let former := s.beat.number
    let sh := fun (b : Beat) => b - BitVec.ofInt 64 k
    let odd := k % 2 != 0
    let s := (s.modBeat fun u => u.renumber sh).modDom fun d => d.renumber sh
    let s := s.modHost fun h => { h with waiters := h.waiters.map fun w =>
      match w with | .commit id l b k => .commit id l (if b = 0 then b else sh b) k | w => w }
    let s : State :=
      { s with chans := s.chans.map fun c => (c.renumber sh odd).endPeriods
               phases := s.phases.map fun q => { q.endPeriods with rejoin := q.rejoin.map sh }
               groups := s.groups.map fun g => g.renumber sh
               lane := { s.lane with inputs := s.lane.inputs.map fun (b, f) => (sh b, f) } }
    let s := s.modTel fun t => { t with streams := t.streams.map Stream.disable }
    let s := forEach s.runChans s fun s n => s.modChan n fun c => if c.cur.step.running then { c with detLapsed := true } else c
    (s.devEvent 39 (leBytes 8 former.toNat)).pumpDisables

/-! ### Messages of the leader (R330, R332, R337) -/

/-- A member that accepts releases (R330). -/
def DomState.accepts : DomState → Bool
  | .acquire | .aligned => true
  | _ => false

/-- RING_RELEASE (R330): the offset of the message and the low 32 bits of the train's beat number. -/
def State.releaseIn (s : State) (addr id offset rseq trainBeat : Nat) : State :=
  let d := s.dom
  if d.state.accepts && addr == d.leader && !d.seenRel.contains rseq then
    let n := beatNear s.beat.number (trainBeat + offset)
    let s := s.modDom fun d => { d with seenRel := (rseq :: d.seenRel).take 32 }
    if n ≤ s.beat.number + 1 then (s.devEvent 41 (leBytes 4 id)).irq 13
    else (s.modDom fun d => { d with releases := d.releases ++ [{ id := id, beat := n, rseq := rseq }] }).eventAt n .device 0 35
      (leBytes 4 id)
  else s
def execRingRelease (ring : Bool) (addr id offset rseq trainBeat : Nat) (s : State) : Host.Outcome State Fault Refusal :=
  let _ := ring
  done (s.releaseIn addr id offset rseq trainBeat)

/-- ACTIVATE (R337): a member with the armed tag notes its beat N. -/
def State.activateIn (s : State) (addr tag offset rseq trainBeat : Nat) : State :=
  let d := s.dom
  if d.state.accepts && addr == d.leader && !d.seenAct.contains rseq then
    let n := beatNear s.beat.number (trainBeat + offset)
    let s := s.modDom fun d => { d with seenAct := (rseq :: d.seenAct).take 32 }
    if d.stage.state = .armed ∧ d.stage.tag = tag then s.modDom fun d => { d with stage := { d.stage with actAt := some n } } else s
  else s
def execActivate (ring : Bool) (addr tag offset rseq trainBeat : Nat) (s : State) : Host.Outcome State Fault Refusal :=
  let _ := ring
  done (s.activateIn addr tag offset rseq trainBeat)

/-- ACTIVATE_COMMIT (R337): in beat N − 1 every configured channel of the mask is committed. -/
def State.activateCommit (s : State) : State :=
  match s.dom.stage.actAt with
  | some n =>
      if s.beat.number + 1 = n then
        let cs := (maskChans s.dom.stage.mask).filterMap (finOf 160)
        let s := forEach (cs.filter s.isConf) s fun s c => s.snapshot c n
        let tag := s.dom.stage.tag
        let s := s.modDom fun d => { d with stage := { d.stage with state := .done, actAt := none }, act := { d.act with n := n } }
        s.devEvent 38 (leBytes 2 tag)
      else s
  | none => s
def execActivateCommit (s : State) : Host.Outcome State Fault Refusal := done s.activateCommit

/-- A mismatch is recorded (R332): DOM_MIS, the fault source and interrupt source 14. -/
def State.mismatch (s : State) (addr : Nat) : State :=
  let s := s.modDom fun d =>
    { d with dig := { d.dig with misCount := satInc 0xFFFF d.dig.misCount, misValid := true, misAddr := addr } }
  (s.raiseDev 23 0).irq 14
/-- MISMATCH (R332), addressed to a member. -/
def execMismatch (ring : Bool) (addr : Nat) (trunc : List Byte) (s : State) : Host.Outcome State Fault Refusal :=
  let _ := ring
  let _ := trunc
  done (if s.dom.state.member && addr == s.dom.addr then s.mismatch s.dom.leader else s)

/-! ### Reports of members (R327, R332, R335) -/

def Member.new (addr : Nat) : Member :=
  { addr := addr, state := 0, flags := 0, dly := 0, at_ := 0, digest := none, differs := none, staged := none, upd := none }

/-- A member's record replaced, in ascending address. -/
def putMember (m : Member) : List Member → List Member
  | [] => [m]
  | x :: xs => if m.addr < x.addr then m :: x :: xs else if m.addr = x.addr then m :: xs else x :: putMember m xs
def State.modMember (s : State) (addr : Nat) (f : Member → Member) : State :=
  s.modDom fun d => { d with members := d.members.map fun m => if m.addr = addr then f m else m }

/-- STATUS (R315, R327). -/
def State.statusIn (s : State) (addr st flags dly : Nat) : State :=
  if s.dom.state = .leading ∧ addr ≠ s.dom.addr then
    let m := (s.dom.members.find? fun m => m.addr == addr).getD (Member.new addr)
    let m := { m with state := st, flags := flags, dly := dly, at_ := s.now }
    (s.modDom fun d => { d with members := putMember m d.members }).recount
  else s
def execStatus (ring : Bool) (addr st flags dly : Nat) (s : State) : Host.Outcome State Fault Refusal :=
  let _ := ring
  done (s.statusIn addr st flags dly)

/-- DIGEST (R332). -/
def execDigest (ring : Bool) (addr : Nat) (trunc : List Byte) (s : State) : Host.Outcome State Fault Refusal :=
  let _ := ring
  done (if s.dom.state = .leading then
    s.modMember addr fun m => { m with digest := some (padTo 8 trunc, s.now / 10000) } else s)

/-- BAR_REPORT (R326, R327). -/
def execBarReport (ring : Bool) (addr id : Nat) (ready waiting : Bool) (digest : List Byte) (s : State) :
    Host.Outcome State Fault Refusal :=
  let _ := ring
  done (if s.dom.state = .leading then
    s.modDom fun d =>
      let rest := d.reports.filter fun r => !(r.addr == addr && r.id == id && r.digest == digest)
      { d with reports := rest ++
          [{ addr := addr, id := id, digest := digest, ready := ready, waiting := waiting, at_ := s.now }] }
    else s)

/-- STAGED (R334, R335). -/
def execStaged (ring : Bool) (addr tag count : Nat) (s : State) : Host.Outcome State Fault Refusal :=
  let _ := ring
  let _ := count
  done (if s.dom.state = .leading then s.modMember addr fun m => { m with staged := some (tag, s.now) } else s)

/-- UPD_STAGED (R337, R514). -/
def execUpdStagedMessage (ring : Bool) (addr : Nat) (trunc : List Byte) (s : State) : Host.Outcome State Fault Refusal :=
  let _ := ring
  done (if s.dom.state = .leading then s.modMember addr fun m => { m with upd := some (padTo 8 trunc, s.now) } else s)

/-! ### Releases and activations at the leader (R327, R328, R335) -/

/-- BARRIER_RELEASE_ISSUE (R327): AUTO mode; a device in OFF under (c) and (d) alone (R330). -/
def State.releaseAuto (s : State) (x : Nat) : State :=
  let l := s.freshReports x
  let cd := someWaits l && allReady l
  if s.dom.state = .off then (if cd && s.roomForRelease x then s.issueRelease x else s)
  else if s.dom.state ≠ .leading ∨ s.dom.joining = true ∨ s.dom.barMode = true ∨ cd = false then s
  else if s.quorumOk && s.noneAcquiring && oneDigest l then (if s.roomForRelease x then s.issueRelease x else s)
  else
    let s := if s.quorumOk then s else s.blockedBy x 1
    let s := if s.noneAcquiring then s else s.blockedBy x 2
    if oneDigest l then s else s.blockedBy x 3
def execBarrierReleaseIssue (id : Nat) (s : State) : Host.Outcome State Fault Refusal := done (s.releaseAuto id)

/-- DOM_BAR_REL (R328). -/
def State.barRel (s : State) (v : Word) : State :=
  let x := v.toNat
  let result := fun (s : State) (r : Nat) => s.modDom fun d => { d with barResult := r }
  if x = 0 then s
  else if s.dom.state ≠ .leading then result s 2
  else if s.dom.barMode = false then result s 3
  else if s.quorumOk = false then result s 4
  else if s.noneAcquiring = false then result s 5
  else if oneDigest (s.freshReports x) = false then result s 6
  else if s.roomForRelease x = false then result s 7
  else result (s.issueRelease x) 1
def execDomBarRel (v : Word) (s : State) : Host.Outcome State Fault Refusal := done (s.bar (s.barRel v))

/-- A write of DOM_ACT (R335): CANCEL, GO. -/
def State.domAct (s : State) (v : Word) : State :=
  let s := s.modDom fun d => { d with act := { d.act with cfg := v &&& 0x3000FFFF#32 } }
  let s := if bit v 30 && s.dom.act.order.isSome then
      s.modDom fun d => { d with act := { d.act with order := none, result := 4 } }
    else s
  if !bit v 31 then s
  else if s.dom.state ≠ .leading then s.modDom fun d => { d with act := { d.act with result := 5 } }
  else
    s.modDom fun d =>
      { d with act := { d.act with result := 1
                                   order := some { tag := fld v 0 16, all := bit v 29
                                                   bar := if bit v 28 then some d.act.bar.toNat else none, since := s.now } } }
/-- DOM_ACT_GO (R335). -/
def execDomActGo (v : Word) (s : State) : Host.Outcome State Fault Refusal := done (s.bar (s.domAct v))
/-- DOM_ACT_CANCEL (R335). -/
def execDomActCancel (v : Word) (s : State) : Host.Outcome State Fault Refusal := done (s.bar (s.domAct v))

/-- The members' STAGED reports satisfy an order (R335). -/
def State.stagedOk (s : State) (o : ActOrder) : Bool :=
  let ok := fun (m : Member) => match m.staged with | some (t, a) => t == o.tag && decide (s.now < a + 3000) | none => false
  let own := s.dom.stage.state == .armed && s.dom.stage.tag == o.tag
  if o.all then s.alignedMembers.all ok else own || s.alignedMembers.any ok

/-- ACTIVATION_SEND (R335). -/
def State.activationSend (s : State) : State :=
  match s.dom.act.order with
  | some o =>
      if s.dom.state = .leading ∧ o.bar = none ∧ s.quorumOk = true ∧ s.noneAcquiring = true ∧ s.stagedOk o = true then
        s.sendActivate o (s.beat.number + BitVec.ofNat 64 s.leadInUse)
      else s
  | none => s
def execActivationSend (s : State) : Host.Outcome State Fault Refusal := done s.activationSend

/-- ACTIVATION_TIMEOUT (R335). -/
def State.activationTimeout (s : State) : State :=
  match s.dom.act.order with
  | some o =>
      if o.bar = none ∧ o.since + 100000 ≤ s.now then
        s.modDom fun d => { d with act := { d.act with order := none, result := 3 } }
      else s
  | none => s
def execActivationTimeout (s : State) : Host.Outcome State Fault Refusal := done s.activationTimeout

/-- DOM_STAGE (R334). -/
def State.domStage (s : State) (v : Word) : State :=
  let arm := bit v 31 && fld v 0 16 != 0
  s.modDom fun d =>
    { d with stage := { d.stage with tag := fld v 0 16, state := if arm then .armed else .idle
                                     sentAt := none, actAt := none } }
def execDomStage (v : Word) (s : State) : Host.Outcome State Fault Refusal := done (s.bar (s.domStage v))

/-! ### What members send (R326, R332, R334) -/

/-- BAR_REPORT_SEND (R326): on a change and every 1,000 beats. -/
def State.barReportSend (s : State) (x : Nat) : State :=
  let l := s.ownReports x
  let old := s.dom.barSent.find? fun b => b.id == x
  if l.isEmpty then s.modDom fun d => { d with barSent := d.barSent.filter fun b => b.id != x }
  else
  let due := match old with | some b => b.reports != l || decide (b.sentAt + 1000 ≤ s.beat.uptime) | none => true
  if s.dom.state.member && due then
    let s := s.modDom fun d =>
      { d with barSent := (d.barSent.filter fun b => b.id != x) ++ [{ id := x, reports := l, sentAt := s.beat.uptime }] }
    forEach l s fun s r =>
      s.memberMsg 0x12 ((if r.ready then 32768 else 0) + if r.waiting then 16384 else 0) (leBytes 4 x ++ r.digest)
  else s
def execBarReportSend (id : Nat) (s : State) : Host.Outcome State Fault Refusal := done (s.barReportSend id)

/-- DIGEST_SEND (R332). -/
def State.digestSend (s : State) : State :=
  let p := s.now / 10000
  if s.dom.state = .aligned ∧ s.dom.dig.sweepSent ≠ some p ∧ 8 * s.dom.addr ≤ s.now % 10000 then
    (s.modDom fun d => { d with dig := { d.dig with sweepSent := some p } }).memberMsg 0x11 0 (s.dom.dig.shared.take 8)
  else s
def execDigestSend (s : State) : Host.Outcome State Fault Refusal := done s.digestSend

/-- STAGED_SEND (R334). -/
def State.stagedSend (s : State) : State :=
  let due := match s.dom.stage.sentAt with | some a => decide (a + 1000 ≤ s.beat.uptime) | none => true
  if s.dom.state.member && s.dom.stage.state == .armed && due then
    let n := ((maskChans s.dom.stage.mask).filter fun c => match finOf 160 c with | some k => s.isConf k | none => false).length
    (s.modDom fun d => { d with stage := { d.stage with sentAt := some s.beat.uptime } }).memberMsg 0x13 0
      (leBytes 2 s.dom.stage.tag ++ leBytes 2 n)
  else s
def execStagedSend (s : State) : Host.Outcome State Fault Refusal := done s.stagedSend

/-! ### Sweeps (R332, R333) -/

/-- A DIGEST_QUERY of the domain is answered (R333) for sweep `p`. -/
def State.answerQuery (s : State) (p id addr len : Nat) (cut : Option Nat) : State :=
  let own := s.dom.dig.shared.take 8
  let ms := s.rosterMembers
  let rep := fun (m : Member) => match m.digest with | some (t, q) => if q = p then some t else none | none => none
  let bad := fun (m : Member) => match rep m with | some t => t != own | none => false
  let entry := fun (m : Member) =>
    leBytes 2 m.addr ++ [byte m.state, (if bad m then 1 else 0) + (if (rep m).isNone then 2 else 0)] ++ leBytes 4 0 ++
      (rep m).getD (List.replicate 8 0)
  let lead := (s.dom.addr, leBytes 2 s.dom.addr ++ [byte DomState.leading.code, 4] ++ leBytes 4 0 ++ own)
  let lo := (ms.filter fun m => m.addr < s.dom.addr).map entry
  let hi := (ms.filter fun m => !(m.addr < s.dom.addr)).map entry
  let all := lo ++ [lead.2] ++ hi
  let fit := min all.length ((len - 32) / 16)
  let hdr := leBytes 8 (10000 * p) ++ leBytes 2 all.length ++ leBytes 2 (ms.filter bad).length ++ leBytes 2 s.dom.addr ++
    leBytes 2 0 ++ own ++ leBytes 8 0
  (s.completeData id addr (hdr ++ (all.take fit).flatten) cut fit all.length).pumpCmd

/-- SWEEP_END (R332, R333). -/
def State.sweepEnd (s : State) : State :=
  let p := s.now / 10000 - 1
  if s.dom.state ≠ .leading ∨ s.now < 10000 ∨ s.dom.dig.sweepDone = some p then s
  else
    let own := s.dom.dig.shared.take 8
    let s := s.modDom fun d => { d with dig := { d.dig with sweepDone := some p } }
    let s := forEach s.rosterMembers s fun s m =>
      match m.digest with
      | some (t, q) =>
          if q ≠ p then s
          else if t = own then s.modMember m.addr fun m => { m with differs := none }
          else if m.differs = some t then s
          else
            let s := s.modMember m.addr fun m => { m with differs := some t }
            let s := s.modDom fun d => { d with outq := d.outq ++ [(.mismatch m.addr own, 1)] }
            (s.mismatch m.addr).devEvent 37 (leBytes 2 m.addr ++ [0, 0] ++ t)
      | none => s
    let due := s.dom.dig.queries.filter fun q => q.2.1 ≤ p
    let s := s.modDom fun d => { d with dig := { d.dig with queries := d.dig.queries.filter fun q => !(q.2.1 ≤ p) } }
    forEach due s fun s (id, _, addr, len, err) => s.answerQuery p id addr len err
def execSweepEnd (s : State) : Host.Outcome State Fault Refusal := done s.sweepEnd

/-! ### The boundary -/

/-- A train of the device's own at the boundary that opens beat `b` (R311, R312, R315, R317). -/
def State.ownTrain (s : State) (b : Beat) (ring : Bool) (slot0 : List Byte) : State :=
  let d := s.dom
  let f := d.addr + (if ring then 1024 else 0) + (if d.state = .search then 2048 else 0) + if d.strapped then 4096 else 0
  let h := leBytes 4 (b.toNat % 4294967296) ++ leBytes 3 0 ++ leBytes 2 f
  let q := (d.port ring).queue
  let s := s.modRing ring fun p => { p with queue := p.queue.drop 1 }
  s.send (.ringTrain ring (h ++ [crc8 h]) [slot0, q.headD [], []])

/-- Slot 0 of the trains of beat `b`: a CLAIM in SEARCH, EPOCH and INFO of a leader, then its messages in order. -/
def State.slot0 (s : State) (b : Beat) : State × List Byte :=
  let d := s.dom
  if d.state = .search then
    (s, match d.best with
      | some k => slotBytes 0x22 (k.addr + if k.strap then 32768 else 0) (leBytes 8 k.serial)
      | none => [])
  else if b.toNat % 1000 = 0 then (s, slotBytes 0x01 d.addr (leBytes 8 b.toNat))
  else if b.toNat % 1000 = 1 then
    (s, slotBytes 0x02 d.addr (leBytes 2 d.roster ++ leBytes 2 d.rlast ++ leBytes 2 s.leadInUse ++ leBytes 2 s.quorum))
  else match d.outq with
    | (m, k) :: rest =>
        (s.modDom fun d => { d with outq := if 1 < k then (m, k - 1) :: rest else rest }, m.bytes d.addr b)
    | [] => (s, [])

/-- What the boundary that opens beat `b` does to the domain. -/
def State.domBoundary (s : State) (b : Beat) : State :=
  let applied := s.dom.releases.filter fun r => r.beat == b
  let s := forEach applied s fun s r => s.modDom fun d => { d with barId := r.id, barN := r.beat, barRseq := r.rseq }
  let flips := s.dom.ports.toList.any fun p => p.trains && decide (16 ≤ p.quiet + 1)
  let s := if flips then s.irq 12 else s
  let s := s.modDom fun d =>
    { d with releases := d.releases.filter fun r =>
               !(r.beat < b) || s.beat.jobs.any fun j => j.cls == .catchUp && j.beat + 1 == r.beat
             reports := d.reports.filter fun r => decide (b.toNat < r.at_ + 3000)
             ports := d.ports.map fun p => { p with quiet := satInc 16 p.quiet, trains := p.trains && decide (p.quiet + 1 < 16)
                                                    missing := if p.seen then 0 else satInc 16 p.missing, seen := false }
             still := if d.state = .search then d.still + 1 else 0
             closed := satInc 16 d.closed
             joining := d.joining && d.ports.toList.any fun p => decide (p.quiet < 15)
             stage := match d.stage.actAt with | some n => if n ≤ b then { d.stage with actAt := none } else d.stage | none => d.stage }
  let s := s.recount
  let s := if s.dom.state.member ∧ b.toNat % 1000 = 0 then
      let d := s.dom
      let fl := (if d.state = .aligned then 1 else 0) + (if (d.port false).usable then 2 else 0) +
        if (d.port true).usable then 4 else 0
      s.memberMsg 0x10 0 ([byte d.state.code, byte fl] ++ leBytes 3 (d.port d.ringUsed).dly)
    else s
  if s.dom.originating then
    let (s, m) := s.slot0 b
    (s.ownTrain b false m).ownTrain b true m
  else s

end Sys2Proof.Machine
end

