-- ==== Sys2Proof/Machine/EstCmds.lean ====
section
/-!
DEFINITION. Commands of the recipe engine and the estimator that no job gives: the barrier wait limit (R198), the lost
temperature (R188), the stale reference (R235), FORGET (R214), the lifetime area (R243, R244), the heatsink histogram
(R245).
-/
namespace Sys2Proof.Machine

/-! ### Barrier wait limit (R198) -/

/-- A release of barrier `x` applies for beat `b` (R197, R330). -/
def State.releaseFor (s : State) (x : Nat) (b : Beat) : Bool := s.dom.releases.any fun r => r.id == x && r.beat == b

/-- The wait limit of a channel has expired: it is in HOLD at a BARRIER with a limit, has been there for as many
milliseconds, and no release applies in the same beat (R198). -/
def State.barrierExpired (s : State) (n : ChanNo) : Bool :=
  let st := s.chans[n].cur.step
  match s.recipeOf n with
  | some r =>
      let x := r.stepAt st.step
      s.chans[n].state == .hold && x.typ == tBARRIER && x.param2 != 0 && decide (1000 * x.param2 ≤ st.holdBeats) &&
        !s.releaseFor x.param1 (s.beat.number + 1)
  | none => false

/-- The interruption of a wait: the channel goes to RUN in mode REST. -/
def State.barrierTimeout (s : State) (n : ChanNo) : State :=
  if s.barrierExpired n then
    (s.interrupt n .barrierTimeout false s.beat.number).modChan n fun c =>
      c.both fun x => { x with step := { x.step with base := .run, mode := .rest, holdBeats := 0 } }
  else s
/-- BARRIER_TIMEOUT (R198). -/
def execBarrierTimeout (n : ChanNo) (s : State) : Host.Outcome State Fault Refusal := done (s.barrierTimeout n)

/-! ### Lost temperature (R188) -/

/-- A TEMP termination. -/
def Term.isTemp (t : Term) : Bool := t.kind == 8 || t.kind == 9

/-- The step of a channel carries a TEMP termination and its reading is older than 10 s; a missing reading counts from
the later of the mapping and the step's first beat (R188). -/
def State.tempLost (s : State) (n : ChanNo) : Bool :=
  let c := s.chans[n]
  match s.recipeOf n with
  | some r =>
      let x := r.stepAt c.cur.step.step
      let age := if c.temp.value = -32768 then min c.temp.since c.cur.step.beats else c.temp.age
      isExecType x.typ && x.terms.any Term.isTemp && decide (10000000 < age)
  | none => false

/-- The interruption: an ordinary stop to REST (R81, R203). -/
def State.dropTemp (s : State) (n : ChanNo) : State :=
  if s.tempLost n then (s.interrupt n .tempLost false s.beat.number).stopChan n .rest .tempLost false else s
/-- TEMP_LOST (R188). -/
def execTempLost (n : ChanNo) (s : State) : Host.Outcome State Fault Refusal := done (s.dropTemp n)

/-! ### Stale reference (R235, R236) -/

/-- The age of a reference in beats at beat `now`. -/
def OcvRef.age (r : OcvRef) (now : Beat) : Nat := (now - r.beat).toNat + r.savedAge

/-- The estimator with its reference flagged stale: UNC is at least 300. -/
def Est.markStale (e : Est) : Est := { e with stale := true, unc := max 300 e.unc }

/-- The last reference of a channel is older than REF_AGE and not flagged yet. -/
def State.refTooOld (s : State) (n : ChanNo) : Bool :=
  let c := s.chans[n]
  match c.estCur.ref with
  | some r => !c.estCur.stale && decide (refAge c.estCfgRun < r.age s.beat.number)
  | none => false

/-- REFERENCE_STALE is set once, with its event and source 45. -/
def State.refStale (s : State) (n : ChanNo) : State :=
  if s.refTooOld n then
    let s := s.modChan n fun c => { c with estCur := c.estCur.markStale, estNext := c.estNext.markStale }
    (s.event .channel n 15 []).irq 45
  else s
/-- REFERENCE_STALE (R235). -/
def execReferenceStale (n : ChanNo) (s : State) : Host.Outcome State Fault Refusal := done (s.refStale n)

/-! ### CH_EST_CTRL (R214) -/

/-- A write of CH_EST_CTRL: FORGET waits for the next milli boundary. A channel that is not configured ignores it (R97). -/
def State.estCtrl (s : State) (n : ChanNo) (v : Word) (cyc : Nat) : State :=
  if bit v 0 && s.isConf n then s.forget n (s.dueAt cyc) else s
/-- FORGET (R214). -/
def execForget (n : ChanNo) (v : Word) (cyc : Nat) (s : State) : Host.Outcome State Fault Refusal :=
  done (s.bar (s.estCtrl n v cyc))

/-! ### Lifetime area (R243, R244) -/

/-- The lifetime area goes to the next of its four slots; a reset before the write has ended leaves that slot torn
(State.coreReset). -/
def State.lifeWrite (s : State) : State :=
  let q := s.store.lifeSeq + 1
  let slot : LifeSlot := { seq := q, phases := s.phases.toList.map fun p => p.life, hs := s.store.hs.toList
                           closures := s.store.closures.toList, crcOk := true }
  let k : Fin 4 := ⟨q % 4, by omega⟩
  (s.modStore fun t => { t with lifeSeq := q, lifeSlots := t.lifeSlots.set k (some slot) }).send (.nvWrite 4 k.val)

/-- The write due at a beat that is a multiple of 600,000,000. -/
def State.lifetimeDue (s : State) : State :=
  if s.dev.lifetimeDue then s.lifeWrite.modDev fun d => { d with lifetimeDue := false } else s
/-- LIFETIME_WRITE (R244). -/
def execLifetimeWrite (s : State) : Host.Outcome State Fault Refusal := done s.lifetimeDue

/-! ### Heatsink histogram (R245, R243) -/

/-- The bin of a reading in 0.01 °C. -/
def hsBin (t : Int) : Nat := if t < -1000 then 0 else if 13000 ≤ t then 15 else ((t + 1000) / 1000).toNat + 1

/-- One second of the reading in force: an input without a valid reading is not binned. -/
def HsInput.tick (h : HsInput) : HsInput :=
  if h.state = 1 then { h with bins := h.bins.modify (hsBin h.value) (satInc 0xFFFFFFFF) } else h
/-- HS_HISTOGRAM_TICK (R245). -/
def execHsHistogramTick (s : State) : Host.Outcome State Fault Refusal :=
  done (s.modStore fun t => { t with hs := t.hs.map HsInput.tick })

end Sys2Proof.Machine
end

