-- ==== Sys2Proof/Machine/Charger.lean ====
section
/-!
DEFINITION. The holdup charger (R382 to R389 of spec/12_holdup_rtc.md), the housekeeping converter (R245 of
spec/07_estimation_grading.md), the holdup cell in the estimator and its capacity learning (R390, R391).
-/
namespace Sys2Proof.Machine

/-! ### Levels and operating points (R383, R384, and HLD_CFG, HLD_ICHG, HLD_TIMER) -/

def Holdup.lfp (h : Holdup) : Bool := bit h.cfg 0
/-- VREG, µV. -/
def Holdup.vreg (h : Holdup) : Int :=
  (if h.lfp then 3600000 else 4200000) - 10000 * (min 30 (fld h.cfg 8 5) : Nat)
def Holdup.vrech (h : Holdup) : Int := h.vreg - 100000
def Holdup.vpre (h : Holdup) : Int := if h.lfp then 2500000 else 3000000
def Holdup.vstop (h : Holdup) : Int := if h.lfp then 2900000 else 3200000
/-- ICHG, mA, clamped into its range. -/
def Holdup.ichgMa (h : Holdup) : Nat := min 3000 (max 100 (fld h.ichg 0 12))
/-- IPRE, mA. -/
def Holdup.ipreMa (h : Holdup) : Nat := 10 * min 30 (max 5 (fld h.ichg 24 5))
/-- ITERM, mA. -/
def Holdup.itermMa (h : Holdup) : Nat := min 300 (max 10 (fld h.ichg 12 9))
/-- TSAFE, hours. -/
def Holdup.tsafe (h : Holdup) : Nat := max 1 (fld h.timer 0 4)
/-- The ride-through window, ms (R395). -/
def Holdup.rtWindow (h : Holdup) : Nat := min 500 (fld h.cfg 16 10)

/-! ### States (R385) -/

/-- What the charger drives in a state. In DETECT it supplies the VHOLD loads only, as in HOLD mode (log entry 14). -/
def Holdup.driveOf (h : Holdup) (st : Chg) : ChgDrive :=
  match st with
  | .noMain | .faultShort => .off
  | .shortTest => .cellCurrent 50
  | .precharge => .cellCurrent h.ipreMa
  | .fast => .cellCurrent (if h.ntcRange = 1 then h.ichgMa / 2 else h.ichgMa)
  | .cv => .cv
  | .supply => .supplyMode
  | .off | .detect | .done | .suspended | .faultTimer | .faultNtc => .holdMode

/-- The currents programmed take effect in the state that the charger is in. -/
def Holdup.redrive (h : Holdup) : Holdup :=
  match h.drive with
  | .cellCurrent _ => { h with drive := h.driveOf h.state }
  | _ => h

/-- States in which the charger charges or holds (the NTC row of R385). -/
def Chg.charging : Chg → Bool
  | .shortTest | .precharge | .fast | .cv | .done | .suspended => true
  | _ => false
/-- PRECHARGE, FAST and CV. -/
def Chg.inCycle : Chg → Bool
  | .precharge | .fast | .cv => true
  | _ => false

/-- A learning cycle ends without a result (R391). -/
def State.learnAbort (s : State) : State :=
  if s.hold.learn = .idle then s
  else
    let s := s.modHold fun h => { h with learn := .idle, drive := if h.drive = .learnOff then .holdMode else h.drive }
    s.aonEvent 76 (leBytes 4 s.hold.cap ++ [1])

/-- The pre window of a load step (R391): the 100 ms before the edge. -/
def preSums (l : List (Int × Int)) : WinSum :=
  l.foldl (fun w x => { n := w.n + 1, v := w.v + x.1, i := w.i + x.2 }) { n := 0, v := 0, i := 0 }

/-- Instants of the holdup estimator: microseconds of the model's uptime (log entry 5). -/
def State.holdNow (s : State) : Beat := BitVec.ofNat 64 s.beat.uptime

/-- The record of a load step closes with the points that are valid by then; Zi is never measured (R224, R391). -/
def Holdup.closeEdge (h : Holdup) : Holdup :=
  match h.edge with
  | none => h
  | some d =>
      let n : Int := d.pre.n
      let r : ZRec :=
        { beatE := d.at_, kind := 0, valid := 2 * (2 ^ d.z.length - 1), temp := d.temp, step := 0xFF
          iPre := openDiv d.pre.i n, vPre := openDiv d.pre.v n
          z := 0 :: (List.range 3).map (getI d.z), di := 0 :: (List.range 3).map (getI d.di) }
      { h with edge := none, est := h.est.addRec r }

/-- The charger enters a state: its drive, IDG (R382), the safety timer, a load step (R391), the CHARGER event. A learning
cycle needs the state DONE. DESIGN CHOICE (log entry 75): a change of state closes the record of an earlier load step. -/
def State.chgGo (s : State) (st : Chg) : State :=
  let old := s.hold.state
  if old = st then s
  else
    let s := if old = .done then s.learnAbort else s
    let step := st == .fast || (old == .cv && st == .done)
    let s := s.modHold fun h =>
      let h := h.closeEdge
      let d := h.driveOf st
      { h with state := st, drive := d, idg := h.main && d != .off
               timerRun := h.timerRun && (st.inCycle || st == .suspended)
               thermLim := h.thermLim && st.inCycle
               susFrom := if st = .suspended then old else h.susFrom
               edge := if step ∧ h.pre.length = 100 then
                   some { pre := preSums h.pre, at_ := s.holdNow, ms := 0, temp := h.temp, z := [], di := [] }
                 else none }
    s.aonEvent 64 [byte st.code, byte old.code]

/-- The charger enters a state in which the cell's temperature counts: an open or shorted NTC, or a cold or hot cell, acts at
once (R385, R388). -/
def State.chgTo (s : State) (st : Chg) : State :=
  if s.hold.ntcFault && st.charging then s.chgGo .faultNtc
  else
    let s := s.chgGo st
    if st.inCycle && (s.hold.ntcRange == 0 || s.hold.ntcRange == 3) then s.chgGo .suspended else s

/-- The safety timer starts (R389). -/
def State.timerStart (s : State) : State := s.modHold fun h => { h with tUs := 0, wMs := 0, timerRun := true }

/-- The cell is found missing (R385, R387). -/
def State.cellMissing (s : State) : State :=
  let s := s.chgGo .supply
  let s := s.modHold fun h => { h with missing := true }
  (s.aonEvent 65 [1]).raise 28 0xFF 0 true false

/-- A cell is found (R385, R387). -/
def State.cellFound (s : State) : State :=
  if s.hold.missing then ((s.modHold fun h => { h with missing := false }).aonEvent 65 [0]).unraise 28 else s

/-- Main counts as lost: the charger stops and IDG falls (R382, R385, R392). -/
def State.chgMainLost (s : State) : State :=
  let s := s.learnAbort
  (s.modHold fun h => { h with main := false, idg := false }).chgGo .noMain

/-- Main counts as returned (R385, R393, R396). -/
def State.chgMainValid (s : State) : State := (s.modHold fun h => { h with main := true }).chgGo .detect

/-! ### Commands of the charger -/

/-- A write of HLD_CFG: LOCK stays set until reset and locks CHEM and VREG_DN; CHG_EN acts (R385). -/
def State.hldCfg (s : State) (v : Word) : State :=
  let h := s.hold
  let locked := bit h.cfg 31
  let mask : Word := 0x83FF0006#32 ||| if locked then 0 else 0x00001F01#32
  let cfg := maskWrite h.cfg v mask ||| (h.cfg &&& 0x80000000#32)
  let s := s.modHold fun h => { h with cfg := cfg }
  if !bit cfg 2 then (if s.hold.state = .noMain then s else s.chgGo .off)
  else if s.hold.state = .off then s.chgGo .detect else s
/-- CHG_EN_WRITE (R385). -/
def execChgEnWrite (v : Word) (s : State) : Host.Outcome State Fault Refusal := done (s.bar (s.hldCfg v))

/-- The end of the 100 ms of SHORT_TEST (R385). -/
def State.shortEnd (s : State) (vhold : Int) : State :=
  if s.hold.state ≠ .shortTest then s
  else if vhold < 1000000 then (s.chgGo .faultShort).modHold fun h => { h with shortSeen := true }
  else (s.chgTo .precharge).timerStart
/-- CHG_SHORT_TEST_END (R385). -/
def execChgShortTestEnd (vhold : Int) (s : State) : Host.Outcome State Fault Refusal := done (s.shortEnd vhold)

/-- CHG_PRECHARGE_END (R385): VHOLD at or above VPRE for 1 s. -/
def execChgPrechargeEnd (vhold : Int) (s : State) : Host.Outcome State Fault Refusal :=
  done (if s.hold.state = .precharge ∧ s.hold.vpre ≤ vhold then s.chgTo .fast else s)

/-- A timer fault of the charger (R385, R389). -/
def State.timerFault (s : State) (code : Nat) : State :=
  ((s.chgGo .faultTimer).aonEvent 67 [byte code]).raiseDev 30 0
/-- CHG_PRECHARGE_TIMEOUT (R385). -/
def execChgPrechargeTimeout (s : State) : Host.Outcome State Fault Refusal :=
  done (if s.hold.state = .precharge then s.timerFault 2 else s)

/-- CHG_VREG_REACHED (R385). -/
def execChgVregReached (vhold : Int) (s : State) : Host.Outcome State Fault Refusal :=
  done (if s.hold.state = .fast ∧ s.hold.vreg ≤ vhold then s.chgGo .cv else s)
/-- CHG_TERMINATION (R385): a cell current in µA of at most ITERM for 60 s. -/
def execChgTermination (cur : Int) (s : State) : Host.Outcome State Fault Refusal :=
  done (if s.hold.state = .cv ∧ cur ≤ 1000 * s.hold.itermMa then s.chgGo .done else s)

/-- The safety timer has expired (R389): 0 T, 1 W. -/
def Holdup.timerOver (h : Holdup) : Option Nat :=
  if !h.timerRun || !h.state.inCycle then none
  else if h.tsafe * 3600000000 ≤ h.tUs then some 0
  else if 3 * h.tsafe * 3600000 ≤ h.wMs then some 1
  else none
/-- CHG_SAFETY_TIMER (R389). -/
def execChgSafetyTimer (s : State) : Host.Outcome State Fault Refusal :=
  done (match s.hold.timerOver with
    | some code => (s.timerFault code).modHold fun h => { h with timerExp := true }
    | none => s)

/-- The range of a cell temperature apart from the hysteresis (R388). -/
def ntcNominal (t : Int) : Nat := if t < 0 then 0 else if t < 1000 then 1 else if t ≤ 4500 then 2 else 3
/-- The range with 2 K of hysteresis toward the inside of the range left last (R388). -/
def ntcRangeOf (now left : Nat) (t : Int) : Nat :=
  let n := ntcNominal t
  if n < now ∧ left < now then max n (ntcNominal (t + 200)) else if now < n ∧ now < left then min n (ntcNominal (t - 200)) else n

/-- What an open or shorted NTC does (R385, R388). -/
def State.ntcFault (s : State) : State :=
  let s := if s.hold.state.charging then s.chgGo .faultNtc else s
  (s.modHold fun h => { h with ntcFault := true }).raise 31 0xFF 0 true false

/-- The reading of the cell NTC is valid again. -/
def State.ntcValid (s : State) : State :=
  if s.hold.ntcFault then (s.modHold fun h => { h with ntcFault := false }).unraise 31 else s

/-- The NTC range is `r` (R388): COLD and HOT suspend, COOL halves ICHG, any range but NORMAL ends a learning cycle. -/
def State.ntcSet (s : State) (r : Nat) : State :=
  let now := s.hold.ntcRange
  let s := if r = now then s else s.modHold fun h => { h with ntcRange := r, ntcFrom := now }.redrive
  let s := if r ≠ 2 then s.learnAbort else s
  if r = 0 ∨ r = 3 then (if s.hold.state.inCycle then s.chgGo .suspended else s)
  else if s.hold.state = .suspended then s.chgGo s.hold.susFrom
  else s
/-- The range of a valid reading. -/
def State.ntcRange (s : State) (t : Int) : State := s.ntcSet (ntcRangeOf s.hold.ntcRange s.hold.ntcFrom t)

/-- The cell NTC as converted: `st` as GLB_HS_Tk.STATE codes it, 1 VALID, 2 OPEN, 3 SHORT; with EN 0 the range counts as
NORMAL (R388). -/
def State.ntcReading (s : State) (st : Nat) (t : Int) : State :=
  if !bit s.hold.ntcCfg 0 then s.ntcValid.ntcSet 2
  else if st = 2 ∨ st = 3 then s.ntcFault
  else s.ntcValid.ntcRange t
/-- CHG_NTC_RANGE (R388). -/
def execChgNtcRange (st : Nat) (t : Int) (s : State) : Host.Outcome State Fault Refusal := done (s.ntcReading st t)

/-- CHG_NTC_RECOVERED (R385): a valid reading for 10 s. -/
def execChgNtcRecovered (t : Int) (s : State) : Host.Outcome State Fault Refusal :=
  done (if s.hold.state = .faultNtc then (s.ntcValid.ntcRange t).chgGo .detect else s)

/-- CHG_RECHARGE (R385): a resting voltage below VRECH for 10 s starts a new cycle out of DONE. -/
def execChgRecharge (v : Int) (s : State) : Host.Outcome State Fault Refusal :=
  done (if s.hold.state = .done ∧ s.hold.learn = .idle ∧ v < s.hold.vrech then (s.chgTo .fast).timerStart else s)

/-! ### The presence test (R386) -/

/-- The presence test with VHOLD just before it and at its end; in DETECT it also decides what follows (R385). -/
def State.presence (s : State) (v0 v2 : Int) : State :=
  let gone := decide (v2 < v0 - 300000)
  match s.hold.state with
  | .noMain | .off | .faultShort => s
  | .detect =>
      if v0 < s.hold.vpre then s.chgGo .shortTest
      else if gone then s.cellMissing
      else if v2 < s.hold.vrech then (s.cellFound.chgTo .fast).timerStart
      else s.cellFound.chgTo .done
  | .supply => if gone then s.raise 28 0xFF 0 true false else (s.chgGo .detect).cellFound
  | _ => if gone then s.cellMissing else s
/-- PRESENCE_TEST (R386). -/
def execPresenceTest (v0 v2 : Int) (s : State) : Host.Outcome State Fault Refusal := done (s.presence v0 v2)

/-- IDEAL_DIODE_REVERSE (R382). -/
def execIdealDiodeReverse (s : State) : Host.Outcome State Fault Refusal :=
  done (s.modHold fun h => { h with idg := false })

/-! ### Die regulation (R388) -/

/-- HLD_STAT.THERM_LIM. -/
def execThermLim (on : Bool) (s : State) : Host.Outcome State Fault Refusal :=
  done (s.modHold fun h => { h with thermLim := on && h.state.inCycle })

/-! ### The holdup cell in the estimator (R390) -/

/-- The built-in table of a chemistry. -/
def holdupTable (lfp : Bool) : OcvTable :=
  { unc := 200, beta := (Config.holdupOcv lfp 21).toInt, points := (List.range 21).map fun k => (Config.holdupOcv lfp k).toInt
    shared := false, image := [] }
/-- The table that HLD_EST_CFG names. -/
def State.holdOcv (s : State) : Option OcvTable :=
  let t := fld s.hold.estCfg 8 3
  if t = 7 then some (holdupTable s.hold.lfp)
  else match finOf 4 t with | some k => s.store.ocv[k] | none => none
/-- C of R233 for the holdup cell, µC. -/
def Holdup.capacity (h : Holdup) : Nat := 1000 * if h.cap ≠ 0 then h.cap else h.capNom.toNat
/-- The cell voltage: VHOLD less the drop in the shunt of 10 mΩ (R379, R390). -/
def cellV (v i : Int) : Int := v - openDiv i 100

/-- The counters after one millisecond of a cell current (R209, R390). -/
def Counters.addMs (c : Counters) (v i : Int) : Counters :=
  let q := openDiv (i * 4294967296) 1000
  let e := openDiv (v * i * 4294967296) 1000000000
  { c with runQ := c.runQ + q, runE := c.runE + e, refQ := c.refQ + q, through := c.through + q.natAbs }

/-- One millisecond of the holdup estimator: rests, references, SOC, the stale reference with its event and source 45, and the
model correction (R229 to R236). DEDUCED (log entry 75): the event is of kind DEVICE, as those of R408. -/
def State.holdEst (s : State) (v i : Int) : State :=
  let h := s.hold
  let now := s.holdNow
  let carrying := match h.drive with | .cellCurrent _ | .cv => true | _ => false
  let still := !carrying && decide (i.natAbs ≤ 3000)
  let ms := if still then h.restMs + 1 else 0
  let x : EstIn :=
    { chan := 0, first := now - 1000, vm := v, im := i
      per := { evs := [], temp := h.temp, tempOld := h.temp == -32768
               rest := if still then some (now - BitVec.ofNat 64 (1000 * ms)) else none
               n := 1000, iSum := 1000 * i, iMin := i, iMax := i, stepLane := false }
      cnt := h.cnt.addMs v i, doneZ := [], fs := 3000000, rsh := 1, nom := h.capacity, cfg := h.estCfg, learnT := 0, learnRate := 0
      phases := [], ocv := s.holdOcv, grades := fun _ => none }
  let e := estMilli x h.est
  let old := match e.ref with | some r => !e.stale && decide (refAge h.estCfg < r.age now) | none => false
  let e := if old then e.markStale else e
  let s := if old then (s.aonEvent 15 []).irq 45 else s
  s.modHold fun h =>
    { h with restMs := ms, est := { e with posts := [], irqs := [], xAsk := [], vHist := [] }
             cnt := { x.cnt with refQ := if e.zeroQ then 0 else x.cnt.refQ
                                 through := if e.zeroThrough then 0 else x.cnt.through } }

/-- One point of a load step's record, the millisecond that has just closed against the pre window (R222, R391). -/
def HoldEdge.point (d : HoldEdge) (v i : Int) : HoldEdge × Bool :=
  let n : Int := d.pre.n
  let dv := v * n - d.pre.v
  let di := i * n - d.pre.i
  let z := divRound (dv * 1000000) di
  let d := { d with di := d.di ++ [openDiv di n] }
  if di ≠ 0 ∧ 0 ≤ z ∧ 3000000 * 25 * n ≤ 1000 * di.natAbs then ({ d with z := d.z ++ [z] }, true) else (d, false)

/-- A millisecond after an edge: points at 1, 10 and 100 ms; a point that fails makes the later ones invalid and so ends the
record (R223, R224, R391). -/
def Holdup.zStep (h : Holdup) (v i : Int) : Holdup :=
  match h.edge with
  | none => h
  | some d =>
      let d := { d with ms := d.ms + 1 }
      if d.ms = 1 ∨ d.ms = 10 ∨ d.ms = 100 then
        let (d, ok) := d.point v i
        let h := { h with edge := some d }
        if ok ∧ d.ms ≠ 100 then h else h.closeEdge
      else { h with edge := some d }

/-- One millisecond of the safety timer (R389). In PRECHARGE and CV T runs at full rate; a current out of the cell does not
turn T back (log entry 78). -/
def Holdup.timerMs (h : Holdup) (i : Int) : Holdup :=
  if !h.timerRun || !h.state.inCycle then h
  else
    let prog : Int := 1000 * h.ichgMa
    let slow := h.state == .fast && (h.thermLim || h.ntcRange == 1)
    let t := if slow then (openDiv (1000 * max 0 (min i prog)) prog).toNat else 1000
    { h with tUs := h.tUs + t, wMs := h.wMs + 1 }

/-! ### Capacity learning (R391) -/

/-- A reference of the holdup cell taken now; none without a table (R232). -/
def State.holdRef (s : State) : Option OcvRef :=
  let h := s.hold
  match s.holdOcv with
  | some t =>
      let v := cellV h.v h.i
      some { value := v, temp := h.temp, soc := socOf t v h.temp, unc := t.unc, beat := s.holdNow, savedAge := 0, corr := 0 }
  | none => none

/-- A reference takes effect: the charge since it restarts (R232). -/
def State.takeRef (s : State) (r : OcvRef) : State :=
  s.modHold fun h =>
    { h with est := { h.est with ref := some r, soc := r.soc, unc := r.unc, stale := false }
             cnt := { h.cnt with refQ := 0, through := 0 } }

/-- A learning cycle starts in DONE with a reference none of which is older than REST_MIN; the charger's output goes off
in HOLD mode (R391). -/
def State.learnStart (s : State) : State :=
  if s.hold.state ≠ .done ∨ s.hold.learn ≠ .idle ∨ s.hold.ntcRange ≠ 2 then s
  else
    let young := match s.hold.est.ref with | some r => decide (r.age s.holdNow < restMin s.hold.estCfg) | none => false
    let s? := if young then some s else s.holdRef.map s.takeRef
    match s? with
    | some s =>
        match s.hold.est.ref with
        | some r => s.modHold fun h => { h with learn := .discharge r.soc (h.cnt.runQ - h.cnt.refQ), drive := .learnOff }
        | none => s
    | none => s

/-- A write of HLD_CTRL: ABORT before LEARN. -/
def State.hldCtrl (s : State) (v : Word) : State :=
  let s := if bit v 1 then s.learnAbort else s
  if bit v 0 && !bit v 1 then s.learnStart else s
/-- LEARN (R391). -/
def execLearn (v : Word) (s : State) : Host.Outcome State Fault Refusal := done (s.bar (s.hldCtrl v))
/-- LEARN_ABORT (R391). -/
def execLearnAbort (v : Word) (s : State) : Host.Outcome State Fault Refusal := done (s.bar (s.hldCtrl v))

/-- The discharge of a learning cycle has reached 40.00 %: the cell rests. -/
def State.learnLow (s : State) : State :=
  match s.hold.learn with
  | .discharge soc q =>
      if s.hold.est.soc ≤ 4000 then s.modHold fun h => { h with learn := .rest soc q, drive := .holdMode, restMs := 0 } else s
  | _ => s

/-- The rest of a learning cycle has lasted REST_MIN: the second reference gives the capacity (R391). -/
def State.learnEnd (s : State) : State :=
  match s.hold.learn with
  | .rest soc q =>
      if 1000 * s.hold.restMs < restMin s.hold.estCfg then s
      else match s.holdRef with
        | none => s.learnAbort
        | some r =>
            let charge := (visible (s.hold.cnt.runQ - q)).natAbs
            let s := s.takeRef r
            if soc < r.soc + 3000 then s.learnAbort
            else
              let cap := (openDiv (charge * 10000) (1000 * (soc - r.soc))).toNat
              let s := s.modHold fun h => { h with cap := cap, learned := true, learn := .idle }
              (s.aonEvent 76 (leBytes 4 cap ++ [0])).chgGo .detect
  | _ => s
/-- HOLDUP_LEARN_REST (R391). -/
def execHoldupLearnRest (s : State) : Host.Outcome State Fault Refusal := done s.learnEnd

/-! ### The housekeeping converter (R245, R388, R390) -/

/-- STATE of an NTC input by its ratio in millionths: OPEN above 0.98, SHORT below 0.02. -/
def ntcState (ratio : Nat) : Nat := if 980000 < ratio then 2 else if ratio < 20000 then 3 else 1
/-- The natural logarithm of a / b, times 2^48: the binary exponent, and the series of the area tangent for the rest. -/
def lnRatio (a b : Nat) : Int :=
  let k : Int := (Nat.log2 a : Int) - Nat.log2 b
  let (p, q) : Int × Int := if 0 ≤ k then ((a : Int), b * 2 ^ k.toNat) else (a * 2 ^ (-k).toNat, (b : Int))
  let z := (p - q) * 281474976710656 / (p + q)
  let zz := z * z / 281474976710656
  let (sum, _) := (List.range 24).foldl (fun (t : Int × Int) (i : Nat) => (t.1 + t.2 / (2 * i + 1), t.2 * zz / 281474976710656)) (0, z)
  195103586505167 * k + 2 * sum
/-- The Beta equation, in 0.01 °C: 1 / T = 1 / 298.15 K + ln(R / R25) / β, with R / (R + 10 kΩ) the ratio (R245). -/
def betaTemp (beta r25 ratio : Nat) : Option Int :=
  if beta = 0 ∨ r25 = 0 ∨ ratio = 0 ∨ 1000000 ≤ ratio then none
  else
    let den := 28147497671065600 * (beta : Int) + 29815 * lnRatio (100 * ratio) ((1000000 - ratio) * r25)
    if den ≤ 0 then none else some (divRound (29815 * 28147497671065600 * (beta : Int)) den - 27315)
/-- The temperature of a reading: that of the Beta equation with an error of at most 1 K from −20 to +130 °C (R245). -/
def ntcTempOf (cfg : Word) (ratio : Nat) : Int :=
  let beta := fld cfg 16 16
  let r25 := fld cfg 8 8
  let free := (Config.ntcTemp beta r25 ratio).toInt
  match betaTemp beta r25 ratio with
  | some t => if -2000 ≤ t ∧ t ≤ 13000 then t + clampInt (-100) 100 (Config.ntcError beta r25 ratio).toInt else free
  | none => free

/-- One heatsink input after a conversion (R245). -/
def HsInput.convert (h : HsInput) (en : Bool) (cfg : Word) (ratio : Nat) : HsInput :=
  if !en then { h with state := 0 }
  else if ntcState ratio = 1 then
    let t := ntcTempOf cfg ratio
    { h with state := 1, value := t, any := true, highest := if h.any then max h.highest t else t
             lowest := if h.any then min h.lowest t else t }
  else { h with state := ntcState ratio }

/-- The level of GLB_HS_LIMIT. -/
def Store.hsLevel (t : Store) : Int := signed 16 (fld t.hsLimit 0 16)
/-- The first input that meets a test. -/
def State.hsFirst (s : State) (p : HsInput → Bool) : Option (Fin 8) := (allFin 8).find? fun k => p s.store.hs[k]

/-- The faults of the heatsink inputs: HS_OVERTEMP and HS_NTC, both level sources (R245, R457, R458). -/
def State.hsFaults (s : State) : State :=
  let lim := s.store.hsLevel
  let s := match s.hsFirst fun h => h.state == 1 && decide (lim < h.value) with
    | some k => s.raise 21 0xFF (at_ k.val 24 ||| at_ ((s.store.hs[k]).value % 65536).toNat 0) true false
    | none => if (s.hsFirst fun h => h.state == 1 && decide (lim - 200 < h.value)).isNone then s.unraise 21 else s
  match s.hsFirst fun h => h.state == 2 || h.state == 3 with
  | some k => s.raise 22 0xFF (at_ k.val 24 ||| at_ (s.store.hs[k]).state 16) true false
  | none => s.unraise 22

/-- One conversion of the housekeeping converter: heatsinks, cell NTC, cell voltage and current, VCHG_IN; the
millisecond of the safety timer and of the holdup estimator. -/
def State.housekeep (s : State) (hs : Vector Nat 8) (ntc : Nat) (v i vin : Int) : State :=
  let s := s.modStore fun t => { t with hs := Vector.ofFn fun k => (t.hs[k]).convert (bit t.hsCfg k.val) t.hsCfg hs[k] }
  let s := s.hsFaults
  let c := cellV v i
  let s := s.modHold fun h =>
    let h := (h.zStep c i).timerMs i
    { h with v := v, i := i, vin := vin, pre := ((c, i) :: h.pre).take 100
             temp := if bit h.ntcCfg 0 ∧ ntcState ntc = 1 then ntcTempOf h.ntcCfg ntc else -32768 }
  (s.holdEst c i).learnLow
/-- HS_NTC_CONVERSION (R245). -/
def execHsNtcConversion (hs : Vector Nat 8) (ntc : Nat) (v i vin : Int) (s : State) : Host.Outcome State Fault Refusal :=
  done (s.housekeep hs ntc v i vin)

end Sys2Proof.Machine
end

