-- ==== Sys2Proof/Machine/Links.lean ====
section
/-!
DEFINITION. The commands of the energy link ports (spec/11_energy_links.md, R342 to R378): attach, packets and their
acknowledgement, negotiation, contracts, role swaps, hard resets, policy and desires.
-/
namespace Sys2Proof.Machine

/-! ### Policy blocks (R372 to R375) -/

/-- The fields of a policy block. -/
def parsePolicy (bs : List Byte) : Policy :=
  { flags := getLe bs 4 2, role := getLe bs 6 1, duty := getLe bs 7 1, priority := getLe bs 8 1, vExport := getLeS bs 0x0C 4
    vImport := getLeS bs 0x10 4, vHyst := getLeS bs 0x14 4, winMin := getLeS bs 0x18 4, winMax := getLeS bs 0x1C 4
    iExport := getLe bs 0x20 4, iImport := getLe bs 0x24 4, image := bs }

/-- The first reason of R373; 0 when the block is accepted. -/
def policyCheck (x : Fin 2) (bs : List Byte) : Nat :=
  let q := parsePolicy bs
  let inV := fun (v : Int) => decide (12000000 ≤ v) && decide (v ≤ 60000000)
  if getLe bs 0 2 ≠ 0x4C50 ∨ getLe bs 2 1 ≠ 1 ∨ getLe bs 3 1 ≠ x.val ∨ 16 ≤ q.flags ∨ getLe bs 9 3 ≠ 0 ∨ getLe bs 0x28 20 ≠ 0 then 1
  else if getLe bs 0x3C 4 ≠ (crc32 (slice bs 0 0x3C)).toNat then 2
  else if 3 < q.role ∨ 3 < q.priority ∨ q.duty < 30 ∨ 70 < q.duty then 3
  else if !inV q.vExport || !inV q.vImport || decide (q.vExport - q.vImport < 2 * q.vHyst) then 4
  else if !inV q.winMin || !inV q.winMax || decide (q.winMax - q.winMin < 2000000) then 5
  else if 100000000 < q.iExport ∨ 100000000 < q.iImport then 6
  else 0

def Policy.shared (q : Policy) : Bool := q.flags % 2 == 1
def Policy.autoExport (q : Policy) : Bool := q.flags / 2 % 2 == 1
def Policy.autoImport (q : Policy) : Bool := q.flags / 4 % 2 == 1
def Policy.acceptSwap (q : Policy) : Bool := q.flags / 8 % 2 == 1
def LinkPort.role (p : LinkPort) : Nat := match p.policy with | some q => q.role | none => 0
def LinkPort.prio (p : LinkPort) : Nat := match p.policy with | some q => q.priority | none => 0

/-- A desire that acts: while the switch of a sink is closed, or a contract is in force at a source, the desire under
which it was made stands (R374). -/
def LinkPort.exports (p : LinkPort) : Bool :=
  p.source && (p.state.attached || p.state == .swapDischarge) && (p.wantExport || p.contract.isSome)
def LinkPort.imports (p : LinkPort) : Bool :=
  !p.source && (p.state.attached || p.state == .swapDischarge) && (p.wantImport || p.switch)

/-- The allocation of a port in µA (R375): its share of the total, the other port before it where that one has the higher
PRIORITY, or the same and is LINK0. -/
def Links.alloc (l : Links) (x : Fin 2) (export_ : Bool) : Nat :=
  let y : Fin 2 := 1 - x
  let total := (if export_ then fld l.total 16 16 else fld l.total 0 16) * 100000
  let want := fun (p : LinkPort) => if export_ then p.exports else p.imports
  let cap := fun (p : LinkPort) => match p.policy with | some q => if export_ then q.iExport else q.iImport | none => 0
  let p := l.port[x]
  let o := l.port[y]
  let first := want o && (decide (p.prio < o.prio) || (p.prio == o.prio && y.val < x.val))
  let left := if first then total - min (cap o) total else total
  if want p then min (cap p) left else 0

/-- The state of the device lets the ports signal: Galdor runs (R482) and RIDE_THROUGH aside every state of R376. -/
def State.linksRun (s : State) : Bool :=
  !s.wdt.restarting && (match s.dev.state with
    | .ready | .active | .chrysalis | .rideThrough => true
    | _ => false)

/-- The capability object of R374 and R355: the window rounded inward to 0.1 V, the allocation rounded down to 0.1 A. -/
def capObject (q : Policy) (alloc : Nat) : Word :=
  at_ (q.winMax / 100000).toNat 20 ||| at_ (ceilDiv q.winMin.toNat 100000) 10 ||| at_ (min 1000 (alloc / 100000)) 0

def capMin (w : Word) : Int := (fld w 10 10 : Int) * 100000
def capMax (w : Word) : Int := (fld w 20 10 : Int) * 100000
def capCur (w : Word) : Nat := fld w 0 10 * 100000
/-- A voltage in the window of an object. -/
def inWindow (w : Word) (v : Int) : Bool := decide (capMin w ≤ v) && decide (v ≤ capMax w)

/-- The objects of R374 for a source; in RIDE_THROUGH it offers none of them (R376). -/
def State.offerNow (s : State) (x : Fin 2) : List Word :=
  let p := s.links.port[x]
  let a := s.links.alloc x true
  match p.policy with
  | some q => if p.exports && decide (100000 ≤ a) then [capObject q a] else []
  | none => []

/-! ### Messages (R351 to R354) -/

/-- A message joins the queue. -/
def State.linkMsg (s : State) (x : Fin 2) (typ : Nat) (objs : List Word) : State :=
  s.modLink x fun p => { p with queue := p.queue ++ [{ typ := typ, objs := objs, swap := false }] }

/-- No exchange runs on the port. -/
def LinkPort.idle (p : LinkPort) : Bool := p.tx.isNone && p.queue.isEmpty && p.await.isNone

/-- The CRC of a packet (R350). -/
def packetCrc (hdr : Nat) (objs : List Word) : Word := crc32 (leBytes 2 hdr ++ objs.flatMap fun w => leBytes 4 w.toNat)
/-- A packet goes out, with the CRC of R350. -/
def State.sendPacket (s : State) (x : Fin 2) (hdr : Nat) (objs : List Word) : State :=
  s.send (.linkPacket x.val hdr objs (packetCrc hdr objs))

/-- Messages that need an answer (R354). -/
def needsAnswer (t : Nat) : Bool := t == 2 || t == 3 || t == 7 || t == 8 || t == 10

/-- The identity of a port (R357). -/
def State.linkId (s : State) (x : Fin 2) : Nat := s.serial % 2 ^ 63 + x.val * 2 ^ 63

/-- A source's OFFER goes out (R364). -/
def State.sendOffer (s : State) (x : Fin 2) : State :=
  let want := s.offerNow x
  let o := if s.dev.state = .rideThrough then [] else want
  (s.modLink x fun p => { p with offered := o, basis := want, offerDue := false, state := .sNegotiate }).linkMsg x 2 o

/-- A source in default power or under a contract owes its partner an OFFER: one is due, or the desire or the allocation
has changed since the last (R364, R375), or the object that RIDE_THROUGH held back can be offered (R376). -/
def State.owesOffer (s : State) (x : Fin 2) : Bool :=
  let p := s.links.port[x]
  let want := s.offerNow x
  (p.state == .sDefault || p.state == .sContract) &&
    (p.offerDue || want != p.basis ||
      (s.dev.state != .rideThrough && p.contract.isNone && want != p.offered))

/-- SWAP_REQ may be sent (R366). -/
def State.maySwap (s : State) (x : Fin 2) : Bool :=
  let p := s.links.port[x]
  p.role == 3 && !p.backoff && s.dev.state != .rideThrough && p.idle &&
    (p.state == .sDefault || p.state == .sContract || p.state == .kDefault || p.state == .kContract)
def State.sendSwap (s : State) (x : Fin 2) : State :=
  let id := s.linkId x
  (s.modLink x fun p => { p with swapDue := false }).linkMsg x 8 [BitVec.ofNat 32 (id % 4294967296), BitVec.ofNat 32 (id / 4294967296)]

/-- A level that stands acts as soon as the port looks for it: an unattached port starts its debounce, a port whose
presentation has changed in a swap enters its new role (R346, R364, R365, R367, R370). -/
def LinkPort.look (p : LinkPort) : LinkPort :=
  let src := p.state == .sUnatt || (p.state == .toggle && p.part)
  let snk := p.state == .kUnatt || (p.state == .toggle && !p.part)
  if src && p.acc == .sinkSeen then { p with state := .sAttachWait, source := true }
  else if snk && p.acc == .sourceSeen then { p with state := .kAttachWait, source := false }
  else if p.state = .swapDischarge ∧ (p.swap.any fun w => w.exchanged) = true then
    (if p.source && p.acc == .sinkSeen then { p with state := .sDrainWait, drained := false }
     else if !p.source && p.acc == .sourceSeen then { p with state := .kDefault }
     else p)
  else p

/-- What a port starts of itself when no exchange runs: an OFFER that it owes, an ASK_OFFER that waits, a swap that the
host or the other role's desire asks for (R374). -/
def State.reviewPort (s : State) (x : Fin 2) : State :=
  if !s.linksRun || !(s.links.port[x]).en then s
  else
    let s := s.modLink x LinkPort.look
    let p := s.links.port[x]
    if !p.idle then s
    else if s.owesOffer x then s.sendOffer x
    else if p.askDue && p.state == .kDefault && p.wantImport then
      (s.modLink x fun p => { p with askDue := false }).linkMsg x 7 []
    else if s.maySwap x &&
        (p.swapDue || (p.state == .sDefault && p.wantImport) || (p.state == .kDefault && p.wantExport)) then s.sendSwap x
    else s
def State.linkReview (s : State) : State := (s.reviewPort 0).reviewPort 1

/-- The outcome of a link command. -/
def linkDone (s : State) : Host.Outcome State Fault Refusal := done s.linkReview
/-- The outcome of an event of the link ports: while Galdor restarts they hold their switches and send nothing (R482). -/
def linkEvt (f : State → State) (s : State) : Host.Outcome State Fault Refusal :=
  linkDone (if s.wdt.restarting then s else f s)

/-! ### Attach and detach (R345 to R348) -/

/-- The unattached state that the port returns to. -/
def LinkPort.unatt (p : LinkPort) : LinkState := match p.policy with | some q => q.unattached | none => .off

/-- ACC_READING (R345 to R347, R364, R365, R367): the filtered level in mV. -/
def State.accReading (s : State) (x : Fin 2) (mv : Int) : State :=
  let was := (s.links.port[x]).acc
  let s := s.modLink x fun p => { p with acc := p.presents.reads mv }
  let p := s.links.port[x]
  let s := if p.acc = .short ∧ was ≠ .short then s.linkFault x 6 else s
  if p.state = .sAttachWait ∧ p.acc ≠ .sinkSeen then
    s.modLink x fun p => { p with state := if p.roleHold then .sUnatt else p.unatt }
  else if p.state = .kAttachWait ∧ p.acc ≠ .sourceSeen ∧ p.acc ≠ .reversed then
    s.modLink x fun p => { p with state := if p.roleHold then .kUnatt else p.unatt }
  else s
def execAccReading (x : Fin 2) (mv : Int) (s : State) : Host.Outcome State Fault Refusal :=
  linkEvt (fun s => s.accReading x mv) s

/-- TOGGLE_PERIOD (R346). -/
def execTogglePeriod (x : Fin 2) (s : State) : Host.Outcome State Fault Refusal :=
  linkEvt (fun s => if (s.links.port[x]).state = .toggle then s.modLink x fun p => { p with part := !p.part } else s) s

/-- ATTACH_DEBOUNCE (R347, R364, R365). -/
def State.attach (s : State) (x : Fin 2) : State :=
  let p := s.links.port[x]
  let go := fun (st : LinkState) (src : Bool) =>
    (s.modLink x fun p =>
      { p.quiet with state := st, source := src, acked := false, drained := false, roleHold := false, offered := [] }).linkEvent
      x 48 [if src then 1 else 0] (some 0)
  if p.state = .sAttachWait ∧ p.acc = .sinkSeen then go .sDrainWait true
  else if p.state = .kAttachWait ∧ p.acc = .sourceSeen then go .kDefault false
  else s
def execAttachDebounce (x : Fin 2) (s : State) : Host.Outcome State Fault Refusal := linkEvt (fun s => s.attach x) s

/-- DETACH (R347). -/
def State.detach (s : State) (x : Fin 2) : State :=
  let p := s.links.port[x]
  if p.state.attached && ((p.source && p.acc == .opened) || (!p.source && p.acc == .none)) then
    let s := (s.linkOpen x).modLink x fun p => { p.quiet with contract := none, state := p.unatt, swap := none, part := false }
    s.linkEvent x 49 [] (some 1)
  else s
def execDetach (x : Fin 2) (s : State) : Host.Outcome State Fault Refusal := linkEvt (fun s => s.detach x) s

/-- REVERSED_WITHDRAW (R348). -/
def State.revWithdraw (s : State) (x : Fin 2) : State :=
  let p := s.links.port[x]
  let snk := p.state == .kUnatt || p.state == .kAttachWait || (p.state == .toggle && !p.part)
  if snk && p.acc == .reversed then (s.modLink x fun p => { p with state := .reversed, roleHold := false }).linkEvent x 55 [] (some 7)
  else s
def execReversedWithdraw (x : Fin 2) (s : State) : Host.Outcome State Fault Refusal := linkEvt (fun s => s.revWithdraw x) s

/-- REVERSED_RETURN (R348): SINK is presented again. -/
def State.revReturn (s : State) (x : Fin 2) : State :=
  let p := s.links.port[x]
  if p.state = .reversed ∧ p.acc = .none then s.modLink x fun p => { p with state := p.unatt, part := false } else s
def execReversedReturn (x : Fin 2) (s : State) : Host.Outcome State Fault Refusal := linkEvt (fun s => s.revReturn x) s

/-! ### Sending (R352, R353, R360 step 4) -/

/-- New means of the port and of VLINK (R344). -/
def State.linkMeans (s : State) (x : Fin 2) (v i vlink : Int) : State :=
  let s := s.modLink x fun p => { p with v := v, i := i }
  { s with links := { s.links with vlink := vlink } }

/-- A contract comes into force. -/
def State.contractOn (s : State) (x : Fin 2) (c : Word × Nat) (st : LinkState) : State :=
  (s.modLink x fun p => { p with contract := some c, agreed := none, state := st }).linkEvent x 50
    (leBytes 4 c.1.toNat ++ leBytes 4 c.2) (some 2)

/-- The conditions of LIVE at the source (R360 step 4); the current within the limit of the contract made. -/
def State.liveReady (s : State) (x : Fin 2) : Option (Word × Nat) :=
  let p := s.links.port[x]
  match p.agreed with
  | some (c, cur) =>
      if p.state = .sTransition ∧ p.idle = true ∧ inWindow c p.v = true ∧ inWindow c s.links.vlink = true ∧
        10 * p.i.natAbs ≤ 11 * cur then some (c, cur) else none
  | none => none

/-- PACKET_SEND (R353): a packet that is due again, the next message, or LIVE once its conditions hold. -/
def State.packetSend (s : State) (x : Fin 2) (v i vlink : Int) : State :=
  let s := s.linkMeans x v i vlink
  if !s.linksRun then s
  else
    let s := match s.liveReady x with
      | some c => (s.contractOn x c .sContract).linkMsg x 6 [BitVec.ofNat 32 ((openDiv v 10000).toNat % 65536)]
      | none => s
    let p := s.links.port[x]
    if !p.state.attached then s
    else
      match p.tx, p.queue with
      | some t, _ =>
          if t.due then (s.modLink x fun p => { p with tx := some { t with due := false } }).sendPacket x t.hdr t.msg.objs
          else s
      | none, m :: ms =>
          let hdr := p.txId * 2048 + m.objs.length * 256 + (if p.source then 64 else 0) + m.typ
          (s.modLink x fun p => { p with queue := ms, tx := some { msg := m, hdr := hdr, retries := 0, due := false } }).sendPacket
            x hdr m.objs
      | none, [] => s
def execPacketSend (x : Fin 2) (v i vlink : Int) (s : State) : Host.Outcome State Fault Refusal := linkEvt (fun s => s.packetSend x v i vlink) s

/-! ### Swaps (R366 to R368) -/

/-- The hand-over starts: both switches open, SWAP_DISCHARGE. -/
def State.startSwap (s : State) (x : Fin 2) (backoff : Bool) : State :=
  let p := s.links.port[x]
  let s := (s.linkOpen x).modLink x fun p =>
    { p.quiet with contract := none, state := .swapDischarge, drained := false
                   swap := some { before := p.source, exchanged := false, backoff := backoff } }
  s.linkEvent x 52 [0, if p.source then 0 else 1] none

/-- SWAP_HANDOVER (R367): the cable has drained, presentations and message IDs change. -/
def State.swapHandover (s : State) (x : Fin 2) (v : Int) : State :=
  let p := s.links.port[x]
  let s := s.modLink x fun p => { p with v := v }
  match p.swap with
  | some w =>
      if p.state = .swapDischarge ∧ w.exchanged = false ∧ v < 2000000 then
        s.modLink x fun p => { p.quiet with source := !p.source, swap := some { w with exchanged := true } }
      else s
  | none => s
def execSwapHandover (x : Fin 2) (v : Int) (s : State) : Host.Outcome State Fault Refusal := linkEvt (fun s => s.swapHandover x v) s

/-- SWAP_TIMEOUT (R367): the cable has not drained, or the new roles are not seen. -/
def State.swapTimeout (s : State) (x : Fin 2) : State :=
  let p := s.links.port[x]
  if p.state ≠ .swapDischarge then s
  else
    let s := if p.swap.any fun w => w.exchanged then s else (s.linkFault x 4).raise 25 x.val (at_ x.val 24) false false
    s.hardReset x false 4
def execSwapTimeout (x : Fin 2) (s : State) : Host.Outcome State Fault Refusal := linkEvt (fun s => s.swapTimeout x) s

/-- SWAP_BACKOFF_END (R366). -/
def execSwapBackoffEnd (x : Fin 2) (s : State) : Host.Outcome State Fault Refusal :=
  linkEvt (fun s => s.modLink x fun p => { p with backoff := false }) s

/-- The first acknowledged message in the new roles completes the swap (R367). -/
def State.swapDone (s : State) (x : Fin 2) : State :=
  match (s.links.port[x]).swap with
  | some w =>
      if w.exchanged then
        let s := s.modLink x fun p => { p with swap := none, backoff := p.backoff || w.backoff }
        s.linkEvent x 52 [1, if (s.links.port[x]).source then 1 else 0] (some 4)
      else s
  | none => s

/-! ### Releases (R362) -/

/-- A RELEASE ends a contract or one being made; the sink opens, the source enters default power, where an OFFER is due
(R362, R364). -/
def State.endContract (s : State) (x : Fin 2) (reason : Nat) (received : Bool) : State :=
  let p := s.links.port[x]
  let s := s.modLink x fun p =>
    { p with contract := none, agreed := none, bid := none, state := if p.source then .sDefault else .kDefault
             switch := p.switch && p.source, offerDue := p.offerDue || p.source }
  if p.contract.isSome ∨ p.agreed.isSome then s.linkEvent x 51 [byte reason, if received then 1 else 0] (some 3) else s

/-- A contract is in force, being made or being negotiated. -/
def LinkPort.dealing (p : LinkPort) : Bool :=
  p.contract.isSome || (match p.state with
    | .sNegotiate | .kNegotiate | .sTransition | .sContract | .kTransition | .kCloseWait | .kContract => true
    | _ => false)

/-- RELEASE is sent: what was to be sent and the answer awaited are given up. -/
def State.sendRelease (s : State) (x : Fin 2) (reason : Nat) : State :=
  let p := s.links.port[x]
  if p.state.attached then
    let s := s.modLink x fun p => { p with queue := [], await := none }
    (if p.dealing then s.endContract x reason false else s).linkMsg x 10 [BitVec.ofNat 32 reason]
  else s

/-! ### Receiving (R352 to R354) -/

/-- The COUNT rule of R354. -/
def countOk (typ n : Nat) : Bool :=
  match typ with
  | 2 => n ≤ 4
  | 3 | 5 | 6 | 10 => n == 1
  | 4 | 7 | 9 | 11 => n == 0
  | 8 => n == 2
  | _ => false
/-- The role that may send a message (R354): true where a message comes from the sender that R354 names. -/
def senderOk (typ : Nat) (fromSource : Bool) : Bool :=
  if typ = 2 ∨ typ = 6 then fromSource else if typ = 3 ∨ typ = 7 then !fromSource else true

/-- The TYPE of a packet; 0 where R354 has it answered UNHANDLED. -/
def packetType (hdr : Nat) (objs : List Word) (ownSource : Bool) : Nat :=
  let t := hdr % 64
  let fromSource := hdr / 64 % 2 == 1
  if hdr / 256 % 8 = objs.length ∧ hdr / 128 % 2 = 0 ∧ hdr / 16384 = 0 ∧ countOk t objs.length = true ∧
    fromSource = (!ownSource) ∧ senderOk t fromSource = true then t else 0

/-- The own message whose answer is awaited has got it. -/
def State.answered (s : State) (x : Fin 2) : State := s.modLink x fun p => { p with await := none }

/-- OFFER at the sink (R360, R374, R376). -/
def State.onOffer (s : State) (x : Fin 2) (objs : List Word) : State :=
  let p := s.links.port[x]
  if p.state = .kDefault ∨ p.state = .kContract then
    let s := if p.await = some 7 then s.answered x else s
    let a := s.links.alloc x false / 100000
    let pick := (List.range objs.length).find? fun k => inWindow (objs.getD k 0) s.links.vlink
    let (idx, cur) := match pick with
      | some k =>
          let c := min (fld (objs.getD k 0) 0 10) a
          if p.imports && s.dev.state != .rideThrough && 0 < c then (k + 1, c) else (0, 0)
      | none => (0, 0)
    (s.modLink x fun p => { p with offered := objs, bid := some (idx, cur), state := .kNegotiate }).linkMsg x 3 [at_ idx 10 ||| at_ cur 0]
  else s

/-- BID at the source (R360). -/
def State.onBid (s : State) (x : Fin 2) (w : Word) : State :=
  let p := s.links.port[x]
  if p.state ≠ .sNegotiate then s
  else
    let s := s.answered x
    let idx := fld w 10 3
    let cur := fld w 0 10
    let back : LinkState := if p.contract.isSome then .sContract else .sDefault
    if idx = 0 then (s.modLink x fun p => { p with state := .sDefault }).linkMsg x 4 []
    else if p.offered.length < idx then (s.modLink x fun p => { p with state := back }).linkMsg x 5 [1]
    else
      let o := p.offered.getD (idx - 1) 0
      if cur = 0 ∨ fld o 0 10 < cur then (s.modLink x fun p => { p with state := back }).linkMsg x 5 [2]
      else (s.modLink x fun p => { p with state := .sTransition, agreed := some (o, cur * 100000) }).linkMsg x 4 []

/-- ACCEPT (R360, R362, R366). -/
def State.onAccept (s : State) (x : Fin 2) : State :=
  let p := s.links.port[x]
  let s := s.answered x
  match p.await with
  | some 3 =>
      let back : LinkState := if p.contract.isSome then .kContract else .kDefault
      (match p.bid with
       | some (idx, cur) =>
           if p.state ≠ .kNegotiate then s
           else if idx = 0 then s.modLink x fun p => { p with state := back, bid := none }
           else s.modLink x fun p =>
             { p with state := .kTransition, bid := none, agreed := some (p.offered.getD (idx - 1) 0, cur * 100000) }
       | none => s)
  | some 8 => s.startSwap x false
  | _ => s

/-- REJECT (R360, R366). -/
def State.onReject (s : State) (x : Fin 2) : State :=
  let p := s.links.port[x]
  match p.await with
  | some 3 => (s.answered x).modLink x fun p =>
      { p with state := if p.contract.isSome then .kContract else .kDefault, bid := none }
  | some 8 => (s.answered x).modLink x fun p => { p with backoff := true }
  | _ => s

/-- WAIT (R366, R368). -/
def State.onWait (s : State) (x : Fin 2) : State :=
  let p := s.links.port[x]
  if p.await = some 8 then
    let s := s.answered x
    if p.collided then s.startSwap x false else s.modLink x fun p => { p with backoff := true }
  else s

/-- SWAP_REQ (R366, R368). -/
def State.onSwapReq (s : State) (x : Fin 2) (objs : List Word) : State :=
  let p := s.links.port[x]
  let id := (objs.getD 0 0).toNat + 4294967296 * (objs.getD 1 0).toNat
  let ours := p.await == some 8 || p.tx.any fun t => t.msg.typ == 8
  let accept := match p.policy with | some q => q.acceptSwap | none => false
  let defaultState := p.state == .sDefault || p.state == .sContract || p.state == .kDefault || p.state == .kContract
  let against := if p.source then p.wantExport else p.wantImport
  if ours then
    let s := s.linkEvent x 52 [2, if p.source then 0 else 1] none
    if id < s.linkId x then s.modLink x fun p => { p with collided := true }
    else
      s.modLink x fun p => { p with tx := none, await := none, queue := p.queue ++ [{ typ := 9, objs := [], swap := true }] }
  else if p.role ≠ 3 ∨ accept = false then s.linkMsg x 5 [4]
  else if !defaultState || !p.idle || against then s.linkMsg x 9 []
  else s.modLink x fun p => { p with queue := p.queue ++ [{ typ := 4, objs := [], swap := true }] }

/-- RELEASE (R362, R378): acted on; an own exchange that is unanswered ends. -/
def State.onRelease (s : State) (x : Fin 2) (reason : Nat) : State :=
  let s := s.modLink x fun p => { p with queue := [], tx := none, await := if p.await = some 10 then p.await else none }
  let p := s.links.port[x]
  (if p.dealing then s.endContract x reason true else s).linkMsg x 4 []

/-- LIVE at the sink (R360, R365). -/
def State.onLive (s : State) (x : Fin 2) (w : Word) : State :=
  let p := s.links.port[x]
  if p.state ≠ .kTransition then s
  else if p.switch then
    (match p.agreed with
     | some c => s.contractOn x c .kContract
     | none => s)
  else s.modLink x fun p => { p with state := .kCloseWait, live := fld w 0 16 }

/-- ASK_OFFER at the source (R364, R374). -/
def State.onAskOffer (s : State) (x : Fin 2) : State := s.modLink x fun p => { p with offerDue := true }

/-- A packet whose CRC field is `crc` (R350, R352): with a good CRC it is answered ECHO, and a repeat goes no further. A
packet that R354 does not admit is answered UNHANDLED; `expect` is the TYPE of its row. -/
def State.linkRx (s : State) (x : Fin 2) (hdr : Nat) (objs : List Word) (crc : Word) (expect : Nat) (act : State → State) : State :=
  let p := s.links.port[x]
  let typ := packetType hdr objs p.source
  if !p.state.attached || !s.linksRun || !p.en || crc != packetCrc hdr objs || (typ != expect && typ != 0) || hdr % 64 == 1 then s
  else
    let id := hdr / 2048 % 8
    let s := s.sendPacket x (id * 2048 + 256 + (if p.source then 64 else 0) + 1) [crc]
    if p.rxLast = some (id, crc) then s
    else
      let s := (s.modLink x fun p => { p with rxLast := some (id, crc) }).swapDone x
      if typ = 0 then s.linkMsg x 11 [] else act s

/-- OFFER (R360). -/
def execOffer (x : Fin 2) (hdr : Nat) (objs : List Word) (crc : Word) (s : State) : Host.Outcome State Fault Refusal :=
  linkDone (s.linkRx x hdr objs crc 2 fun s => s.onOffer x objs)
/-- BID (R360). -/
def execBid (x : Fin 2) (hdr : Nat) (objs : List Word) (crc : Word) (s : State) : Host.Outcome State Fault Refusal :=
  linkDone (s.linkRx x hdr objs crc 3 fun s => s.onBid x (objs.headD 0))
/-- ACCEPT (R360). -/
def execAccept (x : Fin 2) (hdr : Nat) (objs : List Word) (crc : Word) (s : State) : Host.Outcome State Fault Refusal :=
  linkDone (s.linkRx x hdr objs crc 4 fun s => s.onAccept x)
/-- REJECT (R360). -/
def execReject (x : Fin 2) (hdr : Nat) (objs : List Word) (crc : Word) (s : State) : Host.Outcome State Fault Refusal :=
  linkDone (s.linkRx x hdr objs crc 5 fun s => s.onReject x)
/-- LIVE (R360). -/
def execLive (x : Fin 2) (hdr : Nat) (objs : List Word) (crc : Word) (s : State) : Host.Outcome State Fault Refusal :=
  linkDone (s.linkRx x hdr objs crc 6 fun s => s.onLive x (objs.headD 0))
/-- ASK_OFFER (R374). -/
def execAskOffer (x : Fin 2) (hdr : Nat) (objs : List Word) (crc : Word) (s : State) : Host.Outcome State Fault Refusal :=
  linkDone (s.linkRx x hdr objs crc 7 fun s => s.onAskOffer x)
/-- SWAP_REQ (R366). -/
def execSwapReq (x : Fin 2) (hdr : Nat) (objs : List Word) (crc : Word) (s : State) : Host.Outcome State Fault Refusal :=
  linkDone (s.linkRx x hdr objs crc 8 fun s => s.onSwapReq x objs)
/-- WAIT (R366). -/
def execWait (x : Fin 2) (hdr : Nat) (objs : List Word) (crc : Word) (s : State) : Host.Outcome State Fault Refusal :=
  linkDone (s.linkRx x hdr objs crc 9 fun s => s.onWait x)
/-- RELEASE (R362). -/
def execAccordRelease (x : Fin 2) (hdr : Nat) (objs : List Word) (crc : Word) (s : State) : Host.Outcome State Fault Refusal :=
  linkDone (s.linkRx x hdr objs crc 10 fun s => s.onRelease x (fld (objs.headD 0) 0 8))
/-- UNHANDLED (R354): acknowledged, no other effect. -/
def execUnhandled (x : Fin 2) (hdr : Nat) (objs : List Word) (crc : Word) (s : State) : Host.Outcome State Fault Refusal :=
  linkDone (s.linkRx x hdr objs crc 11 fun s => s)
/-- UNKNOWN_PACKET (R354): acknowledged and answered UNHANDLED. -/
def execUnknownPacket (x : Fin 2) (hdr : Nat) (objs : List Word) (crc : Word) (s : State) : Host.Outcome State Fault Refusal :=
  linkDone (s.linkRx x hdr objs crc 0 fun s => s)

/-! ### Acknowledgements (R352) -/

/-- ECHO (R352): it acknowledges the packet sent only where its MSG_ID and its object match. -/
def State.echo (s : State) (x : Fin 2) (hdr : Nat) (objs : List Word) (crc : Word) : State :=
  match (s.links.port[x]).tx with
  | some t =>
      if crc = packetCrc hdr objs ∧ hdr % 64 = 1 ∧ objs = [packetCrc t.hdr t.msg.objs] ∧ hdr / 2048 % 8 = t.hdr / 2048 % 8 then
        let s := s.modLink x fun p =>
          { p with tx := none, txId := (p.txId + 1) % 8, acked := true, repeatOffer := false
                   await := if needsAnswer t.msg.typ then some t.msg.typ else p.await }
        let s := s.swapDone x
        if t.msg.swap then s.startSwap x (t.msg.typ == 9) else s
      else s
  | none => s
def execEcho (x : Fin 2) (hdr : Nat) (objs : List Word) (crc : Word) (s : State) : Host.Outcome State Fault Refusal := linkEvt (fun s => s.echo x hdr objs crc) s

/-- ECHO_TIMEOUT (R352): two retries, then a link error; an OFFER before the first acknowledgement is repeated instead. -/
def State.echoTimeout (s : State) (x : Fin 2) : State :=
  let p := s.links.port[x]
  match p.tx with
  | some t =>
      if t.due then s
      else if t.retries < 2 then s.modLink x fun p => { p with tx := some { t with retries := t.retries + 1, due := true } }
      else if t.msg.typ = 2 ∧ p.acked = false then s.modLink x fun p => { p with tx := none, repeatOffer := true }
      else
        let s := s.modLink x fun p => { p with err := min 0xFFFF (p.err + 1) }
        (s.linkEvent x 54 [byte t.msg.typ] (some 6)).hardReset x false 1
  | none => s
def execEchoTimeout (x : Fin 2) (s : State) : Host.Outcome State Fault Refusal := linkEvt (fun s => s.echoTimeout x) s

/-- OFFER_REPEAT (R352). -/
def State.offerRepeat (s : State) (x : Fin 2) : State :=
  let p := s.links.port[x]
  if p.repeatOffer && p.state == .sNegotiate then (s.modLink x fun p => { p with repeatOffer := false }).sendOffer x else s
def execOfferRepeat (x : Fin 2) (s : State) : Host.Outcome State Fault Refusal := linkEvt (fun s => s.offerRepeat x) s

/-- ANSWER_TIMEOUT (R353). -/
def execAnswerTimeout (x : Fin 2) (s : State) : Host.Outcome State Fault Refusal :=
  linkEvt (fun s => if (s.links.port[x]).await.isSome then s.hardReset x false 2 else s) s

/-- HARD_RESET_RECEIVED (R370). -/
def execHardResetReceived (x : Fin 2) (s : State) : Host.Outcome State Fault Refusal :=
  linkDone (if s.linksRun then s.hardReset x true (Config.hardResetCause 0) else s)

/-! ### Power on the cable (R358, R360, R361) -/

/-- DRAIN_COMPLETE (R358): the source closes onto a drained cable. -/
def State.drainComplete (s : State) (x : Fin 2) (v vlink : Int) : State :=
  let s := s.linkMeans x v (s.links.port[x]).i vlink
  let ok := decide (v < 2000000) && decide (12000000 ≤ vlink) && decide (vlink ≤ 60000000)
  if (s.links.port[x]).state = .sDrainWait ∧ ok = true then
    (s.linkClose x).modLink x fun p => { p with state := .sPrecharge }
  else s
def execDrainComplete (x : Fin 2) (v vlink : Int) (s : State) : Host.Outcome State Fault Refusal := linkEvt (fun s => s.drainComplete x v vlink) s

/-- DRAIN_TIMEOUT (R358, R370): LINK_DRAIN once, and the wait goes on. -/
def State.drainTimeout (s : State) (x : Fin 2) : State :=
  let p := s.links.port[x]
  if (p.state = .sDrainWait ∨ p.state = .hardReset) ∧ p.drained = false then
    let s := s.modLink x fun p => { p with drained := true }
    (s.linkFault x 4).raise 25 x.val (at_ x.val 24) false false
  else s
def execDrainTimeout (x : Fin 2) (s : State) : Host.Outcome State Fault Refusal := linkEvt (fun s => s.drainTimeout x) s

/-- PRECHARGE_DONE (R358): default power begins and the first OFFER is due. -/
def State.prechargeDone (s : State) (x : Fin 2) (v vlink : Int) : State :=
  let s := s.linkMeans x v (s.links.port[x]).i vlink
  if (s.links.port[x]).state = .sPrecharge ∧ (v - vlink).natAbs ≤ 1000000 then
    s.modLink x fun p => { p with state := .sDefault, offerDue := true }
  else s
def execPrechargeDone (x : Fin 2) (v vlink : Int) (s : State) : Host.Outcome State Fault Refusal := linkEvt (fun s => s.prechargeDone x v vlink) s

/-- The detail of a link fault (R458): the port and the current in 0.1 A. -/
def linkDetail (x : Fin 2) (i : Int) : Word := at_ x.val 24 ||| at_ ((divZero i 100000) % 65536).toNat 0

/-- PRECHARGE_TIMEOUT (R358). -/
def State.prechargeTimeout (s : State) (x : Fin 2) : State :=
  if (s.links.port[x]).state = .sPrecharge then
    (((s.linkOpen x).linkFault x 3).raise 26 x.val (linkDetail x (s.links.port[x]).i) false false).hardReset x false 3
  else s
def execPrechargeTimeout (x : Fin 2) (s : State) : Host.Outcome State Fault Refusal := linkEvt (fun s => s.prechargeTimeout x) s

/-- An over-current of the port: LKG low, the fault, a hard reset, which waits for Galdor (R358, R361, R482). -/
def State.linkOver (s : State) (x : Fin 2) (i : Int) (code : Nat) : State :=
  let s := ((s.linkOpen x).linkFault x code).raise 27 x.val (linkDetail x i) false false
  if s.wdt.restarting then s.modLink x fun p => { p with ocpHit := true } else s.hardReset x false 3

/-- DEFAULT_OVERCURRENT (R358). -/
def State.defaultOver (s : State) (x : Fin 2) (i : Int) : State :=
  let s := s.modLink x fun p => { p with i := i }
  let p := s.links.port[x]
  if p.state.attached && p.contract.isNone && decide (2200000 < i.natAbs) then s.linkOver x i 1 else s
def execDefaultOvercurrent (x : Fin 2) (i : Int) (s : State) : Host.Outcome State Fault Refusal := linkEvt (fun s => s.defaultOver x i) s

/-- The current in the direction of the contract. -/
def LinkPort.forward (p : LinkPort) : Int := if p.source then p.i else -p.i

/-- SETTLE_TIMEOUT (R360). -/
def execSettleTimeout (x : Fin 2) (s : State) : Host.Outcome State Fault Refusal :=
  linkEvt (fun s => if (s.links.port[x]).state = .sTransition then s.sendRelease x 3 else s) s

/-- LIVE_TIMEOUT (R365). -/
def execLiveTimeout (x : Fin 2) (s : State) : Host.Outcome State Fault Refusal :=
  linkEvt (fun s =>
    if (s.links.port[x]).state = .kTransition then s.hardReset x false (Config.hardResetCause 1) else s) s

/-- SINK_CLOSE (R360 step 5). -/
def State.sinkClose (s : State) (x : Fin 2) (v vlink : Int) : State :=
  let s := s.linkMeans x v (s.links.port[x]).i vlink
  let p := s.links.port[x]
  match p.agreed with
  | some c =>
      if p.state = .kCloseWait ∧ (v - 10000 * p.live).natAbs ≤ 600000 ∧ (v - vlink).natAbs ≤ 1000000 ∧ inWindow c.1 vlink = true then
        (s.linkClose x).contractOn x c .kContract
      else s
  | none => s
def execSinkClose (x : Fin 2) (v vlink : Int) (s : State) : Host.Outcome State Fault Refusal := linkEvt (fun s => s.sinkClose x v vlink) s

/-- CLOSE_TIMEOUT (R365). -/
def execCloseTimeout (x : Fin 2) (s : State) : Host.Outcome State Fault Refusal :=
  linkEvt (fun s => if (s.links.port[x]).state = .kCloseWait then s.sendRelease x 3 else s) s

/-- WINDOW_VIOLATION (R361). -/
def State.windowViolation (s : State) (x : Fin 2) (v : Int) : State :=
  let s := s.modLink x fun p => { p with v := v }
  match (s.links.port[x]).contract with
  | some c => if inWindow c.1 v then s else s.sendRelease x 3
  | none => s
def execWindowViolation (x : Fin 2) (v : Int) (s : State) : Host.Outcome State Fault Refusal := linkEvt (fun s => s.windowViolation x v) s

/-- CONTRACT_OVERCURRENT (R361). -/
def State.contractOver (s : State) (x : Fin 2) (i : Int) : State :=
  let s := s.modLink x fun p => { p with i := i }
  let p := s.links.port[x]
  match p.contract with
  | some c => if (11 * c.2 : Int) < 10 * p.forward then s.linkOver x i 1 else s
  | none => s
def execContractOvercurrent (x : Fin 2) (i : Int) (s : State) : Host.Outcome State Fault Refusal := linkEvt (fun s => s.contractOver x i) s

/-- REVERSE_FLOW (R361). -/
def State.reverseFlow (s : State) (x : Fin 2) (i : Int) : State :=
  let s := s.modLink x fun p => { p with i := i }
  let p := s.links.port[x]
  if p.contract.isSome ∧ p.forward < -2000000 then s.sendRelease x 5 else s
def execReverseFlow (x : Fin 2) (i : Int) (s : State) : Host.Outcome State Fault Refusal := linkEvt (fun s => s.reverseFlow x i) s

/-- NO_FLOW (R361). -/
def State.noFlow (s : State) (x : Fin 2) (i : Int) : State :=
  let s := s.modLink x fun p => { p with i := i }
  let p := s.links.port[x]
  if p.contract.isSome ∧ p.forward < 2000000 then s.sendRelease x 6 else s
def execNoFlow (x : Fin 2) (i : Int) (s : State) : Host.Outcome State Fault Refusal := linkEvt (fun s => s.noFlow x i) s

/-- SOURCE_VLINK_FAULT (R361). -/
def State.sourceVlink (s : State) (x : Fin 2) (vlink : Int) : State :=
  let s : State := { s with links := { s.links with vlink := vlink } }
  let p := s.links.port[x]
  if p.source && p.contract.isSome && (decide (vlink < 12000000) || decide (60000000 < vlink)) then
    (s.linkOpen x).hardReset x false (Config.hardResetCause 2)
  else s
def execSourceVlinkFault (x : Fin 2) (vlink : Int) (s : State) : Host.Outcome State Fault Refusal := linkEvt (fun s => s.sourceVlink x vlink) s

/-- LINK_OCP_TRIP (R344): the comparator acts on a crossing of its threshold in either direction, in every port state and
without Galdor. -/
def State.ocpTrip (s : State) (x : Fin 2) (i : Int) : State :=
  let s := s.modLink x fun p => { p with i := i }
  if max 10 (s.links.port[x]).ocp * 1000000 < i.natAbs then s.linkOver x i 2 else s
def execLinkOcpTrip (x : Fin 2) (i : Int) (s : State) : Host.Outcome State Fault Refusal := linkDone (s.ocpTrip x i)

/-! ### Recovery (R370) -/

/-- HARD_RESET_RECOVERY: the port restarts from attach in the role it resumes. -/
def State.linkRecover (s : State) (x : Fin 2) (v : Int) : State :=
  let s := s.modLink x fun p => { p with v := v }
  let p := s.links.port[x]
  if p.state = .hardReset ∧ v < 2000000 then
    let st : LinkState := match p.role with
      | 1 => .sUnatt
      | 2 => .kUnatt
      | 3 => if p.source then .sUnatt else .kUnatt
      | _ => .off
    s.modLink x fun p => { p with state := st, drained := false, roleHold := p.role == 3, part := false }
  else s
def execHardResetRecovery (x : Fin 2) (v : Int) (s : State) : Host.Outcome State Fault Refusal := linkEvt (fun s => s.linkRecover x v) s

/-- ROLE_HOLD_EXPIRY (R370). -/
def State.roleHoldEnd (s : State) (x : Fin 2) : State :=
  let p := s.links.port[x]
  if !p.roleHold then s
  else
    s.modLink x fun p =>
      match p.state with
      | .sUnatt | .kUnatt | .sAttachWait | .kAttachWait => { p with roleHold := false, state := p.unatt, part := p.source }
      | _ => { p with roleHold := false }
def execRoleHoldExpiry (x : Fin 2) (s : State) : Host.Outcome State Fault Refusal := linkEvt (fun s => s.roleHoldEnd x) s

/-! ### Desires and policy (R373, R374) -/

/-- EXPORT_DESIRE (R374). -/
def State.exportDesire (s : State) (x : Fin 2) (on : Bool) (vlink : Int) : State :=
  let s : State := { s with links := { s.links with vlink := vlink } }
  match (s.links.port[x]).policy with
  | some q =>
      if on && q.autoExport && decide (q.vExport < vlink) then s.modLink x fun p => { p with wantExport := true }
      else if !on && decide (vlink < q.vExport - q.vHyst) then s.modLink x fun p => { p with wantExport := false }
      else s
  | none => s
def execExportDesire (x : Fin 2) (on : Bool) (vlink : Int) (s : State) : Host.Outcome State Fault Refusal :=
  linkEvt (fun s => s.exportDesire x on vlink) s

/-- A sink in default power asks for an offer (R374). -/
def State.askOffer (s : State) (x : Fin 2) : State :=
  let p := s.links.port[x]
  if p.state = .kDefault ∧ p.wantImport = true then s.modLink x fun p => { p with askDue := true } else s

/-- IMPORT_DESIRE (R374). -/
def State.importDesire (s : State) (x : Fin 2) (on : Bool) (vlink : Int) : State :=
  let s : State := { s with links := { s.links with vlink := vlink } }
  let p := s.links.port[x]
  match p.policy with
  | some q =>
      if on && q.autoImport && decide (vlink < q.vImport) then
        let s := s.modLink x fun p => { p with wantImport := true }
        if p.wantImport then s else s.askOffer x
      else if !on && decide (q.vImport + q.vHyst < vlink) then s.modLink x fun p => { p with wantImport := false }
      else s
  | none => s
def execImportDesire (x : Fin 2) (on : Bool) (vlink : Int) (s : State) : Host.Outcome State Fault Refusal :=
  linkEvt (fun s => s.importDesire x on vlink) s

/-- ASK_OFFER_REPEAT (R374). -/
def execAskOfferRepeat (x : Fin 2) (s : State) : Host.Outcome State Fault Refusal := linkEvt (fun s => s.askOffer x) s

/-- A policy admits a role. -/
def Policy.admits (q : Policy) (source : Bool) : Bool := q.role == 3 || (q.role == 1 && source) || (q.role == 2 && !source)

/-- POLICY_APPLY (R373): the accepted block takes effect, and its command completes. A block that removes the role in
force resets the link (R369). -/
def State.policyApply (s : State) (x : Fin 2) : State :=
  let p := s.links.port[x]
  match p.next, p.idle with
  | none, _ => s
  | some _, false => s
  | some (q, cmd), true =>
      let s := s.modLink x fun p =>
        { p with policy := some q, next := none, wantExport := p.wantExport && q.autoExport
                 wantImport := p.wantImport && q.autoImport }
      let s :=
        if !p.en || !s.linksRun then s
        else if p.state.attached || p.state == .swapDischarge then (if q.admits p.source then s else s.hardReset x false 7)
        else match p.state with
          | .off | .toggle | .sUnatt | .kUnatt | .sAttachWait | .kAttachWait =>
              s.modLink x fun p => { p with state := q.unattached, roleHold := false, part := false }
          | _ => s
      (s.completeOpt cmd 0 0 0).pumpCmd
def execPolicyApply (x : Fin 2) (s : State) : Host.Outcome State Fault Refusal := linkEvt (fun s => s.policyApply x) s

/-! ### LNK_CTRL (R374, R376) -/

/-- A write of LNK_CTRL: EN, HRST, SWAP, REL. -/
def State.lnkCtrl (s : State) (x : Fin 2) (v : Word) : State :=
  let p := s.links.port[x]
  let en := bit v 0
  let s := s.modLink x fun p => { p with en := en }
  let s :=
    if !en && p.en then s.modLink x LinkPort.stop
    else if en && !p.en && s.linksRun then s.modLink x LinkPort.start
    else s
  if !en || !s.linksRun then s
  else
    let s := if bit v 1 then s.hardReset x false 5 else s
    let s := if !bit v 2 then s else if s.maySwap x then s.sendSwap x
      else s.modLink x fun p => { p with swapDue := p.state.attached }
    if bit v 3 then s.sendRelease x 7 else s
/-- LNK_CTRL_EN (R376). -/
def execLnkCtrlEn (x : Fin 2) (v : Word) (s : State) : Host.Outcome State Fault Refusal := linkDone (s.bar (s.lnkCtrl x v))
/-- LNK_CTRL_HRST (R369). -/
def execLnkCtrlHrst (x : Fin 2) (v : Word) (s : State) : Host.Outcome State Fault Refusal := linkDone (s.bar (s.lnkCtrl x v))
/-- LNK_CTRL_SWAP (R374). -/
def execLnkCtrlSwap (x : Fin 2) (v : Word) (s : State) : Host.Outcome State Fault Refusal := linkDone (s.bar (s.lnkCtrl x v))
/-- LNK_CTRL_REL (R374). -/
def execLnkCtrlRel (x : Fin 2) (v : Word) (s : State) : Host.Outcome State Fault Refusal := linkDone (s.bar (s.lnkCtrl x v))

end Sys2Proof.Machine
end

