-- ==== Sys2Proof/Machine/HostRings.lean ====
section
/-!
DEFINITION. The host link and its rings (R246 to R257, R286, R289, R290 of spec/08_host_rings.md): resets, ring
configuration, doorbells, descriptor fetches, released events.
-/
namespace Sys2Proof.Machine

/-! ### Resets of the host interface (R251) -/

/-- The completions of started commands are no longer expected: their reservations are void (R251, R254). Those that
were waiting to be written are discarded and counted. -/
def HostIf.voidCpl (h : HostIf) : HostIf :=
  let n := h.cplPend.length
  { h with running := h.running.map fun c => { c with reserved := false }, cplPend := []
           cplLost := BitVec.ofNat 32 (min 0xFFFFFFFF (h.cplLost.toNat + n)) }

/-- HRG_ registers other than HRG_EVT_SEQ, the rings, the configuration space and the MSI-X table at reset. -/
def HostIf.linkReset (h : HostIf) : HostIf :=
  { h with d3 := false, pmeEn := false, bme := false, msixEn := false, msixMaskAll := false, msixMask := BitVec.allOnes 32
           msixPend := 0, msixTable := [], pci := pcieReset, aer := 0, pciErr := 0, ltrSent := 0, dataPend := [], cmdq := Ring.reset, cplq := Ring.reset, evtq := Ring.reset, fetchErr := false
           fetchStop := false, dbErr := false, cfgErr := false, cplLost := 0, evtLost := 0 }.voidCpl

/-- The events of R251: the interface resets, the streams are disabled with the rings (R301). -/
def State.hostReset (s : State) : State := (s.modHost HostIf.linkReset).telReset

/-- The link goes down with a reset. -/
def State.linkLost (s : State) : State :=
  (s.modHost fun h => { h with linkUp := false, speed := 0, width := 0 }).hostReset

/-- PERST_N_ASSERT (R251). -/
def execPerstNAssert (s : State) : Host.Outcome State Fault Refusal :=
  done ((s.modHost fun h => { h with perstN := false }).linkLost)
/-- HOT_RESET (R251). -/
def execHotReset (s : State) : Host.Outcome State Fault Refusal := done s.linkLost
/-- LINK_DOWN (R251). -/
def execLinkDown (s : State) : Host.Outcome State Fault Refusal := done s.linkLost
/-- FUNCTION_LEVEL_RESET (R251): the link stays up. -/
def execFunctionLevelReset (s : State) : Host.Outcome State Fault Refusal := done s.hostReset
/-- D3HOT_TO_D0 (R251): nothing is reset. -/
def execD3hotToD0 (s : State) : Host.Outcome State Fault Refusal := done (s.modHost fun h => { h with d3 := false })
/-- D0_TO_D3HOT (R247): `pme` is PME_En as the host has set it. -/
def execD0ToD3hot (pme : Bool) (s : State) : Host.Outcome State Fault Refusal :=
  done (if s.host.linkUp then s.modHost fun h => { h with d3 := true, pmeEn := pme } else s)
/-- PERST_N_DEASSERT (R561). -/
def execPerstNDeassert (s : State) : Host.Outcome State Fault Refusal := done (s.modHost fun h => { h with perstN := true })

/-- The PCI Express core trains from the end of step 2 on (R436), in every state but POWERUP. -/
def State.mayTrain (s : State) : Bool := s.host.perstN && s.dev.state != .powerup && !(s.dev.state == .selftest && s.dev.step ≤ 2)
/-- PCIE_LINK_UP (R436). -/
def execPcieLinkUp (speed width : Nat) (s : State) : Host.Outcome State Fault Refusal :=
  done (if s.mayTrain ∧ s.host.linkUp = false ∧ 1 ≤ speed ∧ speed ≤ 4 ∧ 1 ≤ width ∧ width ≤ 2 then
    s.modHost fun h => { h with linkUp := true, speed := speed, width := width } else s)

/-! ### Bus Master Enable (R249, R290) -/

/-- Messages kept back are sent where nothing masks them any more (R288). -/
def State.flushMsix (s : State) : State :=
  if !s.host.msixEn || s.host.msixMaskAll || !s.host.bme then s
  else
    let due := (List.range 11).filter fun v => s.host.msixPend.getLsbD v && !s.host.msixMask.getLsbD v
    forEach due s fun s v => (s.modHost fun h => { h with msixPend := h.msixPend &&& ~~~(1#32 <<< v) }).send (.msix v)

/-- A configuration as the device takes it: the low 18 bits of BAR0 read 0, payloads are of at most 512 bytes (R246, R248). -/
def pcieTaken (c : PcieCfg) : PcieCfg := { c with bar0 := c.bar0 &&& ~~~0x3FFFF#64, mps := min 2 c.mps, mrrs := min 5 c.mrrs }

/-- Everything that waited for Bus Master Enable goes on. The error bits that `clear` names in AER (low word) and in the
Status register are cleared. -/
def State.busMaster (s : State) (on msix mask : Bool) (pci : PcieCfg) (clear : BitVec 48) : State :=
  let s := s.modHost fun h =>
    { h with bme := on, msixEn := msix, msixMaskAll := mask, pci := pcieTaken pci, aer := h.aer &&& ~~~clear.setWidth 32
             pciErr := h.pciErr &&& ~~~(clear >>> 32).setWidth 16 }
  if on then s.flushCpl.pumpEvt.flushMsix.pumpCmd else s
/-- BUS_MASTER_ENABLE_CHANGE (R290): what a write to the configuration space leaves in Bus Master Enable, in the enable and
mask bits of MSI-X (R288) and in the other fields that R246, R249 and R291 name, which no other row of the table changes. -/
def execBusMasterEnableChange (on msix mask : Bool) (pci : PcieCfg) (clear : BitVec 48) (s : State) :
    Host.Outcome State Fault Refusal :=
  done (s.busMaster on msix mask pci clear)

/-! ### Configuration space (R18, R246) -/

/-- The completion timeout in µs, shortest and longest, none while it is disabled (R291): the default range is 50 µs to
50 ms; ranges A, B and C are those of the PCI Express Base Specification (R246). -/
def HostIf.cplTimeout (h : HostIf) : Option (Nat × Nat) :=
  if h.pci.cplOff then none
  else match h.pci.cplRange with
    | 1 => some (50, 100) | 2 => some (1000, 10000) | 5 => some (16000, 55000) | 6 => some (65000, 210000)
    | 9 => some (260000, 900000) | 10 => some (1000000, 3500000)
    | _ => some (50, 50000)

/-- An error of a read is logged (R290). -/
def HostIf.logErr (h : HostIf) (e : ReadErr) : HostIf :=
  match e with
  | .unsupported => { h with pciErr := h.pciErr ||| 0x2000#16 }
  | .abort => { h with pciErr := h.pciErr ||| 0x1000#16 }
  | .poisoned => { h with pciErr := h.pciErr ||| 0x8000#16, aer := h.aer ||| 0x1000#32 }
  | .timeout => { h with aer := h.aer ||| 0x4000#32 }

/-- The words of configuration space whose content the spec gives (R18, R246, R248, R291); none for the rest. -/
def State.cfgRead (s : State) (o : Nat) : Option Word :=
  let h := s.host
  let c := h.pci
  let f (l : List (Nat × Nat)) : Option Word := some (l.foldl (fun w (lo, v) => w ||| at_ v lo) 0)
  match o with
  | 0x000 => some 0x81601D8F#32
  | 0x004 => f [(16, h.pciErr.toNat), (20, 1), (2, h.bme.toNat), (1, c.memSpace.toNat)]
  | 0x008 => some 0x118000B1#32
  | 0x010 => some ((c.bar0 &&& 0xFFFC0000#64).setWidth 32 ||| 4#32)
  | 0x014 => some ((c.bar0 >>> 32).setWidth 32)
  | 0x018 | 0x01C | 0x020 | 0x024 | 0x030 => some 0
  | 0x02C => some 0x00001D8F#32
  | 0x03C => some 0
  | 0x044 => f [(8, h.pmeEn.toNat), (3, 1), (0, if h.d3 then 3 else 0)]
  | 0x050 => f [(31, h.msixEn.toNat), (30, h.msixMaskAll.toNat), (16, 31), (8, 0x70), (0, 0x11)]
  | 0x054 => some 0x0003F000#32
  | 0x058 => some 0x0003F800#32
  | 0x074 => f [(28, 1), (0, 2)]
  | 0x078 => f [(12, c.mrrs), (5, c.mps)]
  | 0x094 => f [(11, 1), (4, 1), (0, 7)]
  | 0x098 => f [(10, c.ltrEn.toNat), (4, c.cplOff.toNat), (0, c.cplRange % 16)]
  | 0x104 => some h.aer
  | 0x144 => some (s.otpWord 128)
  | 0x148 => some (s.otpWord 129)
  | _ => none

/-! ### Ring configuration (R254) -/

/-- What a write of a CFG register's SIZE does to a ring. -/
inductive RingAct where
  | refused | enable | disable | same

def Ring.act (r : Ring) (size : Nat) : RingAct :=
  if size = 0 then .disable
  else if size < 4 ∨ 16 < size then .refused
  else if r.size = size then .same
  else if r.size ≠ 0 ∨ fld (r.baseReg.setWidth 32) 0 6 ≠ 0 then .refused
  else .enable

def Ring.enable (r : Ring) (size : Nat) : Ring :=
  { r with base := r.baseReg, size := size, dev := 0, host := 0, phase := true, since := 0 }
def Ring.disable (r : Ring) : Ring := { r with size := 0 }
/-- MOD_US and MOD_CNT. -/
def Ring.mod (r : Ring) (v : Word) : Ring := { r with modUs := fld v 16 16, modCnt := fld v 8 8 }

/-- A refused configuration write. -/
def State.cfgErr (s : State) : State := s.modHost fun h => { h with cfgErr := true }

/-- A write of HRG_CMDQ_CFG. -/
def State.cmdqCfg (s : State) (v : Word) : State :=
  let n := fld v 0 5
  match s.host.cmdq.act n with
  | .refused => s.cfgErr
  | .enable => s.modHost fun h => { h with cmdq := h.cmdq.enable n, fetchStop := false }
  | .disable => s.modHost fun h => { h with cmdq := h.cmdq.disable }
  | .same => s
/-- HRG_CMDQ_CFG (R254). -/
def execHrgCmdqCfg (v : Word) (s : State) : Host.Outcome State Fault Refusal := done (s.bar (s.cmdqCfg v))

/-- The message of a ring leaves: CPLQ, or EVTQ where `evt` (R289). -/
def State.ringMsg (s : State) (evt : Bool) : State :=
  if evt then (s.modHost fun h => { h with evtq := { h.evtq with since := 0 } }).vector 2
  else (s.modHost fun h => { h with cplq := { h.cplq with since := 0 } }).vector 1
/-- A new MOD_CNT that the entries written have reached already (R254, R289). -/
def State.ringDue (s : State) (evt : Bool) : State :=
  let r := if evt then s.host.evtq else s.host.cplq
  if max 1 r.modCnt ≤ r.since then s.ringMsg evt else s

/-- A write of HRG_CPLQ_CFG. A disable voids every reservation. -/
def State.cplqCfg (s : State) (v : Word) : State :=
  let n := fld v 0 5
  match s.host.cplq.act n with
  | .refused => s.cfgErr
  | .enable => (s.modHost fun h => { h with cplq := (h.cplq.enable n).mod v }).pumpCmd
  | .disable => s.modHost fun h => { h with cplq := (h.cplq.disable).mod v }.voidCpl
  | .same => (s.modHost fun h => { h with cplq := h.cplq.mod v }).ringDue false
/-- HRG_CPLQ_CFG (R254). -/
def execHrgCplqCfg (v : Word) (s : State) : Host.Outcome State Fault Refusal := done (s.bar (s.cplqCfg v))

/-- A write of HRG_EVTQ_CFG. Held events are written once the ring is enabled (R286). -/
def State.evtqCfg (s : State) (v : Word) : State :=
  let n := fld v 0 5
  match s.host.evtq.act n with
  | .refused => s.cfgErr
  | .enable => (s.modHost fun h => { h with evtq := (h.evtq.enable n).mod v }).pumpEvt
  | .disable => s.modHost fun h => { h with evtq := (h.evtq.disable).mod v }
  | .same => (s.modHost fun h => { h with evtq := h.evtq.mod v }).ringDue true
/-- HRG_EVTQ_CFG (R254). -/
def execHrgEvtqCfg (v : Word) (s : State) : Host.Outcome State Fault Refusal := done (s.bar (s.evtqCfg v))

/-! ### Doorbells (R257) -/

/-- A ring takes a doorbell value; none where it is out of rule. -/
def Ring.bell (r : Ring) (v : Word) : Option Ring :=
  if r.size ≠ 0 ∧ v.toNat < r.entries then some { r with host := v.toNat } else none

def State.dbErr (s : State) : State := s.modHost fun h => { h with dbErr := true }

/-- A write of HRG_DB_CMDQ (R257). -/
def State.dbCmdq (s : State) (v : Word) : State :=
  match s.host.cmdq.bell v with
    | some r => s.modHost fun h => { h with cmdq := r }
    | none => s.dbErr
/-- HRG_DB_CMDQ (R257). -/
def execHrgDbCmdq (v : Word) (s : State) : Host.Outcome State Fault Refusal := done (s.bar (s.dbCmdq v))
/-- A vector whose entries have all been consumed is pending no longer (R288). -/
def Ring.signalled (r : Ring) (v : Nat) (pend : BitVec 32) : BitVec 32 := if r.used = 0 then pend &&& ~~~(1#32 <<< v) else pend
/-- A write of HRG_DB_CPLQ (R257). -/
def State.dbCplq (s : State) (v : Word) : State :=
  match s.host.cplq.bell v with
    | some r => (s.modHost fun h => { h with cplq := r, msixPend := r.signalled 1 h.msixPend }).pumpCmd
    | none => s.dbErr
/-- HRG_DB_CPLQ (R257): freed entries let commands start (R264). -/
def execHrgDbCplq (v : Word) (s : State) : Host.Outcome State Fault Refusal := done (s.bar (s.dbCplq v))
/-- A write of HRG_DB_EVTQ (R257). -/
def State.dbEvtq (s : State) (v : Word) : State :=
  match s.host.evtq.bell v with
    | some r => (s.modHost fun h => { h with evtq := r, msixPend := r.signalled 2 h.msixPend }).pumpEvt
    | none => s.dbErr
/-- HRG_DB_EVTQ (R257): freed entries let held events be written (R286). -/
def execHrgDbEvtq (v : Word) (s : State) : Host.Outcome State Fault Refusal := done (s.bar (s.dbEvtq v))
/-- EVENT_RELEASE (R286). -/
def execEventRelease (s : State) : Host.Outcome State Fault Refusal := done s.pumpEvt

/-- MOD_US µs after the first unsignalled entry (R289): `evt` names the ring. -/
def State.holdoff (s : State) (evt : Bool) : State :=
  let r := if evt then s.host.evtq else s.host.cplq
  if r.since = 0 ∨ r.modUs = 0 ∨ r.size = 0 then s else s.ringMsg evt
/-- INTERRUPT_HOLDOFF (R289). -/
def execInterruptHoldoff (evt : Bool) (s : State) : Host.Outcome State Fault Refusal := done (s.holdoff evt)

/-! ### Fetching (R250, R254, R257, R290) -/

/-- Descriptors may be fetched: the rings are enabled and served, CMDQ is not empty, no restart of Galdor runs (R482). -/
def State.mayFetch (s : State) : Bool :=
  s.mayWrite && s.dev.state != .orderlyStop && s.host.cmdq.size != 0 && s.host.cplq.size != 0 && !s.host.fetchStop &&
    s.host.cmdq.dev != s.host.cmdq.host && !s.wdt.restarting

/-- Descriptor slots between head and producer. -/
def Ring.waiting (r : Ring) : Nat := (r.host + r.entries - r.dev) % r.entries

/-- Descriptors that one read may ask for: at most 8, within Max_Read_Request_Size (R249, R257). -/
def HostIf.batch (h : HostIf) : Nat := min 8 (128 * 2 ^ h.pci.mrrs / 32)
/-- A read of descriptors completes: those of the slots from the head on. -/
def State.fetch (s : State) (descs : List (List Byte)) : State :=
  if !s.mayFetch then s
  else
    let l := descs.take (min s.host.batch s.host.cmdq.waiting)
    (s.modHost fun h =>
      { h with fetched := h.fetched ++ l.map parseDesc
               cmdq := { h.cmdq with dev := (h.cmdq.dev + l.length) % h.cmdq.entries } }).pumpCmd
/-- DESCRIPTOR_FETCH (R257). -/
def execDescriptorFetch (descs : List (List Byte)) (s : State) : Host.Outcome State Fault Refusal := done (s.fetch descs)
/-- FETCH_ERROR (R290). -/
def execFetchError (e : ReadErr) (s : State) : Host.Outcome State Fault Refusal :=
  done (if s.mayFetch then s.modHost fun h => { h.logErr e with fetchErr := true, fetchStop := true } else s)

end Sys2Proof.Machine
end

