-- ==== Sys2Proof/Machine/CoreReset.lean ====
section
/-!
DEFINITION. What a reset of the core leaves (R95, R412, R432, R460): the always-on domain, the RTC domain and what is
kept in NV stay; everything else is as State.reset has it.
-/
namespace Sys2Proof.Machine

/-- A phase after a reset of the core: its latch and what NV keeps of it (R95, R243). -/
def Phase.kept (p : Phase) : Phase :=
  { Phase.reset with latched := p.latched, latchScope := p.latchScope, ocHi := p.ocHi, ocLo := p.ocLo
                     nvLatch := p.nvLatch, life := p.life }

/-- A group after a reset of the core: the transfer accepted last, which NV keeps also where no slot boundary has applied it
yet, and what it has made of the state (R137, R146, R147). -/
def Group.kept (g : Group) : Group :=
  let g := g.applyRef
  { Group.reset with stateV := g.stateV, stateI := g.stateI, rotV := if g.rotV = 17 then 17 else 0
                     rotI := if g.rotI = 17 then 17 else 0
                     refvGain := g.refvGain, refvOfs := g.refvOfs, refiGain := g.refiGain, refiOfs := g.refiOfs
                     refvLin := g.refvLin, xferV := g.xferV, xferI := g.xferI, xferTime := g.xferTime
                     xferTimeV := g.xferTimeV, xferTimeI := g.xferTimeI }

/-- A metrology port after a reset of the core: its system calibration (R141). -/
def MetPort.kept (p : MetPort) : MetPort :=
  { MetPort.reset with vGain := p.vGain, vOfs := p.vOfs, mGain := p.mGain, mOfs := p.mOfs, vTime := p.vTime
                       mTime := p.mTime, vValid := p.vValid, mValid := p.mValid }

/-- A tray after a reset of the core: its presence (R496). -/
def Tray.kept (t : Tray) : Tray :=
  { Tray.reset with here := t.here, state := if t.here then .present else .absent }

/-- A burn under way when the core resets: some of its bits are burnt, which is free; the FINAL bit of a finalise comes last
and is not (R488, R516). -/
def Sec.torn (c : Sec) (k : Nat) : Sec :=
  let put := fun (i : Nat) (old d : Word) => old ||| (d &&& Config.tornBurn k i)
  match c.otpBusy with
  | some (.burn w d) =>
      if h : w < 512 then { c with otpA := c.otpA.set w (put w c.otpA[w] d), otpB := c.otpB.set w (put (w + 512) c.otpB[w] d) } else c
  | some (.finalise _ slot dig) =>
      (List.range 8).foldl (fun c j =>
        if h : slot + j < 512 then
          { c with otpA := c.otpA.set (slot + j) (put (slot + j) c.otpA[slot + j] (dig.getD j 0))
                   otpB := c.otpB.set (slot + j) (put (slot + j + 512) c.otpB[slot + j] (dig.getD j 0)) }
        else c) c
  | none => c

/-- A reset while a write of the lifetime area is due or under way leaves its slot torn: its CRC-32 fails (R244). -/
def Store.lifeTorn (t : Store) (due : Bool) : Store :=
  if due then
    let q := t.lifeSeq + 1
    let k : Fin 4 := ⟨q % 4, by omega⟩
    { t with lifeSlots := t.lifeSlots.set k (some { seq := q, phases := [], hs := [], closures := [], crcOk := false }) }
  else t

/-- The reset of the core. -/
def State.coreReset (s : State) : State :=
  { State.reset with
    phases := s.phases.map Phase.kept
    groups := s.groups.map Group.kept
    met := { Met.reset with ports := s.met.ports.map MetPort.kept }
    store := { s.store.ocvTake.lifeTorn s.dev.lifetimeDue with
      hs := s.store.hs.map fun h => { h with state := 0, value := -32768 }
      hsCfg := Store.reset.hsCfg, hsLimit := Store.reset.hsLimit }
    host := { HostIf.reset with perstN := s.host.perstN }
    hold := { s.hold with cfg := s.hold.cfg &&& 0x7FFFFFFF#32, est := Est.reset, cnt := Counters.reset, edge := none
                          learn := .idle, pre := [], restMs := 0, thermLim := false }
    links := { Links.reset with port := s.links.port.map fun p => { LinkPort.reset with policy := p.policy } }
    saves := { s.saves.tear with restored := false, autoPending := [], autoResume := [], resumeDue := false }
    rtc := { s.rtc with frozen := false, setRefused := false, setBuf := Rtc.reset.setBuf }
    seq := s.seq
    dev := { Device.reset with bootCount := s.dev.bootCount, noPulse := s.dev.noPulse, baseline := s.dev.baseline }
    flt := { Faults.reset with rtcCopy := s.flt.rtcCopy, ffLost := s.flt.ffLost, testEn := s.flt.testEn
                               s4First := s.flt.s4First, modeReg := s.wbFuse, mode := s.wbFuse }
    wdt := { Wdt.reset with supCount := s.wdt.supCount, allCount := s.wdt.allCount }
    sec := { s.sec.torn s.freeCount with
      undo := none, updLock := false, debugOpen := false, mapRefused := false, attDone := false, attRun := none
      otpAddr := 0, otpData := 0, otpRd := 0, otpBusy := none, otpResult := 0, trayCfg := 0
      trays := s.sec.trays.map Tray.kept, nonce := Sec.reset.nonce, sig := Sec.reset.sig, updLast := 0, fallback := false }
    tw := { TwoWire.reset with baddr := s.tw.baddr }
    log := s.log
    beat := { BeatUnit.reset with uptime := s.beat.uptime }
    freeCount := s.freeCount + 1, outbox := s.outbox, pending := s.pending }

/-- A device reset (R432, R482, R514): the core starts again from POWERUP. -/
def State.deviceReset (s : State) : State := s.coreReset.send .deviceReset

/-- VBACK falls away (R95, R411): the always-on domain resets too; latches come back from NV at the next start. -/
def State.vbackLost (s : State) : State :=
  let s := s.coreReset
  { s with
    seq := { Seqr.reset with stored := s.seq.stored }
    hold := { Holdup.reset with cap := s.hold.cap, rtCount := s.hold.rtCount, rtMs := s.hold.rtMs }
    flt := { s.flt with s4First := none }
    phases := s.phases.map fun p => { p with latched := p.nvLatch } }

/-- VBACK_LOST (R381, R411). -/
def execVbackLost (s : State) : Host.Outcome State Fault Refusal := done s.vbackLost

/-- CORE_SUPPLY_FAULT (R432): a core supply has left its range for 10 µs. -/
def execCoreSupplyFault (s : State) : Host.Outcome State Fault Refusal := done s.deviceReset

end Sys2Proof.Machine
end

