-- ==== Sys2Proof/Machine/Sequencer.lean ====
section
/-!
DEFINITION. The commands of the board rail sequencer (R409 to R426 of spec/13_rail_sequencer.md).
-/
namespace Sys2Proof.Machine

/-- The reading of a slot as records carry it: mV, or 0xFFFF in LOGIC or NONE mode (R429, R458). -/
def State.slotMv (s : State) (k : Fin 12) : Nat :=
  if s.seq.run.slots[k].mode = 2 then s.seq.slots[k].sense else 0xFFFF

/-- The slot is left untested: an RT 0 slot after a main loss (R421). -/
def State.slotCut (s : State) (k : Fin 12) : Bool := s.seq.rtCut && !s.seq.run.slots[k].rt

/-- The power-down of a fault, with the orderly stop before it that FLT_STOP asks for (R416, R422). -/
def State.seqFaultDown (s : State) (c : DownCause) : State :=
  let s := s.seqCause c
  let live := s.dev.state == .ready || s.dev.state == .active || s.dev.state == .chrysalis
  if s.seq.run.fltStop && live then
    (s.modSeq fun q => { q with state := .powerDown, stopFirst := true, cause := some c }).orderlyStop .sequencer
  else s.seqDownStart c

/-- An own PG_TIMEOUT or PG_LOST of a slot (R414, R415, R416, R419). -/
def State.seqOwnFault (s : State) (k : Fin 12) (c : DownCause) (code fail ev : Nat) : State :=
  let mv := s.slotMv k
  let s := s.modSlot k fun x => { x with lastFail := fail }
  let drive := s.seq.run.fltnEn
  let s := s.modSeq fun q => { q with lastSlot := k.val, fltDriven := q.fltDriven || drive, fltLow := q.fltLow || drive }
  let s := s.seqRec code ([byte k.val, 0] ++ leBytes 2 mv) (some (ev, some k.val, leBytes 2 mv))
  s.seqFaultDown c

/-- A slot fails during a power-down (R418): RAIL_DISk high at once, recorded, SEQ_OFF_FAIL raised. -/
def State.seqOffFail (s : State) (k : Fin 12) (fail : Nat) : State :=
  let mv := s.slotMv k
  let s := s.modSlot k fun x => { x with lastFail := fail, dis := true, isOff := true
                                         en := if fail = 3 then false else x.en }
  let s := s.seqRec 7 [byte k.val, byte fail] (some (84, some k.val, [byte fail]))
  s.raise 32 k.val (at_ k.val 24 ||| at_ fail 16 ||| at_ mv 0) false false

/-- LOCKED (R419): FLT_N held low, SEQ_LOCKED raised. -/
def State.seqLock (s : State) : State :=
  let drive := s.seq.run.fltnEn
  let s := s.modSeq fun q => { q with state := .locked, lockAfter := false, lockedMainLost := !s.hold.main
                                      fltDriven := drive, fltLow := q.fltLow || drive }
  let s := s.seqRec 9 [byte s.seq.lastSlot] (some (87, some s.seq.lastSlot, []))
  s.raiseDev 33 0

/-- A power-down that another follows by itself has completed: with main lost by then the sequencer is OFF (R422, log entry
79). -/
def State.seqWait (s : State) (st : SeqState) : State :=
  if s.hold.main then s.modSeq fun q => { q with state := st }
  else s.modSeq fun q => { q with state := .off, fltDriven := false, fltLow := q.fltLow && !q.fltDriven }

/-- The power-down is complete (R417): what follows by its cause (R419, R422). `t` is the time from its common start,
100 µs. -/
def State.seqDownCheck (s : State) (t : Nat) : State :=
  if s.seq.state = .powerDown ∧ s.seq.stopFirst = false ∧
      ((allFin 12).all fun k => !s.seq.slots[k].wasOn || s.seq.slots[k].isOff) = true then
    let s := s.seqRec 6 (leBytes 4 t) none
    if s.seq.lockAfter then s.seqLock
    else match s.seq.cause with
      | some .pgTimeout | some .pgLost =>
          if s.seq.retry < s.seq.run.retries then s.seqWait .gap
          else s.seqLock
      | some .fltExt => s.seqWait .extWait
      | _ => s.modSeq fun q => { q with state := .off, fltDriven := false }
  else s

/-- The conditions of a common start (R413), FLT_N apart. -/
def State.upAllowed (s : State) : Bool := s.seq.vback && s.hold.main && s.hold.state != .faultShort

/-- VBACK first becomes valid (R411): the profile record is read; `crcOk` says that its CRC matches. -/
def State.vbackValid (s : State) (crcOk : Bool) : State :=
  if s.seq.vback then s
  else
    let (p, st) := match s.seq.stored, crcOk with
      | some p, true => (p, true)
      | _, _ => (SeqProfile.blank, false)
    let s := s.modSeq fun q => { q with vback := true, profile := p, run := p, profileStored := st }
    s.seqRec 11 [if st then 1 else 0] none

/-- VBACK_VALID (R411). -/
def execVbackValid (crcOk : Bool) (s : State) : Host.Outcome State Fault Refusal := done (s.vbackValid crcOk)

/-- A power-up of a board that was powered down starts the core afresh (R399, R432). -/
def State.freshCore (s : State) : State := if s.dev.boardDown then s.coreReset else s

/-- POWER_UP_START (R413): in OFF, with every condition holding, the power-up begins. -/
def State.powerUpStart (s : State) : State :=
  if s.seq.state = .off ∧ s.upAllowed = true ∧ (s.seq.fltLow = false ∨ s.seq.profile.fltnEn = false) then
    s.freshCore.seqUpStart 0
  else s
def execPowerUpStart (s : State) : Host.Outcome State Fault Refusal := done s.powerUpStart

/-- SLOT_ON (R413): the on-delay of a slot elapses. -/
def State.slotOnDue (s : State) (k : Fin 12) (t : Nat) : State :=
  if (s.seq.state = .powerUp ∨ s.seq.state = .on) ∧ s.seq.slots[k].due = true then (s.slotOn k).seqUpCheck t else s
def execSlotOn (k : Fin 12) (t : Nat) (s : State) : Host.Outcome State Fault Refusal := done (s.slotOnDue k t)

/-- PG_CHANGE (R410, R414, R415, R417, R418, R423): the filtered reading of a slot changes to a voltage in mV. -/
def State.pgChange (s : State) (k : Fin 12) (mv t : Nat) : State :=
  let c := s.seq.run.slots[k]
  let was := s.seq.slots[k]
  if c.mode = 0 then s
  else
    let good := slotGood c was.applied was.pg mv
    let s := s.modSlot k fun x => { x with pg := good, sense := if c.mode = 2 then mv else x.sense }
    let s := if good then s else s.lowResets fun j => s.masks j k
    match s.seq.state with
    | .powerUp | .on =>
        if !was.en || s.slotCut k then s
        else if was.pg && !good then s.seqOwnFault k .pgLost 4 2 82
        else s.seqUpCheck t
    | .powerDown =>
        let x := s.seq.slots[k]
        if s.seq.stopFirst || !x.wasOn || x.isOff || !slotReadsOff c x then s
        else if !x.offDone then (s.seqOffFail k 3).seqDownCheck t
        else (s.modSlot k fun x => { x with isOff := true }).seqDownCheck t
    | _ => s
def execPgChange (k : Fin 12) (mv t : Nat) (s : State) : Host.Outcome State Fault Refusal := done (s.pgChange k mv t)

/-- PG_TIMEOUT (R414, R426): the deadline of a slot. In NONE mode the slot is good then; any other slot that is not
good is a PG_TIMEOUT. -/
def State.pgDeadline (s : State) (k : Fin 12) (t : Nat) : State :=
  let up := s.seq.state == .powerUp || (s.seq.state == .on && s.seq.partialUp)
  if !up || !s.seq.slots[k].en || s.slotCut k then s
  else if s.seq.run.slots[k].mode = 0 then (s.modSlot k fun x => { x with pg := true }).seqUpCheck t
  else if s.seq.slots[k].pg then s.seqUpCheck t
  else s.seqOwnFault k .pgTimeout 3 1 81
def execPgTimeout (k : Fin 12) (t : Nat) (s : State) : Host.Outcome State Fault Refusal := done (s.pgDeadline k t)

/-- FLT_EXT (R416, R420): FLT_N has read low for 20 µs while this device does not drive it. -/
def State.fltExt (s : State) : State :=
  if s.seq.fltDriven then s
  else
    let s := s.modSeq fun q => { q with fltLow := true }
    if s.seq.run.fltnEn ∧ (s.seq.state = .powerUp ∨ s.seq.state = .on) then
      let s := if s.seqBuffers then s.modSeq fun q => { q with evDue := q.evDue ++ [(86, none, [])] }
               else (s.devEvent 86 []).irq 24
      s.seqFaultDown .fltExt
    else s
def execFltExt (s : State) : Host.Outcome State Fault Refusal := done s.fltExt

/-- SLOT_OFF (R416): the off-delay of a slot elapses. -/
def State.slotOffDue (s : State) (k : Fin 12) (t : Nat) : State :=
  if s.seq.state = .powerDown ∧ s.seq.stopFirst = false then
    (if s.seq.slots[k].wasOn && !s.seq.slots[k].offDone then s.slotOff k else s).seqDownCheck t
  else s
def execSlotOff (k : Fin 12) (t : Nat) (s : State) : Host.Outcome State Fault Refusal := done (s.slotOffDue k t)

/-- OFF_TIMEOUT (R418): the off deadline of a slot that has not counted as off: STUCK_ON. -/
def State.offDeadline (s : State) (k : Fin 12) (t : Nat) : State :=
  if s.seq.state = .powerDown ∧ s.seq.stopFirst = false ∧ s.seq.slots[k].wasOn = true ∧ s.seq.slots[k].isOff = false then
    (s.seqOffFail k 4).seqDownCheck t
  else s
def execOffTimeout (k : Fin 12) (t : Nat) (s : State) : Host.Outcome State Fault Refusal := done (s.offDeadline k t)

/-- GAP_END (R419): the retry count rises, FLT_N is released and that instant is the new common start, where R413 allows one. -/
def State.gapEnd (s : State) : State :=
  if s.seq.state = .gap ∧ s.upAllowed = true then
    let s := s.modSeq fun q => { q with retry := q.retry + 1, fltDriven := false, fltLow := false }
    let s := s.seqRec 8 [byte s.seq.retry] (some (85, none, [byte s.seq.retry]))
    s.freshCore.seqUpStart 1
  else s
def execGapEnd (s : State) : Host.Outcome State Fault Refusal := done s.gapEnd

/-- RETRY_COUNT_RESET (R419): after 10 s of ON. -/
def execRetryCountReset (s : State) : Host.Outcome State Fault Refusal :=
  done (if s.seq.state = .on then s.modSeq fun q => { q with retry := 0 } else s)

/-- FLT_N_RISE (R420): a waiting device starts with the others. -/
def State.fltNRise (s : State) : State :=
  let s := s.modSeq fun q => { q with fltLow := q.fltDriven }
  if s.seq.state = .extWait ∧ s.upAllowed = true ∧ s.seq.fltLow = false then
    s.freshCore.seqUpStart 2
  else s
def execFltNRise (s : State) : Host.Outcome State Fault Refusal := done s.fltNRise

/-- The condition of R423 for a reset to release. -/
def State.resetReady (s : State) (j : Fin 4) : Bool :=
  let up := s.seq.state == .powerUp || s.seq.state == .on
  let m := fld s.seq.run.rst[j] 0 12
  !bit s.seq.profile.rst[j] 31 && up && (if m = 0 then s.seq.state == .on
    else (allFin 12).all fun k => !s.masks j k || (s.seq.slots[k].en && s.seq.slots[k].pg))

/-- RESET_RELEASE (R423): the masked slots have been good for STRETCH. -/
def execResetRelease (j : Fin 4) (s : State) : Host.Outcome State Fault Refusal :=
  done (if s.resetReady j then s.modSeq fun q => { q with released := q.released.set j true } else s)

/-- A write of SEQ_RSTj: HOLD forces BRST_Nj low at once (R423). -/
def State.seqRstWrite (s : State) (j : Fin 4) (v : Word) : State :=
  let w := maskWrite s.seq.profile.rst[j] v 0x83FF0FFF
  let s := s.modSeq fun q => { q with profile := { q.profile with rst := q.profile.rst.set j w } }
  if bit v 31 then s.lowResets fun i => i == j else s

/-- SEQ_RST_HOLD (R423). -/
def execSeqRstHold (j : Fin 4) (v : Word) (s : State) : Host.Outcome State Fault Refusal := done (s.bar (s.seqRstWrite j v))

/-- The target code of a slot, limited to ±100 (R424). -/
def marginTarget (m : Word) : Int := clampInt (-100) 100 (signed 8 m.toNat)

/-- MARGIN_WRITE (R424, R425): stored, and in POWER_UP and ON in effect at once. -/
def State.marginWrite (s : State) (k : Fin 12) (v : Word) : State :=
  let s := s.modSlot k fun x => { x with marg := v &&& 0x800000FF#32 }
  if s.seq.state = .powerUp ∨ s.seq.state = .on then
    let s := s.modSlot k fun x => { x with margOn := bit v 31, applied := if bit v 31 then x.applied else 0 }
    s.seqRec 10 [byte k.val, byte v.toNat] none
  else s
def execMarginWrite (k : Fin 12) (v : Word) (s : State) : Host.Outcome State Fault Refusal := done (s.bar (s.marginWrite k v))

/-- A slot's applied code one step on toward its target (R425). -/
def Slot.marginStep (x : Slot) : Slot :=
  let t := marginTarget x.marg
  if x.margOn then { x with applied := if x.applied < t then x.applied + 1 else if t < x.applied then x.applied - 1
                                       else x.applied }
  else x

/-- MARGIN_STEP (R425). -/
def execMarginStep (s : State) : Host.Outcome State Fault Refusal :=
  done (if s.seq.state = .powerUp ∨ s.seq.state = .on then s.modSeq fun q => { q with slots := q.slots.map Slot.marginStep }
        else s)

/-- PROFILE_STORE (R411): STORE copies the registers to NV; `ok` says that the program operation verified. -/
def State.profileStore (s : State) (v : Word) (ok : Bool) : State :=
  if bit v 0 then
    if ok then (s.modSeq fun q => { q with stored := some q.profile, profileStored := true }).seqRec 11 [1] none
    else (s.modSeq fun q => { q with storeErr := true }).seqRec 11 [2] none
  else s
def execProfileStore (v : Word) (ok : Bool) (s : State) : Host.Outcome State Fault Refusal := done (s.bar (s.profileStore v ok))

/-- What a main loss does to the sequencer (R394, R419, R421, R422). -/
def State.seqMainLost (s : State) : State :=
  match s.seq.state with
  | .gap | .extWait => s.modSeq fun q => { q with state := .off, fltDriven := false, fltLow := false }
  | .locked => s.modSeq fun q => { q with lockedMainLost := true }
  | .powerUp | .on =>
      (match s.dev.state with
       | .powerup | .otpHold | .selftest | .cocoon => s.seqDown .mainEarly
       | _ => s.cutRt0)
  | _ => s

/-- What a return of main does to a locked sequencer (R419, R422). -/
def State.seqMainValid (s : State) : State :=
  if s.seq.state = .locked ∧ s.seq.lockedMainLost = true then
    s.modSeq fun q => { q with state := .off, retry := 0, fltDriven := false, fltLow := false, lockedMainLost := false }
  else s

end Sys2Proof.Machine
end

