-- ==== Sys2Proof/Machine/Power.lean ====
section
/-!
DEFINITION. Loss and return of main, ride-through, the seal of an orderly stop and what follows it (R392 to R401 of
spec/12_holdup_rtc.md, R394 and R421 of the sequencer, R432, R454, R482).
-/
namespace Sys2Proof.Machine

/-- HLD_CFG.AUTO_RESUME. -/
def Holdup.autoResume (h : Holdup) : Bool := bit h.cfg 1

/-! ### Loss of main (R392, R394) -/

/-- RIDE_THROUGH begins: every measuring step in progress loses its learning (R395, R213). -/
def State.rideStart (s : State) : State :=
  let left := s.dev.state
  let s := s.modDev fun d => { d with left := left }
  let s := s.modHold fun h => { h with rtStart := s.beat.uptime, rtCount := satInc 0xFFFF h.rtCount, rtMs := 0 }
  let s := s.goState .rideThrough
  forEach s.runChans s fun s n => s.modChan n fun c => c.note .ride

/-- Main counts as lost; `byOk` says that MAIN_OK fell. -/
def State.mainLost (s : State) (byOk : Bool) : State :=
  if s.hold.main = false then s
  else
    let s := s.chgMainLost
    let s := s.seqMainLost
    let s := s.aonEvent 68 [if byOk then 2 else 1]
    let s := if s.coreUp then s.irq 26 else s
    match s.dev.state with
    | .ready | .active | .chrysalis =>
        let s := s.rideStart
        if s.hold.rtWindow = 0 then s.orderlyStop .windowEnd else s
    | .orderlyStop => s.modDev fun d => { d with mainLostInStop := true }
    | .rideThrough => s
    | _ => s.modDev fun d => { d with boardDown := true }
/-- MAIN_LOST (R392). -/
def execMainLost (byOk : Bool) (s : State) : Host.Outcome State Fault Refusal := done (s.mainLost byOk)

/-! ### Return of main (R393, R396) -/

/-- The device returns to the state it left. -/
def State.rideEnd (s : State) : State :=
  let s := s.modHold fun h => { h with rtMs := s.rideMs }
  let s := if s.dev.left = .ready then s.backToReady else s.goState s.dev.left
  (s.devEvent 69 [0]).irq 26

/-- Main counts as returned. -/
def State.mainReturned (s : State) : State :=
  if s.hold.main then s
  else
    let s := s.chgMainValid
    if s.dev.state = .rideThrough then s.rideEnd.seqPartialUp
    else (if s.coreUp then (s.devEvent 69 [1]).irq 26 else s).seqMainValid
/-- MAIN_RETURNED (R393, R396). -/
def execMainReturned (s : State) : Host.Outcome State Fault Refusal := done s.mainReturned

/-! ### The ends of ride-through (R395, R396) -/

def State.ifRide (s : State) (f : State → State) : State := if s.dev.state = .rideThrough then f s else s

/-- RIDE_THROUGH_END (R396). -/
def execRideThroughEnd (s : State) : Host.Outcome State Fault Refusal := done (s.ifRide fun s => s.orderlyStop .windowEnd)

/-- VSTOP_REACHED (R395): VHOLD in µV, below VSTOP for 1 ms. -/
def execVstopReached (v : Int) (s : State) : Host.Outcome State Fault Refusal :=
  let s := s.modHold fun h => { h with v := v }
  done (s.ifRide fun s => if v < s.hold.vstop then s.orderlyStop .vstop else s)

/-- VLINK_COLLAPSE (R395): VLINK in µV, below 10 V for 1 ms. -/
def execVlinkCollapse (v : Int) (s : State) : Host.Outcome State Fault Refusal :=
  let s : State := { s with links := { s.links with vlink := v } }
  done (s.ifRide fun s => if v < 10000000 then s.orderlyStop .vlink else s)

/-! ### The seal (R397 to R399, R454, R482) -/

/-- A reference as it is saved: its age up to the seal (R236). -/
def OcvRef.saved (r : OcvRef) (now : Beat) : OcvRef := { r with beat := now, savedAge := r.age now }

/-- What the image holds of a channel. -/
def State.savedChan (s : State) (n : ChanNo) : SavedChan :=
  let c := s.chans[n]
  { chan := n, cfg := c.run, phases := (s.phasesOf n).map fun p => (p.val, s.phases[p].run)
    ctx := c.cur, est := { c.estCur with ref := c.estCur.ref.map fun r => r.saved s.beat.number }, nomCharge := c.nomCharge
    words := [(0x74, c.chry), (0x80, c.estCfg), (0x84, c.learnT), (0x88, c.learnRate), (0xF0, c.temp.map)] }

/-- The configuration words of a group window, by offset. -/
def Group.windowWords (g : Group) : List (Nat × Word) :=
  [(0x000, g.mctrl), (0x004, g.plaus), (0xB14, g.whold)] ++ (allFin 16).flatMap fun p =>
    let o := 0xA00 + 16 * p.val
    [(o, g.iwin[p]), (o + 4, g.vtrip[p]), (o + 8, g.vwarn[p]), (o + 12, g.wcfg[p])]

/-- The highest seal number so far. -/
def Saves.topSeal (v : Saves) : Nat :=
  v.areas.toList.foldl (fun m a => match a with | some i => max m i.sealNo | none => m) 0

/-- The image of now, sealed (R398). -/
def State.image (s : State) : Image :=
  { sealNo := s.saves.topSeal + 1, isSealed := true, boot := s.dev.bootCount.toNat, beat := s.beat.number, time := s.logTime
    chans := s.runChans.map s.savedChan, windows := s.groups.toList.map Group.windowWords, holdCnt := s.hold.cnt, holdEst := { s.hold.est with ref := s.hold.est.ref.map fun r => r.saved (BitVec.ofNat 64 s.beat.uptime) }
    life := s.phases.toList.map fun p => p.life
    latches := (allFin 160).foldl (fun b p => if s.phases[p].latched then b ||| (1#160 <<< p.val) else b) 0 }

/-- The board goes down after a seal: the sequencer's own pending power-down, or one with the cause given. -/
def State.sealDown (s : State) (c : DownCause) : State :=
  let s := if s.seq.stopFirst then s.seqDownStart (s.seq.cause.getD c) else s.seqDown c
  s.modDev fun d => { d with boardDown := true, stopCause := none }

/-- A second board-off S4 within 600 s of the first ends in LOCKED (R454). -/
def State.boardOffS4 (s : State) : State :=
  let now := s.rtc.aonSec
  let again := match s.flt.s4First with | some t => decide (now ≤ t + 600) | none => false
  let s := s.modFlt fun f => { f with s4First := if again then f.s4First else some now }
  let s := s.modSeq fun q => { q with lockAfter := q.lockAfter || again }
  s.sealDown .fault

/-- The seal of an orderly stop and what follows it. -/
def State.saveSeal (s : State) : State :=
  match s.dev.state, s.saves.writing with
  | .orderlyStop, some area =>
      let img := s.image
      let s := s.modSaves fun v => { v with writing := none, areas := if area = 0 then v.areas.set 0 (some img) else v.areas.set 1 (some img) }
      let s := s.lifeWrite.devEvent 71 [0, byte area]
      let cause := s.dev.stopCause.getD .windowEnd
      if s.dev.mainLostInStop then s.sealDown .stop
      else match cause with
        | .windowEnd | .mainLost | .vstop | .vlink => s.sealDown .stop
        | .sequencer => s.sealDown .stop
        | .faultS4 =>
            if s.flt.s4BoardOff then s.boardOffS4
            else ((s.modDev fun d => { d with stopCause := none }).goState .active).linksStart
        | .watchdog => s.deviceReset
  | _, _ => s
/-- SAVE_SEAL (R397, R398). -/
def execSaveSeal (s : State) : Host.Outcome State Fault Refusal := done s.saveSeal

end Sys2Proof.Machine
end

