-- ==== Sys2Proof/Machine/P256.lean ====
section
/-!
DEFINITION. ECDSA over the curve P-256 (R492, R493, R500 of spec/16_security_update.md), on naturals: the group law, the
verification of a signature and its making with a given nonce.
-/
namespace Sys2Proof.Machine.P256

/-- The prime of the field. -/
def p : Nat := 0xFFFFFFFF00000001000000000000000000000000FFFFFFFFFFFFFFFFFFFFFFFF
/-- The coefficient b of the curve; the coefficient a is −3. -/
def b : Nat := 0x5AC635D8AA3A93E7B3EBBD55769886BC651D06B0CC53B0F63BCE3C3E27D2604B
/-- The order of the base point. -/
def n : Nat := 0xFFFFFFFF00000000FFFFFFFFFFFFFFFFBCE6FAADA7179E84F3B9CAC2FC632551
/-- The base point. -/
def gx : Nat := 0x6B17D1F2E12C4247F8BCE6E563A440F277037D812DEB33A0F4A13945D898C296
def gy : Nat := 0x4FE342E2FE1A7F9B8EE7EB4A7C0F9E162BCE33576B315ECECBB6406837BF51F5

/-- A power modulo `m` by its exponent's bits, the least significant first. -/
def powBits (m : Nat) : Nat → Nat → Nat → Nat → Nat
  | 0, _, _, acc => acc
  | k + 1, x, e, acc => powBits m k (x * x % m) (e / 2) (if e % 2 = 1 then acc * x % m else acc)
/-- The inverse modulo a prime of 256 bits. -/
def inv (m x : Nat) : Nat := powBits m 256 (x % m) (m - 2) 1

/-- A point: none is the point at infinity. -/
abbrev Point := Option (Nat × Nat)

/-- The group law. -/
def add (u v : Point) : Point :=
  match u, v with
  | none, q => q
  | q, none => q
  | some (x1, y1), some (x2, y2) =>
      if x1 = x2 ∧ (y1 + y2) % p = 0 then none
      else
        let num := if x1 = x2 then 3 * x1 * x1 + p - 3 else y2 + p - y1
        let den := if x1 = x2 then 2 * y1 else x2 + p - x1
        let l := num % p * inv p den % p
        let x := (l * l + 2 * p - x1 - x2) % p
        some (x, (l * (x1 + p - x) + p - y1) % p)

/-- A multiple of a point by the bits of its factor, the least significant first. -/
def mulBits : Nat → Nat → Point → Point → Point
  | 0, _, _, acc => acc
  | k + 1, e, q, acc => mulBits k (e / 2) (add q q) (if e % 2 = 1 then add acc q else acc)
def mul (e : Nat) (q : Point) : Point := mulBits 256 e q none

/-- A pair lies on the curve. -/
def onCurve (x y : Nat) : Bool := x < p && y < p && y * y % p == (x * x * x + (p - 3) * x + b) % p

/-- A signature (r, s) of the digest `e` verifies under the key (x, y). -/
def verify (x y r s e : Nat) : Bool :=
  if !onCurve x y || r == 0 || s == 0 || n ≤ r || n ≤ s then false
  else
    let w := inv n s
    match add (mul (e * w % n) (some (gx, gy))) (mul (r * w % n) (some (x, y))) with
    | some (px, _) => px % n == r
    | none => false

/-- The signature of the digest `e` with the private key `d` and the nonce `k`. -/
def sign (d k e : Nat) : Nat × Nat :=
  match mul k (some (gx, gy)) with
  | some (px, _) => (px % n, inv n k * ((e + px % n * d) % n) % n)
  | none => (0, 0)

end Sys2Proof.Machine.P256
end

