-- ==== Sys2Proof/Machine/SecOps.lean ====
section
/-!
DEFINITION. Shared operations of the security block (spec/16_security_update.md): the counter, the events of R517, OTP
(R486 to R489), free draws (R492), trays (R495 to R499).
-/
namespace Sys2Proof.Machine

/-! ### Bytes and draws -/

/-- The big-endian number that bytes spell. -/
def beNat (bs : List Byte) : Nat := leNat bs.reverse
/-- `n` big-endian bytes of a number. -/
def beBytes (n v : Nat) : List Byte := (leBytes n v).reverse
/-- Words as bytes, each little-endian. -/
def wordBytes (l : List Word) : List Byte := l.flatMap fun w => leBytes 4 w.toNat
/-- Bytes as little-endian words. -/
def bytesWords (n : Nat) (bs : List Byte) : List Word := (List.range n).map fun i => BitVec.ofNat 32 (getLe bs (4 * i) 4)

/-- A draw from the TRNG (log entry 16). -/
def State.draw (s : State) : State × BitVec 256 := ({ s with freeCount := s.freeCount + 1 }, Config.trng s.freeCount)

/-! ### Events (R517) -/

/-- An event of the block with its log record: SOURCE 5, CODE the type minus 111. -/
def State.secEvent (s : State) (kind : Kind) (subject typ : Nat) (data : List Byte) : State :=
  (s.event kind subject typ data).logRec 5 (typ - 111) data

/-! ### OTP (R486 to R489) -/

/-- First word, count of digest words and first slot word of a region (R486). -/
def regionStart (r : Nat) : Nat := if r = 0 then 0 else if r = 1 then 128 else if r = 2 then 192 else 272
def regionLen (r : Nat) : Nat := if r = 0 then 112 else if r = 1 then 48 else if r = 2 then 64 else 32
def slotWord (r k : Nat) : Nat := regionStart r + regionLen r + 8 * k

/-- The region digest (R486). -/
def State.regionDigest (s : State) (r : Nat) : List Byte :=
  sha256 (wordBytes ((List.range (regionLen r)).map fun i => s.otpWord (regionStart r + i)))
/-- FINAL bit of a slot. -/
def State.finalBit (s : State) (r k : Nat) : Bool := bit (s.otpWord 511) (2 * r + k)
/-- The digest held in a slot. -/
def State.slotDigest (s : State) (r k : Nat) : List Byte :=
  wordBytes ((List.range 8).map fun i => s.otpWord (slotWord r k + i))
/-- The digest that the check at start reads: the lower final slot (R488). -/
def State.finalDigest (s : State) (r : Nat) : Option (List Byte) :=
  if s.finalBit r 0 then some (s.slotDigest r 0) else if s.finalBit r 1 then some (s.slotDigest r 1) else none
/-- A slot that a finalise may use (R488). -/
def State.freeSlot (s : State) (r : Nat) : Option Nat :=
  (List.range 2).find? fun k => !s.finalBit r k && (s.slotDigest r k).all fun b => b == 0

/-- The region of a digest word (R486). -/
def digestRegion (w : Nat) : Option Nat :=
  (List.range 4).find? fun r => regionStart r ≤ w && decide (w < regionStart r + regionLen r)

/-- REFUSED_PERMISSION of a burn (R487). -/
def State.burnDenied (s : State) (w : Nat) (d : Word) : Bool :=
  (!s.flt.factory && (decide (w < 192) || (w == 511 && fld d 0 4 != 0))) ||
    (!s.flt.factory && s.finalised 2 && ((192 ≤ w && decide (w < 272)) || (w == 511 && fld d 4 2 != 0))) ||
    (329 ≤ w && w ≤ 510)

/-! ### The owner's secret (R489, R497, R498) -/

def State.traySecret (s : State) : List Byte := wordBytes ((List.range 8).map fun i => s.otpWord (280 + i))
def State.serialBytes (s : State) : List Byte := wordBytes [s.otpWord 128, s.otpWord 129]
/-- The response that R498 expects of a tag. -/
def State.tagResponse (s : State) (serial challenge : List Byte) : List Byte :=
  let kt := hmacSha256 s.traySecret ([0x51, 0x54, 0x52, 0x59] ++ serial)
  (hmacSha256 kt (challenge ++ s.serialBytes)).take 16

/-! ### Trays (R495 to R499) -/

/-- SEC_TRAY_STAT.LAST of a status of R268. -/
def lastOf (status : Nat) : Nat :=
  if status = 0 then 1 else if status = 112 then 2 else if status = 113 then 3 else if status = 114 then 4 else 5

/-- The end of an exchange (R497, R517). -/
def State.trayResult (s : State) (t : Fin 4) (cmd : Option Nat) (status : Nat) : State :=
  let s := s.modTray t fun x =>
    { x with exch := none, last := lastOf status
             state := if status = 0 then .authenticated else if status = 112 then .absent else .failed }
  let s := if status = 114 then s.raise 38 0xFF (at_ t.val 24 ||| at_ 4 16) false false else s
  let s := (s.secEvent .tray t.val 120 [byte status]).irq 42
  (s.completeOpt cmd status 0 0).pumpCmd

/-- The exchange of R497 up to the challenge: `serial` is what the tag answers to step 3, `ack` whether it acknowledges the
write of step 4. -/
def State.trayExchange (s : State) (t : Fin 4) (cmd : Option Nat) (serial : Option (List Byte)) (ack : Bool) : State :=
  if !s.finalised 3 || s.traySecret.all (fun b => b == 0) then s.trayResult t cmd 115
  else if !s.sec.trays[t].here then s.trayResult t cmd 112
  else
    let s := s.modTray t fun x => { x with state := .authenticating }
    let s := (s.send (.twWrite t.val 0x3A [0x00])).send (.twRead t.val 0x3A 8)
    match serial with
    | none => s.trayResult t cmd 113
    | some id =>
        let (s, c) := s.draw
        let ch := leBytes 16 c.toNat
        let s := s.send (.twWrite t.val 0x3A ([0x10] ++ ch ++ s.serialBytes))
        if ack then s.modTray t fun x => { x with exch := some { serial := padTo 8 id, challenge := ch, cmd := cmd } }
        else s.trayResult t cmd 113

end Sys2Proof.Machine
end

