-- ==== Sys2Proof/Machine/Security.lean ====
section
/-!
DEFINITION. OTP, attestation, the debug port and the trays (R486 to R499, R517 of spec/16_security_update.md).
-/
namespace Sys2Proof.Machine

/-! ### SEC_OTP_CMD (R486 to R488) -/

def State.otpResult (s : State) (r : Nat) : State := s.modSec fun c => { c with otpResult := r }

/-- OP BURN (R487). -/
def State.otpBurn (s : State) (key : Nat) : State :=
  let w := fld s.sec.otpAddr 0 9
  let d := s.sec.otpData
  if key ≠ 0x4F then s.otpResult 7
  else if s.dev.state ≠ .ready then s.otpResult 3
  else if s.burnDenied w d then s.otpResult 2
  else if (match digestRegion w with | some r => s.finalised r | none => false) then s.otpResult 4
  else s.modSec fun c => { c with otpBusy := some (.burn w d) }

/-- OP FINALISE (R488). -/
def State.otpFinalise (s : State) (key r : Nat) : State :=
  if key ≠ 0x4F then s.otpResult 7
  else if s.dev.state ≠ .ready then s.otpResult 3
  else if !s.flt.factory && (decide (r ≤ 1) || (r == 2 && s.finalised 2)) then s.otpResult 2
  else if s.finalised r then s.otpResult 4
  else match s.freeSlot r with
    | some k => s.modSec fun c =>
        { c with otpBusy := some (.finalise r (slotWord r k) (bytesWords 8 (s.regionDigest r))) }
    | none => s.otpResult 6

/-- OP READ (R486): words 110 and 280 to 287 read 0. -/
def State.otpRead (s : State) : State :=
  let w := fld s.sec.otpAddr 0 9
  let v := if w = 110 ∨ (280 ≤ w ∧ w ≤ 287) then 0 else s.otpWord w
  (s.modSec fun c => { c with otpRd := v }).otpResult 1

/-- A write of SEC_OTP_CMD; while an operation runs it is ignored. -/
def State.otpCmd (s : State) (v : Word) : State :=
  if s.sec.otpBusy.isSome then s
  else match fld v 0 3 with
    | 1 => s.otpBurn (fld v 24 8)
    | 2 => s.otpFinalise (fld v 24 8) (fld v 8 2)
    | 3 => s.otpRead
    | _ => s

/-- OTP_BURN (R487). -/
def execOtpBurn (v : Word) (s : State) : Host.Outcome State Fault Refusal := done (s.bar (s.otpCmd v))
/-- OTP_FINALISE (R488). -/
def execOtpFinalise (v : Word) (s : State) : Host.Outcome State Fault Refusal := done (s.bar (s.otpCmd v))
/-- OTP_READ (R486). -/
def execOtpRead (v : Word) (s : State) : Host.Outcome State Fault Refusal := done (s.bar (s.otpCmd v))

/-- Bits of a word that failed to program, in copy A and in copy B. -/
def failsOf (fails : List (Nat × Word × Word)) (w : Nat) : Word × Word :=
  ((fails.find? fun f => f.1 == w).map Prod.snd).getD (0, 0)
/-- A word burnt and both copies read back (R487). -/
def State.burnVerified (s : State) (fails : List (Nat × Word × Word)) (w : Nat) (d : Word) : State × Bool :=
  let (a, b) := failsOf fails w
  let new := d &&& ~~~s.otpWord w
  (s.burnWord w d a b, new &&& (a ||| b) == 0)

/-- The end of a burn: its result, OTP_BURN (R487, R517). -/
def State.otpEnd (s : State) (op w : Nat) (ok : Bool) : State :=
  let r := if ok then 1 else 5
  let s := s.modSec fun c => { c with otpBusy := none, otpResult := r }
  (s.secEvent .device 0 121 ([byte op, byte r] ++ leBytes 2 w)).irq 37

/-- OTP_OPERATION_DONE (R487, R488): a finalise burns the FINAL bit once the slot has verified. -/
def State.otpDone (s : State) (fails : List (Nat × Word × Word)) : State :=
  match s.sec.otpBusy with
  | none => s
  | some (.burn w d) =>
      let (s, ok) := s.burnVerified fails w d
      s.otpEnd 1 w ok
  | some (.finalise r w dig) =>
      let (s, ok) := (List.range 8).foldl (fun (p : State × Bool) i =>
        let (s, ok) := p.1.burnVerified fails (w + i) (dig.getD i 0)
        (s, p.2 && ok)) (s, true)
      let k := if w = slotWord r 0 then 0 else 1
      if ok then
        let (s, ok) := s.burnVerified fails 511 (1#32 <<< (2 * r + k))
        s.otpEnd 2 w ok
      else s.otpEnd 2 w false
def execOtpOperationDone (fails : List (Nat × Word × Word)) (s : State) : Host.Outcome State Fault Refusal :=
  done (s.otpDone fails)

/-! ### SEC_CTRL: attestation and debug (R493, R494) -/

/-- SEC_STAT as it reads. -/
def State.secStat (s : State) : Word :=
  flagAt s.sec.mapRefused 17 ||| flagAt s.sec.attDone 16 ||| flagAt (s.sec.debugOpen || s.flt.factory) 11 |||
    flagAt s.flt.factory 10 ||| flagAt s.debugLock 9 ||| flagAt s.ownerLock 8 |||
    flagAt (s.finalised 3) 3 ||| flagAt (s.finalised 2) 2 ||| flagAt (s.finalised 1) 1 ||| flagAt (s.finalised 0) 0

/-- DBG_OPEN acts with its key in READY or COCOON while DEBUG_LOCK is 0 (R494). -/
def State.dbgOpen (s : State) (v : Word) : State :=
  if bit v 2 && fld v 24 8 == 0xD5 && (s.dev.state == .ready || s.dev.state == .cocoon) && !s.debugLock then
    s.modSec fun c => { c with debugOpen := true }
  else s

/-- A write of SEC_CTRL: UPD_LOCK sticks until reset (R503); ATTEST takes the nonce (R493); DBG_OPEN (R494). -/
def State.secCtrl (s : State) (v : Word) : State :=
  let s := if bit v 0 then s.modSec fun c => { c with updLock := true } else s
  let s := if bit v 1 then
      s.modSec fun c => { c with attDone := false, attRun := some (wordBytes c.nonce.toList) }
    else s
  s.dbgOpen v
/-- A write of SEC_CTRL in a state of the device. DEDUCED (log entry 81): in COCOON, where R447 has every register off the
status page ignore writes, DBG_OPEN acts alone, since R494 names COCOON. -/
def State.secCtrlBar (s : State) (v : Word) : State :=
  if s.dev.state = .cocoon then s.dbgOpen v else s.bar (s.secCtrl v)
/-- ATTEST (R493). -/
def execAttest (v : Word) (s : State) : Host.Outcome State Fault Refusal := done (s.secCtrlBar v)
/-- DBG_OPEN (R494). -/
def execDbgOpen (v : Word) (s : State) : Host.Outcome State Fault Refusal := done (s.secCtrlBar v)

/-- ATTEST_DONE (R493): the signature over the digest of nonce, serial, version, counter and SEC_STAT. -/
def State.attestDone (s : State) : State :=
  match s.sec.attRun with
  | none => s
  | some nonce =>
      let msg := nonce ++ s.serialBytes ++ leBytes 4 s.sec.banks[s.sec.running].version.toNat ++ leBytes 2 s.svn ++
        leBytes 4 s.secStat.toNat
      let (s, k) := s.draw
      let (r, q) := P256.sign s.sec.privKey (1 + k.toNat % (P256.n - 1)) (beNat (sha256 msg))
      let sig := beBytes 32 r ++ beBytes 32 q
      (s.modSec fun c => { c with attRun := none, attDone := true, sig := Vector.ofFn fun i => (bytesWords 16 sig).getD i.val 0 }).send
        (.signature sig)
def execAttestDone (s : State) : Host.Outcome State Fault Refusal := done s.attestDone

/-- DEBUG_ACCESS (R494): the boundary scan answers always, EXTEST in factory test mode only; the cores and memories are open
in factory test mode or after DBG_OPEN, and a refused access to them raises DEBUG_ATTEMPT. -/
def State.debugAccess (s : State) (q : DebugReq) : State :=
  match q with
  | .scan => s.send (.debug true)
  | .extest => s.send (.debug s.flt.factory)
  | .core =>
      if s.flt.factory || s.sec.debugOpen then s.send (.debug true)
      else ((s.send (.debug false)).raiseDev 39 0 |>.secEvent .device 0 122 []).irq 37
def execDebugAccess (q : DebugReq) (s : State) : Host.Outcome State Fault Refusal := done (s.debugAccess q)

/-! ### Trays (R495 to R497) -/

/-- A write of SEC_TRAYt_MAPj (R495). -/
def State.trayMap (s : State) (t : Fin 4) (j : Fin 5) (v : Word) : State :=
  let old := s.sec.trays[t].map[j]
  let twice := (allFin 4).any fun u => u != t && (v &&& s.sec.trays[u].map[j]) != 0
  let moved := (List.range 32).any fun i =>
    bit (v ^^^ old) i && (match finOf 160 (32 * j.val + i) with | some n => s.chans[n].state != .off | none => false)
  if twice || moved then (s.modSec fun c => { c with mapRefused := true }).irq 37
  else s.modTray t fun x => { x with map := x.map.set j v }
/-- TRAY_MAP_WRITE (R495). -/
def execTrayMapWrite (t : Fin 4) (j : Fin 5) (v : Word) (s : State) : Host.Outcome State Fault Refusal := done (s.bar (s.trayMap t j v))

/-- TRAY_REMOVED (R496). -/
def State.trayRemoved (s : State) (t : Fin 4) : State :=
  let x := s.sec.trays[t]
  if !x.here then s
  else
    let mapped := (allFin 160).filter x.maps
    let stops := mapped.filter fun n => match s.chans[n].state with | .off | .tripped | .latched => false | _ => true
    let s := forEach stops s fun s n => s.request n (.stop .off .trayRemoved true) (s.beat.number + 1) none
    let s := forEach mapped s fun s n => s.forget n (s.beat.number + 1)
    let s := s.modTray t fun x => { x with here := false }
    let s := match x.exch with | some e => s.trayResult t e.cmd 112 | none => s
    let s := s.modTray t fun x => { x with state := .absent }
    (s.secEvent .tray t.val 119 [byte stops.length]).irq 41
def execTrayRemoved (t : Fin 4) (s : State) : Host.Outcome State Fault Refusal := done (s.trayRemoved t)

/-- TRAY_INSERTED (R496): with AUTO the exchange of R497 follows; `serial` and `ack` are the tag's answers to it. -/
def State.trayInserted (s : State) (t : Fin 4) (serial : Option (List Byte)) (ack : Bool) : State :=
  if s.sec.trays[t].here then s
  else
    let x := s.sec.trays[t]
    let s := s.modTray t fun x => { x with here := true, state := .present }
    let s := forEach ((allFin 160).filter x.maps) s fun s n =>
      forEach (s.phasesOf n) s fun s p =>
        s.modPhase p fun q => { q with life := { q.life with contacts := q.life.contacts + 1 } }
    let s := (s.secEvent .tray t.val 118 []).irq 41
    if bit s.sec.trayCfg (4 + t.val) then s.trayExchange t none serial ack else s
def execTrayInserted (t : Fin 4) (serial : Option (List Byte)) (ack : Bool) (s : State) : Host.Outcome State Fault Refusal :=
  done (s.trayInserted t serial ack)

/-- TAG_RESPONSE_READ (R497): step 5, retried until 200 ms after step 4 (`late`), and step 6. -/
def State.tagRead (s : State) (t : Fin 4) (resp : Option (List Byte)) (late : Bool) : State :=
  match s.sec.trays[t].exch with
  | none => s
  | some e =>
      if s.wdt.restarting then s else
      let s := (s.send (.twWrite t.val 0x3A [0x20])).send (.twRead t.val 0x3A 16)
      match resp with
      | none => if late then s.trayResult t e.cmd 113 else s
      | some r => s.trayResult t e.cmd (if padTo 16 r == s.tagResponse e.serial e.challenge then 0 else 114)
def execTagResponseRead (t : Fin 4) (resp : Option (List Byte)) (late : Bool) (s : State) : Host.Outcome State Fault Refusal :=
  done (s.tagRead t resp late)

end Sys2Proof.Machine
end

