-- ==== Sys2Proof/Machine/Slices.lean ====
section
/-!
DEFINITION. Measurement slices (spec/04_measurement.md): corrected values (R125, R126), the apertures (R22, R124), the
rotation (R127 to R130), suspicions, substitutions and DIRECT tests (R131 to R134), SERIES tests (R135, R136).
Values in a register unit are rounded half away from zero (R126); the fraction of a corrected value below its 8 bits goes by
Config.roundUp (log entry 3).
-/
namespace Sys2Proof.Machine

/-! ### Corrected values (R125, R126) -/

/-- A slice number of a group: current slices 0 to 16, voltage slices 17 to 33. -/
def sliceIdx (voltage : Bool) (k : Nat) : Fin 34 := if h : k < 17 then ⟨if voltage then 17 + k else k, by split <;> omega⟩ else 0

/-- The raw code as a number (R125). -/
def rawCode (voltage : Bool) (r : BitVec 16) : Int := if voltage then (r.toNat : Int) else r.toInt

/-- L(r) as a fraction over the breakpoint distance (R126). -/
def linAt (voltage : Bool) (lin : List Int) (r : Int) : Int × Int :=
  let w : Int := if voltage then 3750 else 4096
  let b0 : Int := if voltage then 0 else -32768
  let j := min 15 ((r - b0) / w).toNat
  let lo := getI lin j
  (lo * w + (getI lin (j + 1) - lo) * (r - (b0 + w * j)), w)

/-- The corrected value of a raw code by the coefficients G, O and L, in 1/256 µV (R126). -/
def correct (voltage : Bool) (g o : Int) (lin : List Int) (r : Int) : Int :=
  let (l, w) := linAt voltage lin r
  let d := (256 * r - o) * w - l
  if voltage then -128000000 + openDiv (100 * g * d) (1073741824 * w)
  else openDiv (3125 * g * d) (1024 * 1073741824 * w)

/-- The corrected value by a slice's coefficients in force. -/
def Slice.value (x : Slice) (voltage : Bool) (r : Int) : Int := correct voltage x.gain x.ofs x.lin r

/-! ### Group access -/

def Group.slice (g : Group) (voltage : Bool) (k : Nat) : Slice := g.slices[sliceIdx voltage k]
def Group.modSlice (g : Group) (voltage : Bool) (k : Nat) (f : Slice → Slice) : Group :=
  { g with slices := g.slices.set (sliceIdx voltage k) (f (g.slice voltage k)) }
def Group.map (g : Group) (voltage : Bool) : Vector Nat 16 := if voltage then g.mapV else g.mapI
def Group.setMap (g : Group) (voltage : Bool) (p : Fin 16) (k : Nat) : Group :=
  if voltage then { g with mapV := g.mapV.set p k } else { g with mapI := g.mapI.set p k }
def Group.out (g : Group) (voltage : Bool) : Nat := if voltage then g.outV else g.outI
def Group.setOut (g : Group) (voltage : Bool) (k : Nat) : Group := if voltage then { g with outV := k } else { g with outI := k }
def Group.cal (g : Group) (voltage : Bool) : CalRun := if voltage then g.calV else g.calI
def Group.setCal (g : Group) (voltage : Bool) (c : CalRun) : Group := if voltage then { g with calV := c } else { g with calI := c }
def Group.setFail (g : Group) (voltage : Bool) (k : Nat) : Group :=
  if voltage then { g with failV := g.failV ||| (1#17 <<< k) } else { g with failI := g.failI ||| (1#17 <<< k) }
/-- A position of a group as a phase number. -/
def posPhase (g : GroupNo) (p : Fin 16) : PhaseNo := ⟨16 * g.val + p.val, by omega⟩
/-- A position number made an index. -/
def posOf (k : Nat) : Fin 16 := ⟨k % 16, by omega⟩

/-! ### Apertures (R22, R124, R127, R131, R132) -/

/-- The end of the code range (R131). -/
def atRail (voltage : Bool) (r : BitVec 16) : Bool :=
  if voltage then r == 0x0000#16 || r == 0xFFFF#16 else r == 0x8000#16 || r == 0x7FFF#16

/-- A slice takes a sample. -/
def Slice.sample (x : Slice) (voltage : Bool) (r : BitVec 16) : Slice :=
  { x with raw := r, runLen := if r = x.raw then x.runLen + 1 else 1, railLen := if atRail voltage r then x.railLen + 1 else 0 }

/-- What the calibrating slice gathers at an aperture of beat `b` of its slot (R127). -/
def Group.calSample (g : Group) (voltage : Bool) (b : Nat) (slot : Nat) : Group :=
  let c := g.cal voltage
  let k := g.out voltage
  if !c.active || k == 0x1F then g
  else
    let r := rawCode voltage (g.slice voltage k).raw
    if 4 ≤ b ∧ b < 208 ∧ 2 ≤ (b - 4) % 12 then
      let j := (b - 4) / 12
      g.setCal voltage { c with pts := (List.range 17).map fun i => getI c.pts i + if i = j then r else 0 }
    else if 248 ≤ b then
      let srv := (g.map voltage)[posOf slot]
      if srv = 0x1F then g
      else
        let x := g.slice voltage srv
        g.setCal voltage { c with par := c.par ++ [(r, x.value voltage (rawCode voltage x.raw))] }
    else g

/-- The slice that a test drives (R131, R132, R134). -/
def Subst.tested (x : Subst) : Nat := if x.spareRail then x.spare else x.suspect

/-- A DIRECT test takes a sample in the second beat of each of its levels (R135). -/
def Subst.sample (x : Subst) (g : Group) (now : Beat) : Subst :=
  let d := (now - x.testAt).toNat
  if d = 1 ∨ d = 3 ∨ d = 5 then
    let y := g.slice x.voltage x.tested
    let v := y.value x.voltage (rawCode x.voltage y.raw)
    { x with sums := (List.range 3).map fun i => getI x.sums i + if i = d / 2 then v else 0 }
  else x

/-- A group at an aperture. -/
def Group.aperture (g : Group) (raw : Fin 34 → BitVec 16) (now : Beat) : Group :=
  let g := { g with slices := Vector.ofFn fun i => (g.slices[i]).sample (decide (17 ≤ i.val)) (raw i) }
  let b := now.toNat % 256
  let slot := now.toNat / 256
  let g := (g.calSample false b slot).calSample true b slot
  { g with substs := g.substs.map fun x => x.sample g now }

/-- The sample of a served position, none of an unserved one (R128). -/
def Group.posValue (g : Group) (voltage : Bool) (p : Fin 16) : Option Int :=
  let k := (g.map voltage)[p]
  if k = 0x1F then none
  else
    let x := g.slice voltage k
    some (x.value voltage (rawCode voltage x.raw))

/-- A pair takes its first or its second sample. -/
def Pair.take (p : Pair) (second : Bool) (v : Option Int) : Pair :=
  if second then { p with b := v.getD 0, validB := v.isSome } else { p with a := v.getD 0, validA := v.isSome }

/-- An aperture of the sample set of the next beat (R21, R22): all 340 slices sample together. A third aperture in one
beat does not exist and changes nothing. -/
def State.aperture (s : State) (raw : Vector (BitVec 16) 340) : State :=
  if !s.beat.running || 2 ≤ s.beat.formed then s
  else
    let now := s.beat.number
    let groups := Vector.ofFn fun (g : GroupNo) => (s.groups[g]).aperture (fun i => raw[(⟨34 * g.val + i.val, by omega⟩ : Fin 340)]) now
    let s := { s with groups := groups }
    let second := s.beat.formed == 1
    let x := if second then s.beat.forming else { SampleSet.reset with beat := now + 1 }
    let x :=
      { x with cur := Vector.ofFn fun p => (x.cur[p]).take second ((s.groups[groupOf p]).posValue false (posOf p.val))
               volt := Vector.ofFn fun p => (x.volt[p]).take second ((s.groups[groupOf p]).posValue true (posOf p.val)) }
    s.modBeat fun b => { b with forming := x, formed := b.formed + 1 }
/-- SAMPLE_APERTURE (R21). -/
def execSampleAperture (raw : Vector (BitVec 16) 340) (s : State) : Host.Outcome State Fault Refusal := done (s.aperture raw)

/-! ### Coefficients of a calibration (R127, R129, R137) -/

/-- The true REFV at point j, times 256 × 2^30, µV (R137). -/
def refvTrue (g : Group) (j : Nat) : Int := (-128000000 + g.refvOfs + getI g.refvLin j) * 1073741824 + g.refvGain * 96000000 * j
/-- The true reference of a kind at point j, times 256 × 2^60 × 30, µV. -/
def refTrue (g : Group) (voltage : Bool) (j : Nat) : Int :=
  if voltage then refvTrue g j * (1073741824 * 30)
  else (refvTrue g j - 640000000 * 1073741824) * g.refiGain + g.refiOfs * (30 * 1073741824 * 1073741824)

/-- G, O and LIN from the 17 point sums (R129), each rounded once to its register unit (R126); none where points 0 and 16
read alike. -/
def calCoefs (g : Group) (voltage : Bool) (pts : List Int) : Option (Int × Int × List Int) :=
  let d : Int := 256 * 1073741824 * 1073741824 * 30
  let (ln, ld) : Int × Int := if voltage then (100, 1) else (3125, 1024)
  let base : Int := if voltage then -500000 * d else 0
  let v := fun j => refTrue g voltage j
  let r := fun j => getI pts j
  let dr := r 16 - r 0
  let dv := v 16 - v 0
  if dr = 0 ∨ dv = 0 then none
  else
    let gain := divRound (1073741824 * 20 * ld * dv) (d * ln * dr)
    let ofs := divRound (256 * (r 0 * dv - (v 0 - base) * dr)) (20 * dv)
    let lin := (List.range 17).map fun j =>
      if j = 0 ∨ j = 16 then 0 else divRound (256 * ((r j - r 0) * dv - (v j - v 0) * dr)) (20 * dv)
    some (gain, ofs, lin)

/-- The acceptance of R129: `first` at the first calibration after reset, which step 6 of the self-test makes (R434). -/
def calAccepted (x : Slice) (first : Bool) (c : Int × Int × List Int) : Bool :=
  let (g, o, l) := c
  decide (o.natAbs ≤ 16384) && decide (99 * 1073741824 ≤ 100 * g) && decide (100 * g ≤ 101 * 1073741824) &&
    l.all (fun v => decide (v.natAbs ≤ 2048)) &&
    (first || (decide ((g - x.gain).natAbs * 1000000 ≤ 500 * x.gain.natAbs) && decide ((o - x.ofs).natAbs ≤ 4096)))

/-- The coefficients that slice `k` takes from its point sums; none where R129 does not accept them. -/
def Group.newCoefs (g : Group) (voltage : Bool) (k : Nat) (first : Bool) (pts : List Int) : Option (Int × Int × List Int) :=
  (calCoefs g voltage pts).filter (calAccepted (g.slice voltage k) first)

/-- The outcome of a calibration in SL_STAT and, accepted, in the coefficients (R129). -/
def Slice.calibrated (x : Slice) : Option (Int × Int × List Int) → Slice
  | some (g, o, l) => { x with gain := g, ofs := o, lin := l, last := 1, cals := x.cals + 1 }
  | none => { x with last := 2 }

/-! ### Suspicions (R131 to R134) -/

/-- A position is in use (R124). -/
def State.posInUse (s : State) (voltage : Bool) (p : PhaseNo) : Bool := if voltage then s.isRun p else (s.ownerOf p).isSome
/-- The channel that uses a position. -/
def State.posUser (s : State) (voltage : Bool) (p : PhaseNo) : Option ChanNo :=
  if voltage then (if s.isRun p then some p else none) else s.ownerOf p
/-- The channels that use a position carry SLICE_SUBST (R133). -/
def State.substFlag (s : State) (g : GroupNo) (voltage : Bool) (pos : Fin 16) : State :=
  match s.posUser voltage (posPhase g pos) with
  | some n => s.modChan n fun c => { c with sliceSubst := true }
  | none => s

/-- SLICE_FAULT with its detail (R458). -/
def State.sliceFault (s : State) (g : GroupNo) (voltage : Bool) (k pos : Nat) : State :=
  s.raise 16 g.val (at_ k 24 ||| flagAt voltage 16 ||| at_ pos 0) false false
/-- The SLICE event (R287 type 11). -/
def State.sliceEvent (s : State) (g : GroupNo) (voltage : Bool) (k pos code : Nat) : State :=
  s.event .group g.val 11 [if voltage then 1 else 0, byte k, byte pos, byte code]

/-- A slice is marked failed. -/
def State.failSlice (s : State) (g : GroupNo) (voltage : Bool) (k : Nat) : State :=
  s.modGroup g fun x => (x.setFail voltage k).modSlice voltage k fun y => { y with role := .failed, pos := 0x1F }

/-- A slice begins to serve a position. -/
def State.serve (s : State) (g : GroupNo) (voltage : Bool) (k : Nat) (pos : Fin 16) : State :=
  s.modGroup g fun x => (x.setMap voltage pos k).modSlice voltage k fun y =>
    { y with role := .serving, pos := pos.val, runLen := 0, railLen := 0 }

/-- A substitution has taken place (R133): counted, the channels flagged. -/
def State.countSubst (s : State) (g : GroupNo) (voltage : Bool) (pos : Fin 16) : State :=
  (s.modGroup g fun x => { x with substCount := if x.substCount = 0xFFFF#16 then x.substCount else x.substCount + 1 }).substFlag
    g voltage pos

/-- A substitution of a kind runs (R130). -/
def Group.substituting (g : Group) (voltage : Bool) : Bool := g.substs.any fun x => x.voltage == voltage && x.replaces
/-- The spare of a kind is free (R132). -/
def Group.spareFree (g : Group) (voltage : Bool) : Bool := g.out voltage != 0x1F && !g.substituting voltage
/-- A spare of a kind has become free (R134). -/
def Group.freed (g : Group) (voltage : Bool) : Bool := if voltage then g.freedV else g.freedI
def Group.setFreed (g : Group) (voltage b : Bool) : Group := if voltage then { g with freedV := b } else { g with freedI := b }
/-- A DIRECT test ends a SERIES test that runs (R136). -/
def Group.abortSeries (g : Group) : Group := { g with diagRun := false, diagRes := if g.diagRun then 8 else g.diagRes }

/-- The free spare takes over an unserved position (R134). -/
def State.spareTakes (s : State) (g : GroupNo) (voltage : Bool) (pos : Fin 16) : State :=
  let k := (s.groups[g]).out voltage
  let s := s.serve g voltage k pos
  let s := s.modGroup g fun x => (x.setOut voltage 0x1F).setCal voltage CalRun.reset
  (s.countSubst g voltage pos).irq 48

/-- A test of a suspect without a substitution (R134): its slice leaves the position while it is driven. -/
def State.testAlone (s : State) (g : GroupNo) (voltage : Bool) (k : Nat) (pos : Fin 16) (t : Trigger) (now : Beat) : State :=
  s.modGroup g fun x =>
    { x.setMap voltage pos 0x1F with substs := x.substs ++
        [{ voltage := voltage, suspect := k, spare := 0x1F, pos := pos.val, start := now, testAt := now, trigger := t
           tookOver := false, spareRail := false, calTest := false, sums := [] }] }

/-- The channel that uses a position trips under R134. -/
def State.tripPos (s : State) (g : GroupNo) (voltage : Bool) (pos : Fin 16) : State :=
  match s.posUser voltage (posPhase g pos) with
  | some n => s.trip n (.unserved (posPhase g pos) voltage)
  | none => s

/-- A slice becomes a suspect at the boundary that opens `now` (R131, R132, R134). -/
def State.suspect (s : State) (g : GroupNo) (voltage : Bool) (pos : Fin 16) (t : Trigger) (now : Beat) : State :=
  let x := s.groups[g]
  let k := (x.map voltage)[pos]
  if k = 0x1F ∨ (x.substs.any fun y => y.voltage == voltage && y.pos == pos.val && !y.calTest) = true then s
  else
    let s := s.modGroup g fun x =>
      x.abortSeries.modSlice voltage k (fun y => { y with runLen := 0, railLen := 0 })
    if !s.posInUse voltage (posPhase g pos) then s.testAlone g voltage k pos t now
    else if x.spareFree voltage then
      s.modGroup g fun x =>
        { x.setCal voltage CalRun.reset with substs := x.substs ++
            [{ voltage := voltage, suspect := k, spare := x.out voltage, pos := pos.val, start := now, testAt := now + 6
               trigger := t, tookOver := false, spareRail := false, calTest := false, sums := [] }] }
    else
      let s := s.sliceFault g voltage k pos.val
      (s.tripPos g voltage pos).testAlone g voltage k pos t now

/-- The suspicions that the raw codes raise at a boundary (R131). -/
def State.suspicions (s : State) (now : Beat) : State :=
  forEach (allFin 10) s fun s g => forEach [false, true] s fun s voltage => forEach (allFin 16) s fun s pos =>
    let k := ((s.groups[g]).map voltage)[pos]
    if k = 0x1F then s
    else
      let x := (s.groups[g]).slice voltage k
      if 8 ≤ x.railLen then s.suspect g voltage pos .rail now
      else if 64 ≤ x.runLen ∧ s.posInUse voltage (posPhase g pos) = true then s.suspect g voltage pos .stuck now
      else s

/-- The takeover at beat S + 6 (R132). -/
def State.takeover (s : State) (g : GroupNo) (voltage : Bool) : State :=
  let now := s.beat.number
  let x := s.groups[g]
  match x.substs.find? fun y => y.voltage == voltage && y.spare != 0x1F && !y.tookOver && !y.spareRail && !y.calTest &&
      decide (y.start + 6 ≤ now) with
  | none => s
  | some y =>
      if 8 ≤ (x.slice voltage y.spare).railLen then
        s.modGroup g fun x => { x with substs := x.substs.map fun z => if z = y then { y with spareRail := true } else z }
      else
        let s := s.serve g voltage y.spare (posOf y.pos)
        let s := s.modGroup g fun x =>
          { (x.setOut voltage y.suspect).modSlice voltage y.suspect (fun z => { z with role := .spare, pos := 0x1F }) with
              substs := x.substs.map fun z => if z = y then { y with tookOver := true } else z }
        s.countSubst g voltage (posOf y.pos)
/-- SUBSTITUTION_TAKEOVER (R132). -/
def execSubstitutionTakeover (g : GroupNo) (voltage : Bool) (s : State) : Host.Outcome State Fault Refusal :=
  done (s.takeover g voltage)

/-- A DIRECT test passes (R135): the mean of the two samples of every level, of which `sums` holds the sums in 1/256 µV,
lies within 0.05 % of the level + 1 mV, or 0.1 % of it + 20 µV. -/
def directOk (voltage : Bool) (sums : List Int) : Bool :=
  let levels : List Int := if voltage then [500000, 2500000, 4500000] else [-80000, 0, 80000]
  (List.range 3).all fun i =>
    let lv := getI levels i
    let off := (getI sums i - 512 * lv).natAbs
    if voltage then decide (off * 2000 ≤ 512 * (lv.natAbs + 2000000)) else decide (off * 1000 ≤ 512 * (lv.natAbs + 20000))

/-- The verdict on a test (R131 to R134). Where the spare itself was at a rail the verdict of S + 12 is on the spare
(log entry 69). -/
def State.verdict (s : State) (g : GroupNo) (voltage : Bool) : State :=
  let now := s.beat.number
  let x := s.groups[g]
  match x.substs.find? fun y => y.voltage == voltage && decide (y.testAt + 6 ≤ now) &&
      (y.tookOver || y.spareRail || y.calTest || y.spare == 0x1F) with
  | none => s
  | some y =>
      let pos := posOf y.pos
      let pass := directOk voltage y.sums
      let s := s.modGroup g fun x =>
        { (if y.replaces then x.setFreed voltage true else x) with substs := x.substs.filter fun z => z != y }
      if y.calTest then
        if pass then s.suspect g voltage pos .plaus now
        else
          let s := s.failSlice g voltage y.suspect
          let s := s.modGroup g fun x => x.setOut voltage 0x1F
          (s.sliceFault g voltage y.suspect y.pos).sliceEvent g voltage y.suspect y.pos 3
      else if y.spareRail then
        let s := if pass then s.sliceEvent g voltage y.spare y.pos 1
          else
            let s := s.failSlice g voltage y.spare
            let s := s.modGroup g fun x => x.setOut voltage 0x1F
            (s.sliceFault g voltage y.spare y.pos).sliceEvent g voltage y.spare y.pos 0
        let s := s.irq 48
        let s := s.sliceFault g voltage y.suspect y.pos
        (s.tripPos g voltage pos).testAlone g voltage y.suspect pos y.trigger now
      else
        let s :=
          if pass then
            let s := if y.tookOver then s else s.serve g voltage y.suspect pos
            let s := s.sliceEvent g voltage y.suspect y.pos 1
            if y.trigger = .rail then s.sliceEvent g voltage y.suspect y.pos 2 else s
          else
            let s := s.failSlice g voltage y.suspect
            let s := if y.tookOver then s.modGroup g fun x => x.setOut voltage 0x1F else s
            let s := (s.sliceFault g voltage y.suspect y.pos).sliceEvent g voltage y.suspect y.pos 0
            if y.tookOver then s else s.sliceEvent g voltage y.suspect y.pos 4
        if y.tookOver then s.irq 48 else s
/-- SUBSTITUTION_VERDICT (R132, R133). -/
def execSubstitutionVerdict (g : GroupNo) (voltage : Bool) (s : State) : Host.Outcome State Fault Refusal :=
  done (s.verdict g voltage)

/-! ### Unserved positions at a boundary (R134) -/

/-- The unserved positions that a channel uses. -/
def State.unserved (s : State) (n : ChanNo) : List (PhaseNo × Bool) :=
  let cur := (s.phasesOf n).filterMap fun p =>
    if (s.groups[groupOf p]).mapI[posOf p.val] = 0x1F then some (p, false) else none
  if (s.groups[groupOf n]).mapV[posOf n.val] = 0x1F then cur ++ [(n, true)] else cur

/-- A channel that uses an unserved position: the spare takes over where a commit has just put the position in use, else
the channel enters TRIPPED. -/
def State.unservedTrip (s : State) (n : ChanNo) (opens : Beat) : State :=
  let new := decide (s.chans[n].commitResult = 1) && s.chans[n].commitBeat == opens
  forEach (s.unserved n) s fun s (p, v) =>
    let testing := (s.groups[groupOf p]).substs.any fun y => y.voltage == v && y.pos == p.val % 16
    if new && !testing && (s.groups[groupOf p]).spareFree v then s.spareTakes (groupOf p) v (posOf p.val)
    else if s.chans[n].state == .off then s
    else s.trip n (.unserved p v)

/-! ### The rotation at a slot boundary (R127 to R130, R134) -/

/-- The calibrating slice of a kind takes its coefficients before its first parallel sample, or fails (R127, R129). -/
def State.calApply (s : State) (g : GroupNo) (voltage : Bool) (first : Beat) : State :=
  let x := s.groups[g]
  let c := x.cal voltage
  let k := x.out voltage
  if !c.active || k == 0x1F || x.slotAt != some first then s
  else
    let new := x.newCoefs voltage k false c.pts
    let s := s.modGroup g fun x => x.modSlice voltage k fun y => y.calibrated new
    if new.isSome then s
    else
      let pos := first.toNat / 256 % 16
      let s := s.failSlice g voltage k
      let s := s.modGroup g fun x => (x.setOut voltage 0x1F).setCal voltage CalRun.reset
      (s.sliceFault g voltage k pos).sliceEvent g voltage k pos 3
/-- Every group at the boundary that opens beat 248 of a slot (R127). -/
def State.calApplyAll (s : State) (opens : Beat) : State :=
  if opens.toNat % 256 = 248 then
    forEach (allFin 10) s fun s g => forEach [false, true] s fun s v => s.calApply g v (opens - 248)
  else s

/-- The end of a slot of one kind: the parallel run judged, the handover (R127, R129). -/
def State.slotEnd (s : State) (g : GroupNo) (voltage : Bool) (first now : Beat) : State :=
  let x := s.groups[g]
  let c := x.cal voltage
  let k := x.out voltage
  let pos := posOf (first.toNat / 256)
  let srv := (x.map voltage)[pos]
  if !c.active || k == 0x1F || srv == 0x1F then s
  else
    let diff := sumL (c.par.map fun (r, v) => (x.slice voltage k).value voltage r - v)
    let tol : Int := if voltage then (fld x.plaus 16 16 : Nat) * 2560 else (fld x.plaus 0 16 : Nat) * 256
    if tol * c.par.length < diff.natAbs then
      s.modGroup g fun x => { x.abortSeries with substs := x.substs ++
        [{ voltage := voltage, suspect := k, spare := k, pos := pos.val, start := now, testAt := now + 6
           trigger := .plaus, tookOver := false, spareRail := false, calTest := true, sums := [] }] }
    else
      let s := s.serve g voltage k pos
      s.modGroup g fun x => (x.setOut voltage srv).modSlice voltage srv fun y => { y with role := .spare, pos := 0x1F }

/-- Completed slots since the last accepted transfer; a full rotation of 17 makes the kind TRANSFERRED, or TRANSFER_AGED
where the transfer is old by then (R147). -/
def Group.rotated (g : Group) (voltage ran old : Bool) : Group :=
  let n := min 17 ((if voltage then g.rotV else g.rotI) + 1)
  if !ran then g
  else if voltage then
    { g with rotV := n, stateV := if n = 17 ∧ g.rotV < 17 ∧ g.xferV.isSome = true then (if old then 2 else 1) else g.stateV }
  else
    { g with rotI := n, stateI := if n = 17 ∧ g.rotI < 17 ∧ g.xferI.isSome = true then (if old then 2 else 1) else g.stateI }

/-- The ROT enable bit of a kind. -/
def Group.rotEn (g : Group) (voltage : Bool) : Bool := bit g.mctrl (if voltage then 1 else 0)

/-- The rotation of a kind pauses or runs in the slot that begins (R130); `asleep`: the device is in DEVICE_CHRYSALIS (R556). -/
def Group.slotBegin (g : Group) (voltage asleep : Bool) : Group :=
  let lack := g.out voltage == 0x1F || !g.rotEn voltage
  let pause := lack || asleep || g.xfer || g.substituting voltage
  let g := g.setCal voltage { active := !pause, pts := List.replicate 17 0, par := [] }
  if voltage then { g with pausedV := pause, frozenV := if lack then g.frozenV + 1 else 0 }
  else { g with pausedI := pause, frozenI := if lack then g.frozenI + 1 else 0 }

/-- The spare that has become free takes over the lowest unserved position of its kind that no test holds (R134). -/
def State.slotTake (s : State) (g : GroupNo) (voltage : Bool) : State :=
  let x := s.groups[g]
  let pos := (allFin 16).find? fun p => (x.map voltage)[p] == 0x1F &&
    !(x.substs.any fun y => y.voltage == voltage && y.pos == p.val)
  let s := s.modGroup g fun x => x.setFreed voltage false
  match x.freed voltage && x.spareFree voltage, pos with
  | true, some p => s.spareTakes g voltage p
  | _, _ => s

/-- A slot boundary of a group (R127, R130, R134, R146): the slot that ran ends, the next begins. -/
def State.calSlot (s : State) (g : GroupNo) : State :=
  let now := s.beat.number
  if !s.beat.running || now.toNat % 256 != 0 || (s.groups[g]).slotAt == some now then s
  else
    let kind := fun (s : State) (voltage : Bool) =>
      let ran := ((s.groups[g]).cal voltage).active && (s.groups[g]).slotAt == some (now - 256)
      let s := if ran then s.slotEnd g voltage (now - 256) now else s
      let old := s.transferOld g voltage
      s.modGroup g fun x => x.rotated voltage ran old
    let s := kind (kind s false) true
    let s := s.modGroup g Group.applyRef
    let s := (s.slotTake g false).slotTake g true
    let asleep := s.dev.state == .chrysalis
    s.modGroup g fun x => { (x.slotBegin false asleep).slotBegin true asleep with slotAt := some now }
/-- CALIBRATION_SLOT (R127). -/
def execCalibrationSlot (g : GroupNo) (s : State) : Host.Outcome State Fault Refusal := done (s.calSlot g)

/-! ### SERIES tests (R135, R136) -/

/-- A DIRECT test holds the test DAC of the group. -/
def State.dacBusy (s : State) (g : GroupNo) : Bool :=
  (s.groups[g]).substs.any fun y => decide (y.testAt ≤ s.beat.number)

/-- A write of GRP_DIAG_CTRL (R136); GO while a test runs changes nothing. -/
def State.seriesStart (s : State) (g : GroupNo) (v : Word) : State :=
  if (s.groups[g]).diagRun then s
  else
    let s := s.modGroup g fun x => { x with diagCtrl := v &&& 0x10F#32 }
    if !bit v 31 then s
    else
      let p := posPhase g (posOf (fld v 0 4))
      let busy : Bool := match s.ownerOf p with | some n => s.chans[n].state != .off | none => false
      if busy then s.modGroup g fun x => { x with diagRes := 6, diagRho := 0 }
      else if s.dacBusy g then s.modGroup g fun x => { x with diagRes := 7, diagRho := 0 }
      else s.modGroup g fun x => { x with diagRes := 1, diagRho := 0, diagRun := true }
/-- SERIES_TEST_START (R136). -/
def execSeriesTestStart (g : GroupNo) (v : Word) (s : State) : Host.Outcome State Fault Refusal := done (s.bar (s.seriesStart g v))

/-- A SERIES test ends (R135, R136): the present reading and the change of reading between the two steps, µV. -/
def State.seriesDone (s : State) (g : GroupNo) (reading change : Int) : State :=
  let x := s.groups[g]
  if !x.diagRun then s
  else
    let voltage := bit x.diagCtrl 8
    let d : Int := if voltage then 200000 else 10000
    let rho := (max 0 (min 0xFFFF (divRound (change * 65536) d))).toNat
    let connected := decide (change * 1000 < d)
    let res := if connected then (if voltage ∧ reading.natAbs < 2000 then 5 else 2)
               else if change * 2 ≤ d then 3 else 4
    s.modGroup g fun x => { x with diagRun := false, diagRho := rho, diagRes := res }
/-- SERIES_TEST_DONE (R136). -/
def execSeriesTestDone (g : GroupNo) (reading change : Int) (s : State) : Host.Outcome State Fault Refusal :=
  done (s.seriesDone g reading change)

end Sys2Proof.Machine
end

