-- ==== Sys2Proof/Machine/FaultCmds.lean ====
section
/-!
DEFINITION. The commands of the fault collector, the alive output and the safety monitor (R450 to R467 of
spec/15_faults_interrupts_watchdog.md).
-/
namespace Sys2Proof.Machine

/-! ### Monitors -/

/-- The recommended range of a monitored rail, mV (R547); VDD_IO has that of the level selected (R549), source 5 watches VDD_PHY
and VDDH_PHY. -/
def railInside (k : Fin 6) (ioHigh : Bool) (mv : Nat) : Bool :=
  let within := fun lo hi => decide (lo ≤ mv ∧ mv ≤ hi)
  match k.val with
  | 0 => within 776 824
  | 2 => within 6650 7350
  | 4 => if ioHigh then within 3135 3465 else within 1710 1890
  | 5 => within 776 824 || within 1710 1890
  | _ => within 3135 3465

/-- SUPPLY_MONITOR_TRIP (R457 sources 0 to 5, R475 source 40): a rail outside its range, with its reading in mV; a rail inside
its recommended range never trips (R548). -/
def State.supplyTrip (s : State) (k : Fin 6) (mv : Nat) : State :=
  if railInside k s.dev.ioHigh mv then s
  else (s.irq 40).raise ⟨k.val, by omega⟩ 0xFF (at_ (mv % 65536) 0) true false
def execSupplyMonitorTrip (k : Fin 6) (mv : Nat) (s : State) : Host.Outcome State Fault Refusal := done (s.supplyTrip k mv)

/-- SUPPLY_MONITOR_RECOVERY (R457): the rail is back inside its range. -/
def execSupplyMonitorRecovery (k : Fin 6) (s : State) : Host.Outcome State Fault Refusal :=
  done (s.unraise ⟨k.val, by omega⟩)

/-- CLOCK_MONITOR_TRIP (R457 sources 6 and 7, R464): a PLL that loses lock, or the loss of REFIN or of the crystal, which counts
where it is the source chosen (R550). -/
def execClockMonitorTrip (pll refin : Bool) (s : State) : Host.Outcome State Fault Refusal :=
  done (if pll then s.raiseDev 7 0 else if refin == s.dev.refin then (s.wbStop 6).raiseDev 6 0 else s)

/-- DIE_OVERTEMP (R457 source 8): above 132 °C raised, below 127 °C inactive; `t` in 0.01 °C. -/
def State.dieTemp (s : State) (t : Int) : State :=
  if 13200 < t then s.raise 8 0xFF (wordOf t &&& 0xFFFF) true false
  else if t < 12700 then s.unraise 8 else s
def execDieOvertemp (t : Int) (s : State) : Host.Outcome State Fault Refusal := done (s.dieTemp t)

/-- DIE_THERMAL (R475 source 39). -/
def execDieThermal (s : State) : Host.Outcome State Fault Refusal := done (s.irq 39)

/-! ### Registers of the collector -/

/-- A write of FLT_HITj: W1C. -/
def State.hitClear (s : State) (j : Fin 4) (v : Word) : State :=
  s.modFlt fun f => { f with hit := f.hit &&& ~~~(v.setWidth 128 <<< (32 * j.val)) }
/-- FLT_HIT_CLEAR (R453). -/
def execFltHitClear (j : Fin 4) (v : Word) (s : State) : Host.Outcome State Fault Refusal := done (s.bar (s.hitClear j v))

/-- A write of FLT_FIRST: writing 1 to VALID clears the record and OVF. -/
def State.firstClear (s : State) (v : Word) : State :=
  if bit v 31 then s.modFlt fun f => { f with first := none, ovf := false } else s
/-- FLT_FIRST_CLEAR (R459). -/
def execFltFirstClear (v : Word) (s : State) : Host.Outcome State Fault Refusal := done (s.bar (s.firstClear v))

/-- FLT_SOFT (R462): bit k raises FSOFT k. -/
def State.fltSoft (s : State) (v : Word) : State :=
  forEach (allFin 8) s fun s k => if bit v k.val then s.raiseDev ⟨120 + k.val, by omega⟩ 0 else s
def execFltSoft (v : Word) (s : State) : Host.Outcome State Fault Refusal := done (s.bar (s.fltSoft v))

/-- FLT_INJECT (R463): in factory test mode GO raises the source, ACTIVE for one cycle; elsewhere it is refused. -/
def State.fltInject (s : State) (v : Word) : State :=
  if !s.flt.factory then s.modFlt fun f => { f with injRefused := true }
  else if bit v 31 then s.raise ⟨fld v 0 7, Nat.mod_lt _ (by decide)⟩ 0xFF 0 false true
  else s
def execFltInject (v : Word) (s : State) : Host.Outcome State Fault Refusal := done (s.bar (s.fltInject v))

/-- A write of FLT_TESTKEY: with TEST_EN high at reset, the key of TRIM word 110 enters factory test mode. -/
def State.testKey (s : State) (v : Word) : State :=
  if s.flt.testEn && v == s.otpWord 110 then s.modFlt fun f => { f with factory := true } else s
/-- FLT_TESTKEY (R463). -/
def execFltTestkey (v : Word) (s : State) : Host.Outcome State Fault Refusal := done (s.bar (s.testKey v))

/-- The safety monitor records the word that a protected register holds after a write (R461). -/
def State.monitor (s : State) (off : Nat) (w : Word) : State :=
  s.modFlt fun f => { f with monRec := (f.monRec.filter fun r => r.1 != off) ++ [(off, w)] }

/-- FLT_SEVj as a register word. -/
def Faults.sevWord (f : Faults) (j : Fin 16) : Word :=
  (List.range 8).foldl (fun w i => w ||| at_ (f.sev.toList.getD (8 * j.val + i) 0).toNat (4 * i)) 0

/-- The severities after a write of FLT_SEVj: below the floor the floor is stored (R456). -/
def Faults.sevWrite (f : Faults) (j : Fin 16) (v : Word) : Faults :=
  { f with sev := Vector.ofFn fun k =>
      if k.val / 8 = j.val then BitVec.ofNat 3 (max (srcFloor k.val) (fld v (4 * (k.val % 8)) 3)) else f.sev[k] }

/-- FLT_SEV_WRITE (R456). -/
def State.fltSevWrite (s : State) (j : Fin 16) (v : Word) : State :=
  if s.flt.lock then s
  else
    let s := s.modFlt fun f => f.sevWrite j v
    s.monitor (0x5040 + 4 * j.val) (s.flt.sevWord j)
def execFltSevWrite (j : Fin 16) (v : Word) (s : State) : Host.Outcome State Fault Refusal := done (s.bar (s.fltSevWrite j v))

/-! ### Alive output (R464 to R467) -/

/-- The conditions under which a stopped output is let go again (R465). -/
def State.wbAllowed (s : State) : Bool :=
  (s.dev.state == .ready || s.dev.state == .active || s.dev.state == .chrysalis) &&
    (allFin 128).all fun k => decide (s.flt.sevOf k < s.flt.wbLevel) || s.flt.cleared k

/-- The output runs again, with its event (R485). -/
def State.wbRun (s : State) : State :=
  if s.flt.running then s
  else (s.modFlt fun f => { f with running := true, level := true }).devEvent 128 [1, 0xFF]

/-- A write of FLT_WB_CTRL: RESTART (R465), HOLD (R466). -/
def State.wbCtrl (s : State) (v : Word) : State :=
  let s :=
    if bit v 1 then
      s.modFlt fun f => { f with hold := true, running := f.running && !f.mode, level := f.level && !f.mode }
    else if !s.flt.hold then s
    else if !s.flt.mode then s.modFlt fun f => { f with hold := false }
    else if s.wbAllowed then
      let s := s.modFlt fun f => { f with hold := false }
      if s.flt.pulse then s else s.wbRun
    else s.modFlt fun f => { f with wbRefused := true }
  if !bit v 0 then s
  else if !s.wbAllowed then s.modFlt fun f => { f with wbRefused := true }
  else if s.flt.mode then s else s.wbRun

/-- WB_RESTART (R465). -/
def execWbRestart (v : Word) (s : State) : Host.Outcome State Fault Refusal := done (s.bar (s.wbCtrl v))
/-- WB_HOLD (R466). -/
def execWbHold (v : Word) (s : State) : Host.Outcome State Fault Refusal := done (s.bar (s.wbCtrl v))

/-- WINGBEAT_TOGGLE (R464). -/
def execWingbeatToggle (s : State) : Host.Outcome State Fault Refusal :=
  done (if !s.flt.mode && s.flt.running then s.modFlt fun f => { f with level := !f.level } else s)

/-- FAULT_N_PULSE_END (R466): the ball is released unless it is held or forced low. -/
def State.pulseEnd (s : State) : State :=
  if !s.flt.pulse then s
  else
    let s := s.modFlt fun f => { f with pulse := false }
    match s.dev.state with
    | .powerup | .selftest | .otpHold | .cocoon => s
    | _ => if s.flt.mode && !s.flt.hold then s.modFlt fun f => { f with running := true, level := true } else s
def execFaultNPulseEnd (s : State) : Host.Outcome State Fault Refusal := done s.pulseEnd

/-! ### Safety monitor (R461) -/

/-- The fields of IC_SRCk that a write stores. -/
def IrqSrc.cfgWord (x : IrqSrc) : Word :=
  at_ x.sense.toNat 8 ||| at_ (x.heldTarget.getD x.target).toNat 4 ||| at_ x.prio.toNat 0

/-- FLT_WB_CFG as a register word. -/
def Faults.wbCfgWord (f : Faults) : Word := at_ f.wbSev.toNat 4 ||| flagAt f.autoHold 1 ||| flagAt f.modeReg 0

/-- The word a protected register holds (R461). -/
def State.protected (s : State) (off : Nat) : Word :=
  if off = 0x5018 then s.flt.wbCfgWord
  else if 0x5040 ≤ off ∧ off < 0x5080 then
    (match finOf 16 ((off - 0x5040) / 4) with | some j => s.flt.sevWord j | none => 0)
  else if 0x4000 ≤ off ∧ off < 0x4100 then
    (match finOf 64 ((off - 0x4000) / 4) with | some k => (s.ic.src[k]).cfgWord | none => 0)
  else if 0x30000 ≤ off ∧ off < 0x3A000 then
    (match finOf 10 ((off - 0x30000) / 0x1000), finOf 16 ((off % 0x1000 - 0xA00) / 16) with
     | some g, some i =>
         (match off % 16 with
          | 0 => s.groups[g].iwin[i]
          | 4 => s.groups[g].vtrip[i]
          | 8 => s.groups[g].vwarn[i]
          | _ => s.groups[g].wcfg[i])
     | _, _ => 0)
  else 0

/-- CONFIG_CHECK (R461): a stored word that differs from the record raises SAFETY_COMPARE; T1 source 67 (R476). -/
def State.configCheck (s : State) : State :=
  let s := s.irqPriv 1 3
  if s.flt.monRec.all fun (off, w) => s.protected off == w then s else s.raiseDev 37 0
def execConfigCheck (s : State) : Host.Outcome State Fault Refusal := done s.configCheck

/-- HEARTBEAT (R461): three missed in a row raise SAFETY_ALIVE; a supervisor restart excuses up to 50 ms. -/
def State.heartbeat (s : State) (ok : Bool) : State :=
  if 0 < s.flt.excuse then
    s.modFlt fun f => { f with excuse := f.excuse - 1000, missed := 0 }
  else if ok then s.modFlt fun f => { f with missed := 0 }
  else if s.flt.missed + 1 < 3 then s.modFlt fun f => { f with missed := f.missed + 1 }
  else (s.modFlt fun f => { f with missed := 0 }).raiseDev 36 0
def execHeartbeat (ok : Bool) (s : State) : Host.Outcome State Fault Refusal := done (s.heartbeat ok)

end Sys2Proof.Machine
end

