-- ==== Sys2Proof/Machine/IrqCmds.lean ====
section
/-!
DEFINITION. The commands of the interrupt controller (R468 to R476 of spec/15_faults_interrupts_watchdog.md).
-/
namespace Sys2Proof.Machine

/-- One source of T2, by its number, changed. -/
def Irq.modT2 (c : Irq) (k : Nat) (f : IrqSrc → IrqSrc) : Irq :=
  if h : k < 64 then { c with src := c.src.set k (f c.src[k]) }
  else if h : k - 64 < 16 then { c with bank := c.bank.set 2 ((c.bank[2]).set (k - 64) (f (c.bank[2])[k - 64])) }
  else c

/-- A claim of T2 (R471): the claimed source becomes ACTIVE and its PENDING clears; the word that the read returns. -/
def State.claimT2 (s : State) : State × Word :=
  match s.ic.best 2 with
  | some (k, p) => (s.modIc fun c => c.modT2 k fun x => { x with active := true, pending := false }, at_ p 8 ||| at_ k 0)
  | none => (s, 0x7F)

/-- IC_T2_CLAIM (R471). -/
def execIcT2Claim (s : State) : Host.Outcome State Fault Refusal :=
  if s.reads then done ((s.claimT2).1.send (.readReply (s.claimT2).2)) else done (s.send (.readReply 0))

/-- The source numbered k is ACTIVE for T2 (R472). -/
def Irq.activeT2 (c : Irq) (k : Nat) : Bool := (c.sources 2).any fun (i, x) => i == k && x.active

/-- The end of a source's service: a TARGET held since applies now (R472, R474). -/
def IrqSrc.complete (x : IrqSrc) : IrqSrc :=
  { x with active := false, target := x.heldTarget.getD x.target, heldTarget := none }

/-- A write to IC_T2_COMPLETE (R472, R473): settled, and vector 0 again while something is left deliverable. -/
def State.completeT2 (s : State) (v : Word) : State :=
  let k := fld v 0 7
  if s.ic.activeT2 k then
    let was := s.ic.delivered
    let s := settle (s.modIc fun c => c.modT2 k IrqSrc.complete)
    if s.ic.delivered && was then s.vector 0 else s
  else s.modIc fun c => { c with badComplete := true }

/-- IC_T2_COMPLETE (R472). -/
def execIcT2Complete (v : Word) (s : State) : Host.Outcome State Fault Refusal := done (s.bar (s.completeT2 v))

/-- A write of IC_SRCk from BAR0 (R474): refused where it would route to or from T1, or to target 3. -/
def State.icSrcWrite (s : State) (k : Fin 64) (v : Word) : State :=
  let x := s.ic.src[k]
  let t := BitVec.ofNat 2 (fld v 4 2)
  if x.target = 1 ∨ t = 1 ∨ t = 3 then s.modIc fun c => { c with routeRefused := true }
  else
    let x := { x with sense := BitVec.ofNat 2 (fld v 8 2), prio := BitVec.ofNat 4 (fld v 0 4)
                      target := if x.active then x.target else t
                      heldTarget := if x.active then some t else none }
    let s := s.modIc fun c => { c with src := c.src.set k x }
    s.monitor (0x4000 + 4 * k.val) x.cfgWord

/-- IC_SRC_WRITE (R474). -/
def execIcSrcWrite (k : Fin 64) (v : Word) (s : State) : Host.Outcome State Fault Refusal := done (s.bar (s.icSrcWrite k v))

end Sys2Proof.Machine
end

