-- ==== Sys2Proof/Machine/TwCore.lean ====
section
/-!
DEFINITION. The two-wire buses as controller (spec/17_two_wire_buses.md): registers (R521 to R524), host transfers (R529,
R530), sensor maps and polls (R525 to R528). What happens at a target port is in TwoWire.
-/
namespace Sys2Proof.Machine

def State.modBus (s : State) (b : Fin 6) (f : Bus → Bus) : State := s.modTw fun t => { t with bus := t.bus.set b (f t.bus[b]) }
/-- Sets W1C bits of TW_STATb. -/
def State.twFlag (s : State) (b : Fin 6) (w : Word) : State := s.modBus b fun x => { x with stat := x.stat ||| w }
/-- The event TW_BUS (R539). -/
def State.twBus (s : State) (b : Fin 6) (code : Nat) : State := s.devEvent 96 [byte b.val, byte code]

/-! ### Host transfers (R529, R530) -/

/-- The bytes of the buffer. -/
def Bus.bytes (x : Bus) : List Byte := x.xbuf.toList.flatMap fun w => leBytes 4 w.toNat
/-- The buffer with `rd` from byte 0 on. -/
def Bus.store (x : Bus) (rd : List Byte) : Bus :=
  let l := rd ++ x.bytes.drop rd.length
  { x with xbuf := Vector.ofFn fun k => BitVec.ofNat 32 (getLe l (4 * k.val) 4) }
/-- A host transfer runs or waits. -/
def Bus.hostBusy (x : Bus) : Bool := x.hostWait || x.job == .host
/-- The parts of a TW_XCTL word: address, bytes to write, bytes to read. -/
def xAddr (w : Word) : Nat := fld w 0 7
def xWlen (w : Word) : Nat := fld w 16 6
def xRlen (w : Word) : Nat := fld w 24 6

/-- A host transfer ends with a result and the index of a byte not acknowledged. -/
def State.hostEnd (s : State) (b : Fin 6) (res idx : Nat) : State :=
  s.modBus b fun x =>
    { x with xres := at_ (idx % 256) 24 ||| at_ res 0, hostWait := false, lost := 0, job := if x.job = .host then .idle else x.job
             stat := x.stat ||| 0x80#32 ||| if res = 2 then 0 else 0x04#32 }

/-- A tray is in its exchange: a host transfer to the tag's address is locked out (R530). -/
def State.tagLocked (s : State) (b : Fin 6) (w : Word) : Bool :=
  match finOf 4 b.val with
  | some t => xAddr w == 0x3A && (s.sec.trays[t]).state == .authenticating
  | none => false

/-- The host transfer of a free bus begins. -/
def State.hostBegin (s : State) (b : Fin 6) : State :=
  let x := s.tw.bus[b]
  let w := x.xrun
  if s.tagLocked b w then s.hostEnd b 8 0
  else
    let s := s.modBus b fun x => { x with job := .host, hostWait := false }
    let s := s.send (.twWrite b.val (xAddr w) (x.bytes.take (xWlen w)))
    if xRlen w = 0 then s else s.send (.twRead b.val (xAddr w) (xRlen w))

/-! ### Polls (R525 to R528) -/

/-- The pair of address and register that a channel maps to a bus. -/
def TempReading.pair (t : TempReading) (b : Nat) : Option (Nat × Nat) :=
  if bit t.map 31 && fld t.map 24 2 == b then some (fld t.map 16 7, fld t.map 8 8) else none

/-- Distinct pairs in ascending order. -/
def insertPair (p : Nat × Nat) : List (Nat × Nat) → List (Nat × Nat)
  | [] => [p]
  | q :: qs => if p = q then q :: qs else if p.1 < q.1 ∨ (p.1 = q.1 ∧ p.2 < q.2) then p :: q :: qs else q :: insertPair p qs
def State.pairsOf (s : State) (b : Nat) : List (Nat × Nat) :=
  (s.chans.toList.filterMap fun c => c.temp.pair b).foldl (fun l p => insertPair p l) []

/-- TW_POLL in force: outside 10 to 1,000 ms the nearest limit. -/
def pollMs (w : Word) : Word := BitVec.ofNat 32 (max 10 (min 1000 (fld w 0 10)))

/-- The reads of a poll period are queued (R526); a write of TW_POLL takes effect. -/
def State.pollStart (s : State) (b : Fin 6) : State :=
  let l := s.pairsOf b.val
  s.modBus b fun x => { x with due := l, late := false, pollRun := pollMs x.poll }

/-- A free bus takes up its next transfer: a host transfer, then the next poll read; a period that waited for the reads of
the last one starts now (R526, R530). -/
def State.twNext (s : State) (b : Fin 6) : State :=
  let x := s.tw.bus[b]
  if x.job ≠ .idle ∨ s.wdt.restarting = true then s
  else if x.hostWait && b.val < 4 then s.hostBegin b
  else
    let s := if x.due.isEmpty && x.late then s.pollStart b else s
    match (s.tw.bus[b]).due with
    | p :: ps =>
        let s := s.modBus b fun x => { x with due := ps, job := .poll p.1 p.2 }
        (s.send (.twWrite b.val p.1 [byte p.2])).send (.twRead b.val p.1 2)
    | [] => s

/-- The value of the two bytes of a sensor under a FORMAT, 0.01 °C; none where it is implausible (R527). -/
def sensorValue (fmt : Nat) (w : BitVec 16) : Option Int :=
  let v := match fmt with
    | 0 => divRound (w.toInt * 100) 256
    | 1 => w.toInt
    | _ => divRound (signed 13 (w.toNat / 8) * 625) 100
  if -4000 ≤ v ∧ v ≤ 15000 then some v else none

/-- A channel's reading after a good read, and its event where STATE changes. -/
def State.tempGood (s : State) (n : ChanNo) (b addr reg : Nat) (v : Int) : State :=
  let t := s.chans[n].temp
  let s := s.modChan n fun c => { c with temp := { c.temp with value := v, age := 0, failing := false } }
  if t.failing || t.value == -32768 then s.event .channel n.val 97 [0, byte b, byte addr, byte reg] else s
/-- A channel's STATE after the third failed read in a row. -/
def State.tempBad (s : State) (n : ChanNo) (b addr reg : Nat) : State :=
  if s.chans[n].temp.failing then s
  else (s.modChan n fun c => { c with temp := { c.temp with failing := true } }).event .channel n.val 97 [1, byte b, byte addr, byte reg]

/-- A read of a pair has ended, with its word where every byte was acknowledged: for each FORMAT in use the failed reads
are counted and the channels that map the pair take the result (R528). -/
def State.pollCounted (s : State) (b : Fin 6) (addr reg : Nat) (rd : Option (BitVec 16)) : State :=
  forEach [0, 1, 2] s fun s fmt =>
    let mine := (allFin 160).filter fun n =>
      s.chans[n].temp.pair b.val == some (addr, reg) && fld s.chans[n].temp.map 0 2 == fmt && !s.chans[n].temp.oldRead
    let key := fun (f : Nat × Nat × Nat × Nat) => f.1 == addr && f.2.1 == reg && f.2.2.1 == fmt
    let others := (s.tw.bus[b]).fails.filter fun f => !key f
    match rd.bind (sensorValue fmt) with
    | some v => forEach mine (s.modBus b fun x => { x with fails := others }) fun s n => s.tempGood n b.val addr reg v
    | none =>
        if mine.isEmpty then s
        else
          let k := 1 + (match (s.tw.bus[b]).fails.find? key with | some f => f.2.2.2 | none => 0)
          let s := s.modBus b fun x => { x with fails := others ++ [(addr, reg, fmt, min k 3)] }
          if 3 ≤ k then forEach mine s fun s n => s.tempBad n b.val addr reg else s
/-- The same, after which the pair's next read serves every channel that maps it. -/
def State.pollResult (s : State) (b : Fin 6) (addr reg : Nat) (rd : Option (BitVec 16)) : State :=
  let s := s.pollCounted b addr reg rd
  { s with chans := s.chans.map fun c =>
             if c.temp.pair b.val == some (addr, reg) then { c with temp := { c.temp with oldRead := false } } else c }

/-- What a bus carries ends without a result of its own: a poll read counts as failed. -/
def State.pollFail (s : State) (b : Fin 6) : State :=
  match (s.tw.bus[b]).job with
  | .poll a r => (s.modBus b fun x => { x with job := .idle }).pollResult b a r none
  | _ => s

/-- The poll periods of a bus start as a pair is mapped to it after a time with none (R526). -/
def State.pollBegin (s : State) (b : Fin 6) : State :=
  let x := s.tw.bus[b]
  let busy := !x.due.isEmpty || (match x.job with | .poll _ _ => true | _ => false)
  if s.wdt.restarting then s
  else if busy then s.modBus b fun x => { x with late := true }
  else (s.pollStart b).twNext b
/-- Failed reads are counted for pairs that are mapped only (log entry 81). -/
def State.dropFails (s : State) : State :=
  forEach (allFin 4) s fun s k =>
    let used := fun (f : Nat × Nat × Nat × Nat) => (allFin 160).any fun n =>
      s.chans[n].temp.pair k.val == some (f.1, f.2.1) && fld s.chans[n].temp.map 0 2 == f.2.2.1
    s.modBus ⟨k.val, by omega⟩ fun x => { x with fails := x.fails.filter used }

/-- A write of CH_TSENS (R525): FORMAT 3 is ignored, and so is the window of a channel that is not configured (R16). A read
that runs serves the old mapping only (R540). -/
def State.chTsens (s : State) (n : ChanNo) (v : Word) : State :=
  if fld v 0 2 = 3 ∨ s.isConf n = false then s
  else
    let t := { TempReading.reset with map := v &&& 0x837FFF03#32 }
    let b : Fin 6 := ⟨fld v 24 2 % 4, by omega⟩
    let none := (s.pairsOf b.val).isEmpty
    let runs := match (s.tw.bus[b]).job with | .poll a r => t.pair b.val == some (a, r) | _ => false
    let s := (s.modChan n fun c => { c with temp := { t with oldRead := runs } }).dropFails
    if bit v 31 && none then s.pollBegin b else s

/-! ### Registers -/

/-- A write of TW_XCTLb (R529). -/
def State.xctl (s : State) (b : Fin 6) (v : Word) : State :=
  let w := v &&& 0x3F3F007F#32
  let s := s.modBus b fun x => { x with xctl := w }
  if !bit v 31 then s
  else
    let a := xAddr w
    if a < 8 ∨ 0x78 ≤ a ∨ 48 < xWlen w ∨ 48 < xRlen w ∨ (s.tw.bus[b]).hostBusy = true then
      s.modBus b fun x => { x with xres := 9#32, stat := x.stat ||| 0x84#32 }
    else
      let free := (s.tw.bus[b]).job == .idle && !s.wdt.restarting
      let s := s.modBus b fun x => { x with xrun := w, xres := 1#32, hostWait := true, lost := 0 }
      if free then s.hostBegin b else s

/-- A write to the two-wire block at offset `o`. -/
def State.twWrite (s : State) (o : Nat) (v : Word) : State :=
  if o < 0x180 then
    (match finOf 6 (o / 64) with
     | some b =>
         (match o % 64 with
          | 0x00 => s.modBus b fun x => { x with cfg := v &&& 0xFFFF0F03#32 }
          | 0x04 => s.modBus b fun x => { x with stat := x.stat &&& ~~~v }
          | 0x08 =>
              if b.val < 5 then s.xctl b v
              else if bit v 31 then s.modBus b fun x => { x with xres := 9#32, stat := x.stat ||| 0x84#32 } else s
          | k =>
              (match finOf 12 ((k - 0x10) / 4) with
               | some j => if 0x10 ≤ k then s.modBus b fun x => { x with xbuf := x.xbuf.set j v } else s
               | none => s))
     | none => s)
  else
    (match finOf 4 ((o - 0x180) / 4) with
     | some k => s.modBus ⟨k.val, by omega⟩ fun x => { x with poll := v &&& 0x3FF#32 }
     | none => s)

/-- A restart of Galdor abandons the transfers of every bus (R482). -/
def State.twAbandon (s : State) : State :=
  forEach (allFin 6) s fun s b =>
    let was := (s.tw.bus[b]).hostBusy
    let s := s.modBus b fun x => { x with job := .idle, hostWait := false, due := [], late := false, lost := 0 }
    if was then
      { s.modBus b fun x => { x with xres := (Config.abandonedTransfer s.freeCount).setWidth 32 } with freeCount := s.freeCount + 1 }
    else s

end Sys2Proof.Machine
end

