-- ==== Sys2Proof/Machine/Watchdog.lean ====
section
/-!
DEFINITION. The watchdog (R477 to R483 of spec/15_faults_interrupts_watchdog.md).
-/
namespace Sys2Proof.Machine

/-- CLOSED in sixteenths; above 12 acts as 12. -/
def wdtClosed (cfg : Word) : Nat := min 12 (fld cfg 16 4)
/-- ACTION: 0 SUPERVISOR, 1 DEVICE. -/
def wdtAction (cfg : Word) : Nat := fld cfg 24 1

/-- A window starts (R477, R478): the configuration written takes effect; a window without a closed part is open. -/
def State.wdtWindow (s : State) : State :=
  let isOpen := wdtClosed s.wdt.cfg == 0
  let s := s.modWdt fun w => { w with cfgRun := w.cfg, tasksRun := w.tasks, checked := 0, openPart := isOpen
                                      firstWord := false }
  if isOpen then s.irqPriv 0 1 else s

/-- This start runs a bank in TRIAL: step 4 has selected it (R510). -/
def State.inTrial (s : State) : Bool := s.dev.passed.getLsbD 3 && s.sec.banks[s.sec.running].state == .trial

/-- SUPERVISOR expiries within the last 600 s of a time (R482). -/
def Wdt.recent (w : Wdt) (now : Nat) : List Nat := w.supTimes.filter fun t => now ≤ t + 600000000

/-- What an expiry does (R481, R482, R484, R510). -/
def State.wdtExpire (s : State) (reason task : Nat) : State :=
  let recent := s.wdt.recent s.beat.uptime
  let trial := s.inTrial
  let device := wdtAction s.wdt.cfgRun = 1 ∨ trial = true ∨ 2 ≤ recent.length
  let act := if device then 1 else 0
  let s := s.modWdt fun w =>
    { w with lastReason := reason, lastTask := task, firstWord := false, deferred := none
             allCount := if w.allCount = 0xFFFF#16 then w.allCount else w.allCount + 1
             supCount := if device ∨ w.supCount = 0xFFFF#16 then w.supCount else w.supCount + 1
             supTimes := if device then recent else recent ++ [s.beat.uptime] }
  let s := s.raise 34 0xFF (at_ task 24 ||| at_ reason 16) false false
  let s := s.irqPriv 1 2
  let s := s.logRec 4 reason [byte task, byte act]
  let s := s.devEvent 129 [byte reason, byte task, byte act]
  let s := if trial then s.trialFailed 2 else s
  if device then
    match s.dev.state with
    | .ready | .active | .chrysalis | .rideThrough => s.orderlyStop .watchdog
    | .orderlyStop => s
    | _ => s.deviceReset
  else if s.dev.state = .orderlyStop then s
  else
    let s := s.twAbandon.modWdt fun w => { w with restarting := true }
    let s := s.modFlt fun f => { f with excuse := 50000 }
    s.modIc fun c =>
      { c with src := c.src.map fun x => if x.target = 0 then x.complete else x
               bank := c.bank.set 0 ((c.bank[0]).map fun x => { x with active := false }) }

/-- An expiry: deferred while an NV operation runs (R483). -/
def State.wdtExpiry (s : State) (reason task : Nat) : State :=
  if s.host.nvOps.isEmpty then s.wdtExpire reason task
  else s.modWdt fun w => { w with deferred := some (w.deferred.getD (reason, task)), firstWord := false }

/-- A write of WDT_CTRL: LOCK sticks; EN starts the watchdog once (R477). -/
def State.wdtCtrl (s : State) (v : Word) : State :=
  let s := s.modWdt fun w => { w with lock := w.lock || bit v 1 }
  if bit v 0 && !s.wdt.en then (s.modWdt fun w => { w with en := true }).wdtWindow else s

/-- WDT_EN (R477, R478). -/
def execWdtEn (v : Word) (s : State) : Host.Outcome State Fault Refusal := done (s.bar (s.wdtCtrl v))

/-- Every task enabled in the window has checked in. -/
def Wdt.allIn (w : Wdt) : Bool := w.tasksRun &&& ~~~w.checked == 0

/-- A word written to WDT_KEY from T0 (R479, R481). -/
def State.wdtKey (s : State) (v : Word) : State :=
  let w := s.wdt
  if !w.en || w.restarting then s
  else if !w.openPart then s.wdtExpiry 3 0xFF
  else if !w.firstWord then
    if v = 0x0000A5C3#32 then s.modWdt fun w => { w with firstWord := true } else s.wdtExpiry 4 0xFF
  else if v = 0x00003C5A#32 then
    if w.allIn then s.wdtWindow else s.modWdt fun w => { w with firstWord := false, keyRefused := true }
  else s.wdtExpiry 4 0xFF
/-- WDT_KEY (R479). -/
def execWdtKey (v : Word) (s : State) : Host.Outcome State Fault Refusal := done (s.wdtKey v)

/-- A write to WDT_CHECKIN from T0 (R480). -/
def State.wdtCheckin (s : State) (v : Word) : State :=
  let t := fld v 0 3
  let w := s.wdt
  if !w.en || fld v 8 8 != 0xC5 || !w.tasksRun.getLsbD t then s
  else if w.checked.getLsbD t then
    let s := (s.modWdt fun w => { w with lastTask := t }).raise 35 0xFF (at_ t 24 ||| at_ 6 16) false false
    if bit w.cfgRun 25 then s else s.wdtExpiry 6 t
  else s.modWdt fun w => { w with checked := w.checked ||| (1#8 <<< t) }
/-- WDT_CHECKIN (R480). -/
def execWdtCheckin (v : Word) (s : State) : Host.Outcome State Fault Refusal := done (s.wdtCheckin v)

/-- WDT_OPEN (R478, R476): the open part begins. -/
def execWdtOpen (s : State) : Host.Outcome State Fault Refusal :=
  done (if s.wdt.en && !s.wdt.openPart && !s.wdt.restarting then (s.modWdt fun w => { w with openPart := true }).irqPriv 0 1 else s)

/-- WDT_EARLY (R478): half of the open part has passed without an accepted key. -/
def execWdtEarly (s : State) : Host.Outcome State Fault Refusal := done (if s.wdt.en && s.wdt.openPart && !s.wdt.restarting then s.irq 23 else s)

/-- WDT_WINDOW_END (R481): NO_KEY, or MISSING_TASK with the lowest task missing. -/
def State.wdtWindowEnd (s : State) : State :=
  if !s.wdt.en || s.wdt.restarting then s
  else match (List.range 8).find? fun t => s.wdt.tasksRun.getLsbD t && !s.wdt.checked.getLsbD t with
    | some t => s.wdtExpiry 2 t
    | none => s.wdtExpiry 1 0xFF
def execWdtWindowEnd (s : State) : Host.Outcome State Fault Refusal := done s.wdtWindowEnd

/-- WDT_KEY_TIMEOUT (R481): no second word within 1 ms. -/
def execWdtKeyTimeout (s : State) : Host.Outcome State Fault Refusal :=
  done (if s.wdt.en && s.wdt.firstWord then s.wdtExpiry 5 0xFF else s)

/-- WDT_DEFERRED_EXPIRY (R483): the NV operation has completed. -/
def State.wdtDeferred (s : State) : State :=
  match s.wdt.deferred with
  | some (r, t) => s.wdtExpire r t
  | none => s
def execWdtDeferredExpiry (s : State) : Host.Outcome State Fault Refusal := done s.wdtDeferred

end Sys2Proof.Machine
end

