-- ==== Sys2Proof/Machine/StartOps.lean ====
section
/-!
DEFINITION. What a start reads, restores and records: OTP regions and ROM patch entries (R434, R490, R491), the lifetime
area (R244), the save image (R400), the phase census (R440 to R443), the self-test report and its log records (R438, R439).
-/
namespace Sys2Proof.Machine

/-! ### Patch entries (R490, R491) -/

/-- The 64 bits of a patch entry. -/
def State.patchEntry (s : State) (e : Nat) : Nat := (s.otpWord (192 + 2 * e)).toNat + 4294967296 * (s.otpWord (193 + 2 * e)).toNat
def nfld (v lo n : Nat) : Nat := v / 2 ^ lo % 2 ^ n
/-- XOR of the fifteen 4-bit groups of bits [59:0]. -/
def patchCheck (v : Nat) : Nat := (List.range 15).foldl (fun a i => a ^^^ nfld v (4 * i) 4) 0
/-- The entries that an entry's predecessors revoke. -/
def revoked (es : List Nat) : List Nat := es.filterMap fun v => if nfld v 58 2 = 2 then some (nfld v 41 5) else none
/-- An entry is malformed (R491); `es` are the entries before it. -/
def patchBad (es : List Nat) (v : Nat) : Bool :=
  let typ := nfld v 58 2
  if typ = 0 then v != 0
  else
    nfld v 60 4 != patchCheck v || typ == 3 || nfld v 32 9 != 0 ||
      (typ == 2 && (nfld v 46 12 != 0 || nfld v 0 32 != 0 || es.length ≤ nfld v 41 5)) ||
      (typ == 1 && (List.range es.length).any fun i =>
        let w := es.getD i 0
        nfld w 58 2 == 1 && nfld w 41 17 == nfld v 41 17 && !(revoked es).contains i)
/-- The first malformed entry. -/
def State.badPatch (s : State) : Option Nat :=
  let es := (List.range 32).map s.patchEntry
  (List.range 32).find? fun e => patchBad (es.take e) (es.getD e 0)

/-! ### OTP regions (R434) -/

/-- The first finalised region whose digest differs. -/
def State.badRegion (s : State) : Option Nat :=
  (List.range 4).find? fun r => match s.finalDigest r with | some d => d != s.regionDigest r | none => false

/-! ### The lifetime area (R244) -/

/-- The valid slot with the highest sequence is loaded. -/
def State.lifeLoad (s : State) : State :=
  let valid := s.store.lifeSlots.toList.map fun x => x.filter LifeSlot.crcOk
  let best := valid.foldl (fun (m : Option LifeSlot) x =>
    match m, x with
    | some a, some b => if a.seq < b.seq then some b else some a
    | none, x => x
    | some a, none => some a) none
  let life := fun (i : Nat) => match best with | some b => b.phases.getD i LifePhase.reset | none => LifePhase.reset
  let hs := fun (i : Nat) => match best with | some b => b.hs.getD i HsInput.reset | none => HsInput.reset
  let s : State := { s with phases := Vector.ofFn fun i => { s.phases[i] with life := life i.val } }
  s.modStore fun t =>
    { t with lifeSeq := (match best with | some b => b.seq | none => 0)
             hs := Vector.ofFn fun i =>
               let h := hs i.val
               { HsInput.reset with bins := h.bins, highest := h.highest, lowest := h.lowest, any := h.any }
             closures := Vector.ofFn fun i => match best with | some b => b.closures.getD i.val 0 | none => 0 }

/-! ### The save image (R236, R398, R400) -/

/-- The newest sealed image of the power cycle that has just ended. -/
def State.cycleImage (s : State) : Option Image :=
  let best := s.saves.areas.toList.foldl (fun (m : Option Image) x =>
    match m, x with
    | some a, some b => if a.sealNo < b.sealNo then some b else some a
    | none, x => x
    | some a, none => some a) none
  match best with
  | some i => if i.isSealed && i.boot + 1 == s.dev.bootCount.toNat then some i else none
  | none => none

/-- A reference as it is restored: its age grows by the time off, and is unknown without valid time at both ends (R236). It counts on from `beat`. -/
def OcvRef.restored (r : OcvRef) (sealed_ now : Word) (beat : Beat) : OcvRef :=
  { r with beat := beat
           savedAge := if sealed_ = 0 ∨ now = 0 then 2 ^ 62 else r.savedAge + (now - sealed_).toNat * 1000000 }

/-- One channel restored: counters, interruption record, estimator; the channel stays OFF until a commit (R400). -/
def State.restoreChan (s : State) (x : SavedChan) (time : Word) (auto : Bool) : State :=
  match finOf 160 x.chan with
  | none => s
  | some n =>
      let est := { x.est with ref := x.est.ref.map fun r => r.restored time s.logTime 0 }
      let st := x.ctx.step
      let lost : Bool := match st.intr with | some i => i.reason == .powerLoss | none => false
      let ctx := { Context.reset with
        cnt := x.ctx.cnt
        step := { StepState.reset with base := .off, recipe := st.recipe, step := st.step, intr := st.intr, endStep := st.endStep
                                       endNext := st.endNext, endCause := st.endCause, anyResumed := st.anyResumed } }
      s.modChan n fun c =>
        { c with halves := Vector.replicate 2 ctx, estCur := est, estNext := est, nomCharge := x.nomCharge
                 restored := some (x.phases.length, if !auto then 0 else if lost then 1 else 2) }

/-- The restore at a fresh power-up; AUTO_RESUME does not act at a start that begins a trial or falls back (R400, R511). -/
def State.restore (s : State) : State :=
  match s.cycleImage with
  | none => s
  | some i =>
      let auto := s.hold.autoResume && !s.sec.fallback
      let s := forEach i.chans s fun s x => s.restoreChan x i.time auto
      let est := { i.holdEst with ref := i.holdEst.ref.map fun r => r.restored i.time s.logTime (BitVec.ofNat 64 s.beat.uptime) }
      let s := s.modHold fun h => { h with est := est, cnt := i.holdCnt }
      s.modSaves fun v =>
        { v with restored := true, autoPending := if auto then i.chans.map fun x => (x.chan, x) else [] }

/-! ### The census (R440 to R443) -/

/-- The result of a phase (R440 to R442): shunt µΩ and code, inductance nH and code, cell code, V0 in mV. -/
structure CensusOut where
  sh : Nat
  shCode : Nat
  ind : Nat
  indCode : Nat
  cell : Nat
  v0 : Int

/-- Classification of a phase from what was measured. `pulsed` says that VLINK, NO_PULSE and the latch allow pulses. -/
def censusOf (x : CensusIn) (vlink : Int) (allowed : Bool) : CensusOut :=
  let r := divRound (x.vPlus - x.vMinus) 2
  let shCode := if x.compliance ∨ 1000000 < r then 2 else if r < 100 then 3 else 1
  let pulsed := shCode = 1 && allowed && 12000000 ≤ vlink && vlink ≤ 60000000
  let k := (List.range 5).find? fun i => decide (i < x.peaks.length) && decide (100000000000 ≤ 20 * x.peaks.getD i 0 * r.toNat)
  let indCode := if !pulsed then 5 else if x.crossed then 3 else if k.isSome then 1 else 2
  let tp := 40 * 2 ^ k.getD 0
  let ind := if indCode = 1 ∧ x.mean ≠ 0 then (divRound ((vlink - x.v0) * tp) x.mean).toNat else 0
  let cell := if 1000000 < x.v1 - x.v0 then 3
    else if x.v0 ≤ -100000 then 5
    else if 100000 ≤ x.v0 then 1
    else if !pulsed then 6
    else if 200 ≤ x.rise then 2
    else if indCode = 1 then 4 else 6
  { sh := r.toNat, shCode := shCode, ind := ind, indCode := indCode, cell := cell, v0 := divRound x.v0 1000 }

/-- A value differs from its baseline by more than `pc` percent. -/
def differs (v base pc : Nat) : Bool := decide (pc * base < 100 * (v - base)) || decide (pc * base < 100 * (base - v))

/-- One phase's census taken, with CHANGED against the baseline (R443). -/
def State.censusPhase (s : State) (n : PhaseNo) (x : CensusIn) (vlink : Int) : State :=
  let o := censusOf x vlink (!s.dev.noPulse && !s.phases[n].latched)
  let base := match s.dev.baseline with | some l => l[n.val]? | none => none
  let shC := match base with | some (b, _) => o.shCode == 1 && differs o.sh b 5 | none => false
  let indC := match base with | some (_, b) => o.indCode == 1 && differs o.ind b 20 | none => false
  s.modPhase n fun p =>
    { p with cenSh := BitVec.ofNat 32 o.sh, cenL := BitVec.ofNat 32 o.ind, cenV0 := o.v0, cenCell := o.cell
             cenShunt := if shC then 4 else o.shCode, cenInd := if indC then 4 else o.indCode }

/-- PH_CEN_STAT. -/
def Phase.cenStat (p : Phase) : Word :=
  at_ (p.cenV0 % 65536).toNat 16 ||| at_ p.cenCell 8 ||| at_ p.cenInd 4 ||| at_ p.cenShunt 0
/-- CENSUS_NEW: a phase reads CHANGED or a result other than OK or NOT_RUN. -/
def State.censusNew (s : State) : Bool :=
  s.phases.toList.any fun p => 1 < p.cenShunt || 1 < p.cenInd || 1 < p.cenCell

/-! ### The report (R438) -/

/-- The 896 bytes of the report. -/
def State.report (s : State) : List Byte :=
  let d := s.dev
  leBytes 2 0x5354 ++ [0x01, byte d.result.code] ++ leBytes 4 d.bootCount.toNat ++ leBytes 2 d.passed.toNat ++
    [byte d.failStep, byte d.failCode] ++ leBytes 4 d.failData.toNat ++ leBytes 4 d.reportTime.toNat ++
    ((List.range 11).flatMap fun k => leBytes 4 (d.durations.getD k 0)) ++ leBytes 4 d.engFail.toNat ++
    leBytes 4 d.linkWord.toNat ++ ((List.range 10).flatMap fun g =>
      let f := d.sliceFail.getD g (0, 0)
      leBytes 4 f.1.toNat ++ leBytes 4 f.2.toNat) ++
    List.replicate 104 0 ++ s.phases.toList.flatMap fun p => leBytes 4 p.cenStat.toNat

/-- The log records of a start (R439). -/
def State.logSelfTest (s : State) : State :=
  let d := s.dev
  let s := forEach d.absorbedList s fun s (code, data) => s.logRec 6 code (leBytes 4 data.toNat ++ [if code = 0x50 then 5 else 6, 1])
  if d.result = .pass then s.logRec 6 0 (leBytes 4 (d.durations.foldl (· + ·) 0))
  else s.logRec 6 d.failCode (leBytes 4 d.failData.toNat ++ [byte d.failStep])

/-- The first-fault copy of the previous power cycle (R455, R460). -/
def State.firstPrevious (s : State) : State :=
  match s.flt.rtcCopy with
  | none => s
  | some (f, t) =>
      let s := s.modFlt fun x => { x with prev := f.word, prevData := f.data, prevTime := t, rtcCopy := none }
      let d := leBytes 4 f.data.toNat ++ [byte f.severity, byte f.kind, byte f.subject, if f.injected then 1 else 0]
      let s : State := { s with log := s.log.append t f.beat 3 f.source (4 + if t = 0 then 0 else 1) d }
      s.devEvent 132 [byte f.source, byte f.severity]

end Sys2Proof.Machine
end

