-- ==== Sys2Proof/Machine/ImageFmt.lean ====
section
/-!
DEFINITION. The firmware image (R500 to R502, R504 of spec/16_security_update.md) as a function of the bytes received so
far: header, manifest, bodies.
-/
namespace Sys2Proof.Machine

/-- Bytes `lo` to `hi − 1` are 0. -/
def zeroIn (bs : List Byte) (lo hi : Nat) : Bool := (slice bs lo (hi - lo)).all fun b => b == 0

/-! ### Header (R500) -/

def imgDelta (bs : List Byte) : Bool := getLe bs 0x08 1 == 2
def imgLength (bs : List Byte) : Nat := getLe bs 0x18 4
def imgSvn (bs : List Byte) : Nat := getLe bs 0x14 4

/-- No field breaks R500. -/
def headerFieldsOk (bs : List Byte) : Bool :=
  getLe bs 0x00 4 == 0x51465550 && getLe bs 0x04 2 == 1 && getLe bs 0x06 2 == 0x8160 &&
    (getLe bs 0x08 1 == 1 || getLe bs 0x08 1 == 2) && getLe bs 0x09 1 == 1 && zeroIn bs 0x0A 0x0C &&
    (imgDelta bs || getLe bs 0x10 4 == 0) && imgSvn bs ≤ 255 && 912 ≤ imgLength bs && imgLength bs ≤ 2097152 &&
    zeroIn bs 0x1C 0x20 && zeroIn bs 0xC0 0x100

/-- The signature over bytes 0x00 to 0x7F verifies. -/
def headerSigned (bs : List Byte) : Bool :=
  P256.verify (beNat (slice bs 0x40 32)) (beNat (slice bs 0x60 32)) (beNat (slice bs 0x80 32)) (beNat (slice bs 0xA0 32))
    (beNat (sha256 (slice bs 0 0x80)))

/-! ### Manifest (R501) -/

/-- An entry of the manifest. -/
structure ManEntry where
  part : Nat
  newLength : Nat
  off : Nat
  len : Nat
  baseDigest : List Byte
  newDigest : List Byte
deriving DecidableEq, Repr

def manifestBytes (bs : List Byte) : List Byte := slice bs 0x100 656
/-- The manifest truncation (R501). -/
def manifestTrunc (bs : List Byte) : List Byte := (sha256 (manifestBytes bs)).take 8

def manEntry (m : List Byte) (i : Nat) : ManEntry :=
  let o := 0x10 + 0x50 * i
  { part := getLe m o 1, newLength := getLe m (o + 4) 4, off := getLe m (o + 8) 4, len := getLe m (o + 12) 4
    baseDigest := slice m (o + 0x10) 32, newDigest := slice m (o + 0x30) 32 }
def manEntries (bs : List Byte) : List ManEntry :=
  let m := manifestBytes bs
  (List.range (getLe m 3 1)).map (manEntry m)

/-- The bodies lie in entry order without gaps from 0x390 up to LENGTH. -/
def bodiesOk (length : Nat) : Nat → List ManEntry → Bool
  | pos, [] => pos == length
  | pos, e :: es => e.off == pos && bodiesOk length (pos + e.len) es

/-- Parts of the installed bank that the manifest does not list. -/
def unlisted (es : List ManEntry) (base : List (Nat × List Byte)) : List (Nat × List Byte) :=
  base.filter fun p => !(es.any fun e => e.part == p.1)

/-- The manifest is not refused (R501). -/
def manifestOk (bs : List Byte) (base : List (Nat × List Byte)) : Bool :=
  let m := manifestBytes bs
  let n := getLe m 3 1
  let es := manEntries bs
  let total := es.foldl (fun a e => a + e.newLength) 0 + (unlisted es base).foldl (fun a p => a + p.2.length) 0
  getLe m 0 2 == 0x4D46 && getLe m 2 1 == 1 && 1 ≤ n && n ≤ 8 && zeroIn m 4 0x10 && zeroIn m (0x10 + 0x50 * n) 656 &&
    ((List.range n).all fun i => zeroIn m (0x10 + 0x50 * i + 1) (0x10 + 0x50 * i + 4)) &&
    (es.all fun e => 1 ≤ e.part && e.part ≤ 6 && 1 ≤ e.newLength && (imgDelta bs || e.baseDigest.all fun b => b == 0)) &&
    ((List.range n).all fun i => (List.range i).all fun j => (manEntry m i).part != (manEntry m j).part) &&
    bodiesOk (imgLength bs) 0x390 es && total ≤ 1044480

/-! ### Bodies (R502) -/

/-- The operations of a body applied: `body` what has arrived of it, `whole` that it is complete. None where the body breaks
R502; otherwise the output so far. -/
def applyOps (delta whole : Bool) (base : List Byte) (newLen : Nat) : Nat → List Byte → List Byte → Option (List Byte)
  | 0, _, out => some out
  | fuel + 1, body, out =>
      match body with
      | [] => if whole && out.length != newLen then none else some out
      | op :: rest =>
          let stop := if whole then none else some out
          if op = 0x01 then
            if !delta then none
            else if rest.length < 8 then stop
            else
              let src := getLe rest 0 4
              let n := getLe rest 4 4
              if n = 0 ∨ base.length < src + n ∨ newLen < out.length + n then none
              else applyOps delta whole base newLen fuel (rest.drop 8) (out ++ slice base src n)
          else if op = 0x02 then
            if rest.length < 4 then stop
            else
              let n := getLe rest 0 4
              if n = 0 ∨ newLen < out.length + n then none
              else if rest.length < 4 + n then (if whole then none else some (out ++ rest.drop 4))
              else applyOps delta whole base newLen fuel (rest.drop (4 + n)) (out ++ slice rest 4 n)
          else if op = 0x03 then
            if rest.length < 5 then stop
            else
              let n := getLe rest 0 4
              if n = 0 ∨ newLen < out.length + n then none
              else applyOps delta whole base newLen fuel (rest.drop 5) (out ++ List.replicate n (rest.getD 4 0))
          else none

/-- The content of the installed part that an entry replaces. -/
def partOf (base : List (Nat × List Byte)) (k : Nat) : List Byte := ((base.find? fun p => p.1 == k).map Prod.snd).getD []

/-- The output of an entry from the bytes received. -/
def entryOut (bs : List Byte) (base : List (Nat × List Byte)) (e : ManEntry) : Option (List Byte) :=
  let body := (bs.drop e.off).take e.len
  applyOps (imgDelta bs) (body.length == e.len) (partOf base e.part) e.newLength (body.length + 1) body []

/-- The parts written so far; none where a body breaks R502. -/
def entryOuts (bs : List Byte) (base : List (Nat × List Byte)) : List ManEntry → Option (List (Nat × List Byte))
  | [] => some []
  | e :: es =>
      match entryOut bs base e, entryOuts bs base es with
      | some o, some l => some ((e.part, o) :: l)
      | _, _ => none

/-- What the checks of R504 from step 5 on find in the bytes received so far: 0 nothing wrong, or the status. -/
def imageStatus (bs : List Byte) (base : List (Nat × List Byte)) : Nat :=
  if bs.length < 0x390 then 0
  else if !manifestOk bs base then 136
  else if imgDelta bs && (manEntries bs).any fun e => e.baseDigest != sha256 (partOf base e.part) then 135
  else match entryOuts bs base (manEntries bs) with
    | none => 136
    | some outs =>
        if bs.length < imgLength bs then 0
        else if slice bs 0x20 32 != sha256 (bs.drop 0x100) then 133
        else if (manEntries bs).any fun e => e.newDigest != sha256 (partOf outs e.part) then 136
        else 0

/-- The parts of the bank being staged: those written and those copied (R504). -/
def stagedParts (bs : List Byte) (base : List (Nat × List Byte)) : List (Nat × List Byte) :=
  if bs.length < 0x390 then []
  else (entryOuts bs base (manEntries bs)).getD [] ++ unlisted (manEntries bs) base

end Sys2Proof.Machine
end

