-- ==== Sys2Proof/Machine/Update.lean ====
section
/-!
DEFINITION. Staging, activation and confirmation of firmware (R503 to R512, R514 of spec/16_security_update.md).
-/
namespace Sys2Proof.Machine

/-! ### Banks (R504, R507) -/

/-- The inactive bank: the one that is not CONFIRMED. -/
def State.inactive (s : State) : Fin 2 := if s.sec.banks[0].state = .confirmed then 1 else 0
/-- The CONFIRMED bank, the delta base. -/
def State.confirmed (s : State) : Fin 2 := if s.sec.banks[0].state = .confirmed then 0 else 1
def State.stagedBank (s : State) : Bank := s.sec.banks[s.inactive]
def State.baseBank (s : State) : Bank := s.sec.banks[s.confirmed]
def State.trialRuns (s : State) : Bool := s.sec.banks.toList.any fun b => b.state == .trial

/-- A bank that UPDATE_ACTIVATE and UPD_RESET may arm (R508). -/
def State.armable (s : State) : Bool := s.stagedBank.state == .staged || s.stagedBank.state == .pending

/-- The status of the first refusal of R503. -/
def State.updRefused (s : State) : Option Nat :=
  if !s.allOff then some 128
  else if s.hold.missing || decide (s.hold.est.soc < 3000) || s.hold.est.soc == 0xFFFF then some 129
  else if s.ownerLock || s.sec.updLock then some 130
  else if !s.dom.releases.isEmpty then some 131
  else none

/-- The completion of an update command. -/
def State.updDone (s : State) (id status detail value : Nat) : State := (s.complete id status detail value).pumpCmd

/-! ### Staging (R504 to R506) -/

/-- The hash of the key in force for signatures (R489, R492). -/
def State.keyHash (s : State) : List Byte :=
  if s.finalised 3 then wordBytes ((List.range 8).map fun i => s.otpWord (272 + i)) else (List.range 32).map Config.romKeyHash

/-- The journal's next offset; 0 when no staging exists (R505). -/
def State.journal (s : State) : Nat := match s.sec.staging with | some g => g.image.length | none => 0

/-- The staging is discarded and the inactive bank becomes EMPTY (R506). -/
def State.stageDrop (s : State) : State :=
  (s.setBank s.inactive (Bank.reset .empty)).modSec fun c =>
    { c with staging := none, updLength := 0, updManifest := List.replicate 8 0 }

/-- The checks of a header (R504, step 4): 0 accepted. -/
def State.headerStatus (s : State) (data : List Byte) : Nat :=
  if data.length < 256 ∨ headerFieldsOk data = false then 132
  else if sha256 (slice data 0x40 64) ≠ s.keyHash ∨ headerSigned data = false then 133
  else if imgSvn data < s.svn then 134
  else if imgDelta data ∧ getLe data 0x10 4 ≠ s.baseBank.version.toNat then 135
  else 0

/-- The staging and its journal as they were before the chunk under way (R506); an activation that the chunk cancelled stays
cancelled (R516). -/
def State.stageUndo (s : State) : State :=
  match s.sec.undo with
  | none => s
  | some (b, g, len, mf) =>
      (s.setBank s.inactive (if b.state = .pending then { b with state := .staged } else b)).modSec fun c => { c with staging := g, updLength := len, updManifest := mf, undo := none }

/-- A header is accepted (R504). -/
def State.stageHeader (s : State) (data : List Byte) : State :=
  (s.setBank s.inactive { Bank.reset .staging with version := BitVec.ofNat 32 (getLe data 0x0C 4), svn := imgSvn data }).modSec
    fun c => { c with staging := some { image := [] }, updLength := imgLength data, updManifest := List.replicate 8 0 }

/-- A chunk of UPDATE_STAGE (R504): refused, failed, or given to NV. -/
def State.stageChunk (s : State) (id off : Nat) (data : List Byte) : State :=
  let fail := fun (s : State) (st : Nat) => s.stageDrop.updDone id st 0 0
  match s.updRefused with
  | some st => s.updDone id st 0 0
  | none =>
      if s.trialRuns then s.updDone id 137 0 0xFFFFFFFF
      else if off ≠ 0 ∧ off ≠ s.journal then s.updDone id 137 0 s.journal
      else
        let old := if off = 0 then [] else match s.sec.staging with | some g => g.image | none => []
        let hd := if off = 0 then s.headerStatus data else 0
        if hd ≠ 0 then fail s hd
        else
          let s := s.modSec fun c => { c with undo := some (s.stagedBank, c.staging, c.updLength, c.updManifest) }
          let s := if off = 0 then s.stageHeader data else s
          let img := old ++ data
          if imgLength img < img.length then fail s 3
          else
            let st := imageStatus img s.baseBank.parts
            if st ≠ 0 then fail s st
            else s.modHost fun h => { h with nvOps := h.nvOps ++ [.chunk id data] }

/-- A chunk has been written and read back (R504, R505). -/
def State.chunkWritten (s : State) (id : Nat) (data : List Byte) : State :=
  match s.sec.staging with
  | none => s.updDone id 9 0 0
  | some g =>
      let img := g.image ++ data
      let whole := decide (imgLength img ≤ img.length)
      let b := { s.stagedBank with parts := stagedParts img s.baseBank.parts
                                   state := if whole then .staged else .staging }
      let s := s.setBank s.inactive b
      let s := s.modSec fun c =>
        { c with undo := none, staging := if whole then none else some { image := img }
                 updManifest := if img.length < 0x390 then c.updManifest else manifestTrunc img }
      let s := if whole then s.secEvent .device 0 112 s.sec.updManifest else s
      s.updDone id 0 0 img.length

/-! ### Activation (R508, R514) -/

/-- The inactive bank becomes PENDING and UPD_ARMED is posted; one already PENDING is not changed. -/
def State.arm (s : State) (domain : Bool) (n : Beat) : State :=
  if s.stagedBank.state = .pending then s
  else
    let s := s.setBank s.inactive { s.stagedBank with state := .pending }
    s.secEvent .device 0 113 ([if domain then 1 else 0, 0, 0, 0] ++ leBytes 4 (if domain then n.toNat else 0))

/-- The lowest roster member that is not ALIGNED or has not reported the leader's truncation (R337). -/
def State.updMissing (s : State) : Option Nat :=
  (s.rosterMembers.find? fun m =>
    !(m.isAligned && (match m.upd with | some (t, a) => t == s.sec.updManifest && decide (s.now < a + 3000) | none => false))).map
    fun m => m.addr

/-- UPDATE_ACTIVATE (R283, R337, R508). -/
def State.activate (s : State) (id : Nat) (domain : Bool) : State :=
  match s.updRefused with
  | some st => s.updDone id st 0 0
  | none =>
      if !domain then
        if s.armable then (s.arm false 0).updDone id 0 0 0 else s.updDone id 138 0 0
      else if s.dom.state ≠ .leading then s.updDone id 139 0xFFFFFFFF 0
      else if !s.armable then s.updDone id 138 0 0
      else match s.updMissing with
        | some a => s.updDone id 139 a 0
        | none =>
            let n := s.beat.number + BitVec.ofNat 64 s.leadInUse
            let s := s.modDom fun d =>
              { d with outq := d.outq ++ [(.updReset n d.rseq s.sec.updManifest, 3)], rseq := (d.rseq + 1) % 256
                       updAt := some n }
            (s.arm true n).updDone id 0 (n.toNat % 4294967296) (n.toNat / 4294967296)

/-! ### Confirmation (R512) -/

/-- The confirmation is recorded in NV: the running bank CONFIRMED, then the other RETIRED; the counter follows in READY. -/
def State.confirm (s : State) (id : Nat) : State :=
  let r := s.sec.running
  let o : Fin 2 := if r = 0 then 1 else 0
  let b := s.sec.banks[r]
  if b.state ≠ .trial then s.updDone id 140 0 0 else
  let s := s.setBank r { b with state := .confirmed }
  let s := s.setBank o { s.sec.banks[o] with state := .retired }
  let s := s.modSec fun c => { c with raiseSvn := if s.svn < b.svn then some b.svn else none }
  (s.secEvent .device 0 115 (leBytes 4 b.version.toNat ++ [byte b.svn])).updDone id 0 0 0

/-! ### Messages of the domain (R337, R514) -/

/-- UPD_RESET at a member (R514). -/
def State.updResetIn (s : State) (addr offset rseq : Nat) (mf : List Byte) (trainBeat : Nat) : State :=
  let d := s.dom
  if d.state.member && addr == d.leader && !d.seenUpd.contains rseq then
    let n := beatNear s.beat.number (trainBeat + offset)
    let s := s.modDom fun d => { d with seenUpd := (rseq :: d.seenUpd).take 32 }
    if padTo 4 mf ≠ s.sec.updManifest.take 4 then s
    else match s.updRefused with
      | some st => s.secEvent .device 0 117 [byte st]
      | none =>
          if s.armable then (s.arm true n).modDom fun d => { d with updAt := some n }
          else s.secEvent .device 0 117 [138]
  else s
/-- UPD_RESET (R514). -/
def execUpdReset (ring : Bool) (addr offset rseq : Nat) (manifest : List Byte) (trainBeat : Nat) (s : State) :
    Host.Outcome State Fault Refusal :=
  let _ := ring
  done (s.updResetIn addr offset rseq manifest trainBeat)

/-- UPD_STAGED_SEND (R514): an ALIGNED device with a STAGED bank, every 1,000 beats. -/
def State.updStagedSend (s : State) : State :=
  let due := match s.dom.updSentAt with | some a => decide (a + 1000 ≤ s.beat.uptime) | none => true
  if s.dom.state = .aligned ∧ s.stagedBank.state = .staged ∧ due = true then
    (s.modDom fun d => { d with updSentAt := some s.beat.uptime }).memberMsg 0x14 0 s.sec.updManifest
  else s
def execUpdStagedSend (s : State) : Host.Outcome State Fault Refusal := done s.updStagedSend

end Sys2Proof.Machine
end

