-- ==== Sys2Proof/Machine/Startup.lean ====
section
/-!
DEFINITION. Power-up, self-test, COCOON, the state commands of GLB_CTRL and the service window (R432 to R449 of
spec/14_startup_cocoon.md), the selection of the code bank (R509), the return of Galdor (R482).
-/
namespace Sys2Proof.Machine

/-! ### GLB_CTRL (R432) -/

/-- GLB_CTRL.RESET with its key. -/
def State.glbReset (s : State) : State :=
  match s.dev.state with
  | .cocoon | .ready => s.deviceReset
  | _ => s.modDev fun d => { d with rstRefused := true }

/-- GLB_CTRL.CHRYSALIS. -/
def State.glbChrysalis (s : State) : State :=
  match s.dev.state with
  | .chrysalis => s
  | .ready | .active =>
      if s.allQuiet then (s.modDev fun d => { d with chryFrom := d.state }).goState .chrysalis
      else s.modDev fun d => { d with chryRefused := true }
  | _ => s.modDev fun d => { d with chryRefused := true }

/-- A write of GLB_CTRL; POWERUP and OTP_HOLD take no write (R444). -/
def State.glbCtrl (s : State) (v : Word) : State :=
  if s.dev.state = .powerup ∨ s.dev.state = .otpHold then s
  else
    let s := if bit v 2 then s.wakeDevice else s
    let s := if bit v 1 then s.glbChrysalis else s
    if bit v 0 && fld v 24 8 == 0x5A then s.glbReset else s
/-- GLB_RESET (R432). -/
def execGlbReset (v : Word) (s : State) : Host.Outcome State Fault Refusal := done (s.glbCtrl v)
/-- GLB_CHRYSALIS (R432). -/
def execGlbChrysalis (v : Word) (s : State) : Host.Outcome State Fault Refusal := done (s.glbCtrl v)
/-- GLB_WAKE (R432). -/
def execGlbWake (v : Word) (s : State) : Host.Outcome State Fault Refusal := done (s.glbCtrl v)

/-- UPD_RESET_ACTION (R514): at the boundary that opens N a device whose bank is PENDING resets as under GLB_CTRL.RESET. -/
def State.updResetAction (s : State) : State :=
  match s.dom.updAt with
  | some n =>
      if s.beat.number = n then
        let s := s.modDom fun d => { d with updAt := none }
        if s.stagedBank.state = .pending then s.glbReset else s
      else s
  | none => s
def execUpdResetAction (s : State) : Host.Outcome State Fault Refusal := done s.updResetAction

/-! ### The ends of the self-test (R433, R446) -/

/-- A failing step ends the self-test in COCOON (R446). A trial that ends so is FAILED (R510). -/
def State.enterCocoon (s : State) (code : Nat) (data : Word) : State :=
  let s := s.modDev fun d => { d with result := .cocoon, failStep := d.step, failCode := code, failData := data, step := 0 }
  let s := if s.inTrial then s.trialFailed 3 else s
  let s := (((s.goState .cocoon).allGatesLow.linkOpen 0).linkOpen 1).linksFixed.cutRt0
  (s.wbStop 0xFF).logSelfTest.seqFlush.firstPrevious

/-- A failing region: OTP_HOLD for TRIM, IDENT and PATCH, COCOON for OWNER (R434, R444). -/
def State.regionFails (s : State) (r : Nat) : State :=
  if r = 3 then s.enterCocoon 0x24 0
  else (s.modDev fun d => { d with result := .otpHold, failStep := d.step, failCode := 0x21 + r, failData := 0, holdRegion := r + 1
                                   step := 0 }).goState .otpHold

/-- Galdor sets the PRIO of the sources of T0 and T1 before READY (R475). -/
def Irq.galdor (c : Irq) : Irq :=
  { c with src := Vector.ofFn fun k =>
             if c.src[k].target = 2 then c.src[k] else { c.src[k] with prio := Config.galdorPrio c.src[k].target.toNat k.val }
           bank := Vector.ofFn fun t =>
             if t.val = 2 then c.bank[t]
             else Vector.ofFn fun m => { (c.bank[t])[m] with prio := Config.galdorPrio t.val (64 + m.val) } }

/-- Step 11 ends: READY (R432, R464). -/
def State.enterReady (s : State) : State :=
  let h := s.host
  let s := s.modDev fun d =>
    { d with result := .pass, step := 0
             linkWord := if h.linkUp then at_ h.width 4 ||| at_ h.speed 0 else 0 }
  let s := ((s.modIc Irq.galdor).goState .ready).modBeat fun b => { b with running := true, number := 0 }
  let s := s.wbReady.linksStart.logSelfTest.seqFlush.firstPrevious.restore
  let s := if s.hold.shortSeen then (s.raiseDev 29 0).devEvent 66 [] else s
  let s := forEach s.rtc.switchDue s fun s d => s.devEvent 73 [byte d]
  let s := if s.rtc.resetDue then s.devEvent 74 [] else s
  let s := s.modRtc fun r => { r with switchDue := [], resetDue := false }
  match s.saves.torn with
  | some a => (s.modSaves fun v => { v with torn := none }).devEvent 71 [1, byte a]
  | none => s

/-! ### The code bank (R509) -/

/-- A bank is usable: its parts are present and match, its SVN is not below the counter. `bad` are the banks that NV reads
with a part off its digest. -/
def State.usable (s : State) (i : Fin 2) (bad : BitVec 2) : Bool :=
  let b := s.sec.banks[i]
  ((List.range 6).all fun k => b.parts.any fun p => p.1 == k + 1) && !bad.getLsbD i.val && s.svn ≤ b.svn

/-- Falls back to the confirmed bank; the answer: a bank could be started. -/
def State.fallBack (s : State) (cause : Nat) (failed : Word) (bad : BitVec 2) : State × Bool :=
  let c := s.confirmed
  let s := s.modSec fun x => { x with fallback := true, fallDue := 0 }
  if !s.usable c bad then (s, false)
  else ((((s.modSec fun x => { x with running := c }).raiseDev 40 0).secEvent .device 0 116 ([byte cause] ++ leBytes 4 failed.toNat)), true)

/-- A trial starts or goes on. -/
def State.startTrial (s : State) (i : Fin 2) (tries : Nat) : State :=
  let b := s.sec.banks[i]
  let s := (s.setBank i { b with state := .trial, tries := tries }).modSec fun x =>
    { x with running := i, fallback := x.fallback || tries == 1 }
  s.secEvent .device 0 114 (leBytes 4 b.version.toNat ++ [byte tries])

/-- The selection of step 4; the answer: a bank could be started. -/
def State.selectBank (s : State) (bad : BitVec 2) : State × Bool :=
  let s := if s.svn < s.baseBank.svn then s.svnRaise s.baseBank.svn else s
  let i := s.inactive
  let b := s.sec.banks[i]
  if b.state = .pending then
    if s.usable i bad then (s.startTrial i 1, true)
    else (s.setBank i { b with state := .failed }).fallBack 4 b.version bad
  else if b.state = .trial then
    if s.usable i bad && b.tries < 3 then (s.startTrial i (b.tries + 1), true)
    else (s.setBank i { b with state := .failed }).fallBack (if 3 ≤ b.tries then 1 else 4) b.version bad
  else if s.sec.fallDue ≠ 0 then s.fallBack s.sec.fallDue b.version bad
  else (s.modSec fun x => { x with running := s.confirmed }, true)

/-! ### The steps of the self-test (R434 to R437) -/

/-- One engine that fails step 5 is left out of service (R435). -/
def State.absorbEngine (s : State) (mask : BitVec 18) : State :=
  let s := s.modBeat fun b => { b with engMap := b.engMap &&& ~~~mask }
  (s.limitCut).modDev fun d => { d with absorbed := true, absorbedList := d.absorbedList ++ [(0x50, mask.setWidth 32)] }

/-- One slice that fails step 6 is marked failed, the spare serves its position (R435). -/
def State.absorbSlice (s : State) (g : GroupNo) (voltage : Bool) (k : Fin 17) : State :=
  let spare := (s.groups[g]).out voltage
  let s := s.failSlice g voltage k.val
  let s := if spare = k.val then s
    else match (allFin 16).find? fun p => ((s.groups[g]).map voltage)[p] == k.val with
      | some p => s.serve g voltage spare p
      | none => s
  let s := s.modGroup g fun x => x.setOut voltage 0x1F
  s.modDev fun d =>
    { d with absorbed := true
             absorbedList := d.absorbedList ++ [(0x61, at_ g.val 0 ||| flagAt voltage 8)] }

/-- A report bit for a failed slice. -/
def Device.noteSlice (d : Device) (g : GroupNo) (voltage : Bool) (k : Fin 17) : Device :=
  { d with sliceFail := d.sliceFail.modify g.val fun (i, v) =>
      if voltage then (i, v ||| (1#17 <<< k.val)) else (i ||| (1#17 <<< k.val), v) }

/-- The first calibration of every slice after reset (R129, R434), and the slices that fail it. -/
def State.firstCals (s : State) (r : StepResult) : State × List (GroupNo × Bool × Fin 17) :=
  ((allFin 10).flatMap fun g => [false, true].flatMap fun v => (allFin 17).map fun k => (g, v, k)).foldl (init := (s, []))
    fun (s, bad) (g, v, k) =>
      let pts := (r.cal[(⟨34 * g.val + (if v then 17 else 0) + k.val, by split <;> omega⟩ : Fin 340)]).toList
      let new := (s.groups[g]).newCoefs v k.val true pts
      (s.modGroup g fun x => x.modSlice v k.val fun y => y.calibrated new, if new.isSome then bad else bad ++ [(g, v, k)])

/-- Two failed slices of one kind in a group. -/
def twoSlices (l : List (GroupNo × Bool × Fin 17)) : Option (GroupNo × Bool) :=
  ((allFin 10).flatMap fun g => [(g, false), (g, true)]).find? fun (g, v) =>
    decide (2 ≤ (l.filter fun x => x.1 == g && x.2.1 == v).length)

/-- The next step begins, or READY follows step 11. -/
def State.nextStep (s : State) : State :=
  let k := s.dev.step
  let s := s.modDev fun d => { d with passed := d.passed ||| (1#16 <<< (k - 1)), step := k + 1 }
  if k = 11 then s.enterReady else s

/-- The watchdog starts in the boot configuration at the end of step 2 where its fuse is burnt (R437, R477). -/
def State.hwWatchdog (s : State) : State :=
  if s.hwStart && !s.wdt.en then
    (s.modWdt fun w => { w with en := true, cfg := 0x010000C8, tasks := 0 }).wdtWindow
  else s

/-- A step of the self-test ends. -/
def State.stepDone (s : State) (r : StepResult) : State :=
  if s.dev.state ≠ .selftest then s
  else
    let s := s.modDev fun d => { d with durations := d.durations ++ [r.durUs] }
    let next := fun (s : State) => if r.code ≠ 0 then s.enterCocoon r.code r.data else s.nextStep
    match s.dev.step with
    | 2 =>
        match s.badRegion with
        | some k => if k = 3 then s.hwWatchdog.regionFails 3 else s.regionFails k
        | none => s.hwWatchdog.nextStep
    | 3 =>
        if r.code ≠ 0 then s.enterCocoon r.code r.data
        else match s.badPatch with
          | some e => s.enterCocoon 0x31 (BitVec.ofNat 32 e)
          | none => s.nextStep
    | 4 =>
        if r.code ≠ 0 then s.enterCocoon r.code r.data
        else
          let (s, ok) := s.lifeLoad.selectBank r.badBanks
          if ok then s.nextStep else s.enterCocoon 0x42 0
    | 5 =>
        let s := s.modDev fun d => { d with engFail := r.engFail }
        let n := ((List.range 18).filter fun e => r.engFail.getLsbD e).length
        if 2 ≤ n then s.enterCocoon 0x50 (r.engFail.setWidth 32)
        else next (if n = 1 then s.absorbEngine r.engFail else s)
    | 6 =>
        let (s, bad) := s.firstCals r
        let failed := bad ++ r.sliceFail.filter fun x => !bad.contains x
        let s := forEach failed s fun s (g, v, k) => s.modDev fun d => d.noteSlice g v k
        match twoSlices failed with
        | some (g, v) => if r.code ≠ 0 then s.enterCocoon r.code r.data
                         else s.enterCocoon 0x61 (at_ g.val 0 ||| flagAt v 8)
        | none => next (forEach failed s fun s (g, v, k) => s.absorbSlice g v k)
    | 9 => (forEach r.census s fun s (n, x) => s.censusPhase n x r.vlink).nextStep
    | 10 => (s.presence r.hold.1 r.hold.2).nextStep
    | 11 => s.nextStep
    | _ => next s
/-- SELFTEST_STEP_DONE (R434). -/
def execSelftestStepDone (r : StepResult) (s : State) : Host.Outcome State Fault Refusal := done (s.stepDone r)

/-- SUPPLIES_VALID (R432, R434): step 1 passes; the balls sampled at reset are taken, the I/O level and the main clock are
selected (R549, R550). A VDD_IO between its two ranges holds the device in POWERUP. -/
def State.suppliesValid (s : State) (durUs : Nat) (pins : Pins) : State :=
  if s.dev.state ≠ .powerup ∨ (2200 ≤ pins.vddIo ∧ pins.vddIo ≤ 2500) then s
  else
    let s := (s.goState .selftest).modDev fun d =>
      { d with bootCount := d.bootCount + 1, passed := 1, durations := [durUs], step := 2, reportTime := s.logTime
               ioHigh := decide (2500 < pins.vddIo), refin := pins.refin }
    let s := (s.modDom fun d => { d with strapped := pins.domLead }).modTw fun t => { t with baddr := pins.baddr.val }
    s.modFlt fun f => { f with testEn := pins.testEn }
def execSuppliesValid (durUs : Nat) (pins : Pins) (s : State) : Host.Outcome State Fault Refusal :=
  done (s.suppliesValid durUs pins)

/-! ### GLB_CEN_CFG (R442, R443) -/

/-- A write of GLB_CEN_CFG: NO_PULSE and, with ACCEPT, the present census go to NV. COCOON ignores it (R447). -/
def State.cenCfg (s : State) (v : Word) : State :=
  if s.live then
    s.modDev fun d =>
      { d with noPulse := bit v 0
               baseline := if bit v 1 then some (s.phases.toList.map fun p => (p.cenSh.toNat, p.cenL.toNat)) else d.baseline }
  else s
/-- CENSUS_ACCEPT (R443). -/
def execCensusAccept (v : Word) (s : State) : Host.Outcome State Fault Refusal := done (s.cenCfg v)
/-- NO_PULSE_WRITE (R442). -/
def execNoPulseWrite (v : Word) (s : State) : Host.Outcome State Fault Refusal := done (s.cenCfg v)

/-! ### The service window (R448) -/

/-- The 32 bytes of a log record (R427). -/
def LogRec.bytes (r : LogRec) : List Byte :=
  let b := leBytes 4 r.seq.toNat ++ leBytes 4 r.time.toNat ++ leBytes 8 r.beat.toNat ++ [byte r.source, byte r.code] ++
    leBytes 2 r.flags ++ padTo 8 r.data
  b ++ leBytes 4 (crc32 b).toNat

/-- The window acts in these states. -/
def State.svcActs (s : State) : Bool :=
  match s.dev.state with
  | .cocoon | .ready | .active | .rideThrough | .chrysalis => true
  | _ => false
/-- The words of the area selected. -/
def Device.svcSize (d : Device) : Nat := if d.svcArea then 8192 else 112
/-- The 64-bit NV word at INDEX. -/
def State.svcWord (s : State) : Nat :=
  let i := s.dev.svcIndex
  if s.dev.svcArea then
    match s.log.recs.find? fun r => r.slot == i / 4 with
    | some r => getLe r.bytes (8 * (i % 4)) 8
    | none => 0xFFFFFFFFFFFFFFFF
  else getLe s.report (8 * i) 8

/-- A read of GLB_SVC_DATA_LO: its data and the state after it; `err` says that the NV word had an uncorrectable error. -/
def State.svcLo (s : State) (err : Bool) : State × Word :=
  if !s.svcActs then (s, 0)
  else if s.dev.svcSize ≤ s.dev.svcIndex then (s.modDev fun d => { d with svcRange := true, svcHi := 0 }, 0)
  else
    let w := s.svcWord
    let s := if err then s.raiseDev 12 0 else s
    (s.modDev fun d => { d with svcHi := BitVec.ofNat 32 (w / 4294967296), svcNvErr := d.svcNvErr || err }, BitVec.ofNat 32 w)
/-- A read of GLB_SVC_DATA_HI. -/
def State.svcHiRead (s : State) : State × Word :=
  if !s.svcActs then (s, 0)
  else (s.modDev fun d => { d with svcIndex := if d.svcIndex + 1 = d.svcSize then 0 else (d.svcIndex + 1) % 8192 }, s.dev.svcHi)

/-- SVC_DATA_LO_READ (R448). -/
def execSvcDataLoRead (err : Bool) (s : State) : Host.Outcome State Fault Refusal :=
  let (s, w) := s.svcLo err
  done (s.send (.readReply w))
/-- SVC_DATA_HI_READ (R448). -/
def execSvcDataHiRead (s : State) : Host.Outcome State Fault Refusal :=
  let (s, w) := s.svcHiRead
  done (s.send (.readReply w))

/-! ### OTP_HOLD (R445) -/

/-- The 8 bytes that the hardwired responder repeats. -/
def State.holdBytes (s : State) : List Byte :=
  let b : List Byte := [0xB1, 0x01, 0x60, 0x81, 0x48, byte s.dev.holdRegion, byte s.dev.failCode]
  b ++ [crc8 b]
/-- HOLD_RESPONDER_READ (R445): a read of `n` bytes. -/
def State.holdRead (s : State) (n : Nat) : State :=
  if s.dev.state = .otpHold then
    forEach (List.range n) s fun s i => s.send (.svcByte (s.holdBytes.getD (i % 8) 0))
  else s
def execHoldResponderRead (n : Nat) (s : State) : Host.Outcome State Fault Refusal := done (s.holdRead n)

/-! ### The return of Galdor (R482) -/

/-- SUPERVISOR_RESTART: commands left running complete ABORTED, the watchdog's window starts. -/
def State.supervisorBack (s : State) : State :=
  if !s.wdt.restarting then s
  else
    let ids := s.host.running.map fun c => c.id
    let s := if s.host.nvOps.any (fun o => match o with | .chunk .. => true | _ => false) then s.stageUndo else s
    let s := s.modHost fun h => { h with waiters := [], nvOps := [] }
    let s := s.modDom fun d => { d with dig := { d.dig with queries := [] } }
    let s := forEach (allFin 4) s fun s t => if (s.sec.trays[t]).exch.isSome then s.trayResult t none 113 else s
    let s := forEach ids s fun s id => s.complete id 9 0 0
    let s := forEach (allFin 2) s fun s x =>
      let s := s.modLink x fun p => { p with next := none }
      if (s.links.port[x]).ocpHit then s.hardReset x false 3 else s
    let s := (s.modWdt fun w => { w with restarting := false }).wdtWindow
    let s := forEach (allFin 6) s fun s b => if b.val = 4 ∧ (s.tw.bus[b]).hostWait = true then s.hostBegin b else s.twNext b
    (s.devEvent 130 (leBytes 2 (s.wdt.recent s.beat.uptime).length)).pumpCmd
def execSupervisorRestart (s : State) : Host.Outcome State Fault Refusal := done s.supervisorBack

end Sys2Proof.Machine
end

