-- ==== Sys2Proof/Machine/RegHost.lean ====
section
/-!
DEFINITION. The words that the registers read: global block, host rings, streams, beat and engine array, domain,
interrupt controller, faults, watchdog (register tables of spec/00, 01, 03, 06 to 10, 14, 15). Offsets are within the
block of R15; reserved offsets and write-only registers read 0 (R13, R14).
-/
namespace Sys2Proof.Machine

/-- A word put together from fields: low bit, width, value (R8: values wider than the field are cut). -/
def fields (l : List (Nat × Nat × Nat)) : Word := l.foldl (fun w (lo, n, v) => w ||| at_ (v % 2 ^ n) lo) 0
/-- A signed value as the number that a field of `n` bits holds. -/
def twos (n : Nat) (v : Int) : Nat := (v % (2 ^ n : Nat)).toNat
/-- The low and the high half of a 64-bit number. -/
def lo32 (v : Nat) : Word := BitVec.ofNat 32 v
def hi32 (v : Nat) : Word := BitVec.ofNat 32 (v / 4294967296)
/-- The k-th word of an array of words that starts at offset `base`. -/
def wordAt {n : Nat} (v : Vector Word n) (base o : Nat) : Option Word :=
  if base ≤ o then (finOf n ((o - base) / 4)).map fun k => v[k] else none

/-! ### 0x0_0000: global (spec/00, 03, 06, 07, 14) -/

/-- Records in use and recipes loaded (R175). -/
def Store.used (t : Store) : Nat := t.recipes.foldl (fun a r => a + r.steps.length + 1) 0
/-- Bits of the tables that are loaded. -/
def loadedBits (l : List Bool) : Nat := (l.zip (List.range l.length)).foldl (fun a (b, i) => a + if b then 2 ^ i else 0) 0

def State.glbState (s : State) : Word :=
  fields [(17, 1, s.dev.chryRefused.toNat), (16, 1, s.dev.rstRefused.toNat), (8, 4, s.dev.step), (0, 4, s.dev.state.code)]
def State.glbBoot (s : State) : Word :=
  fields [(24, 8, s.dev.failData.toNat), (16, 8, s.dev.failCode), (12, 4, s.dev.failStep), (9, 1, s.dev.absorbed.toNat),
          (8, 1, s.censusNew.toNat), (0, 2, s.dev.result.code)]
def State.govStat (s : State) : Word :=
  fields [(24, 8, (s.runChans.filter fun n => s.chans[n].paused).length), (17, 1, s.gov.overB.toNat), (0, 17, s.gov.k)]
/-- The window registers and what COCOON leaves of the block (R447). -/
def State.glbAlways (s : State) (o : Nat) : Option Word :=
  match o with
  | 0x000 => some 0x816001B1#32
  | 0x004 => some s.glbState
  | 0x008 => some s.glbBoot
  | 0x100 => some (fields [(31, 1, s.dev.svcArea.toNat), (0, 13, s.dev.svcIndex)])
  | 0x10C => some (fields [(1, 1, s.dev.svcRange.toNat), (0, 1, s.dev.svcNvErr.toNat)])
  | _ => none
def State.readGlb (s : State) (o : Nat) : Word :=
  match s.glbAlways o with
  | some w => w
  | none =>
      match o with
      | 0x010 => fields [(0, 1, s.dev.noPulse.toNat)]
      | 0x400 => s.gov.budget
      | 0x404 => s.gov.cfg
      | 0x408 => s.govStat
      | 0x40C => wordOf s.gov.draw
      | 0x410 => wordOf s.gov.nonDef
      | 0x414 => wordOf s.gov.demand
      | 0x420 => fields [(16, 9, s.store.recipes.length), (0, 15, s.store.used)]
      | 0x428 => fields [(16, 4, loadedBits (s.store.ocv.toList.map Option.isSome)),
                         (0, 16, loadedBits (s.store.grade.toList.map Option.isSome))]
      | 0x440 => s.store.hsCfg
      | 0x444 => s.store.hsLimit
      | _ =>
          if 0x448 ≤ o then
            match finOf 8 ((o - 0x448) / 4) with
            | some k => fields [(16, 2, s.store.hs[k].state), (0, 16, twos 16 s.store.hs[k].value)]
            | none => 0
          else 0

/-! ### 0x0_1000: rings and streams (spec/08, 09) -/

def Ring.cfgWord (r : Ring) : Word := fields [(16, 16, r.modUs), (8, 8, r.modCnt), (0, 5, r.size)]
def Ring.statWord (r : Ring) : Word := fields [(16, 1, r.phase.toNat), (0, 16, r.dev)]
/-- A fetched command waits for a completion slot (R254, R264). -/
def State.waitCpl (s : State) : Bool := !s.host.fetched.isEmpty && (s.host.cplq.size == 0 || s.host.slots == 0)
def State.cmdqStat (s : State) : Word :=
  fields [(31, 1, s.host.fetchErr.toNat), (30, 1, s.waitCpl.toNat), (29, 1, s.host.running.isEmpty.toNat),
          (16, 8, s.host.running.length), (0, 16, s.host.cmdq.dev)]
def State.tsqStat (s : State) (k : Fin 8) : Word :=
  let x := s.tel.streams[k]
  fields [(31, 1, x.full.toNat), (30, 1, x.stall.toNat), (28, 2, s.streamState k), (24, 4, x.reason), (16, 1, x.phase.toNat),
          (0, 16, x.write)]
def State.readTsq (s : State) (k : Fin 8) (o : Nat) : Word :=
  let x := s.tel.streams[k]
  match o with
  | 0x00 => x.baseLo | 0x04 => x.baseHi | 0x08 => x.cfg | 0x0C => x.shape | 0x10 => s.tsqStat k
  | 0x14 => BitVec.ofNat 32 (min 0xFFFFFFFF x.dropCount) | 0x18 => x.seq | 0x1C => fields [(0, 16, x.blk)]
  | _ => 0
def State.readHrg (s : State) (o : Nat) : Word :=
  let h := s.host
  match o with
  | 0x00 => h.cmdq.baseReg.setWidth 32 | 0x04 => (h.cmdq.baseReg >>> 32).setWidth 32
  | 0x08 => fields [(0, 5, h.cmdq.size)] | 0x0C => s.cmdqStat
  | 0x10 => h.cplq.baseReg.setWidth 32 | 0x14 => (h.cplq.baseReg >>> 32).setWidth 32
  | 0x18 => h.cplq.cfgWord | 0x1C => h.cplq.statWord
  | 0x20 => h.evtq.baseReg.setWidth 32 | 0x24 => (h.evtq.baseReg >>> 32).setWidth 32
  | 0x28 => h.evtq.cfgWord | 0x2C => h.evtq.statWord ||| at_ h.heldEvents.length 17
  | 0x40 => fields [(2, 1, h.cfgErr.toNat), (1, 1, h.dbErr.toNat), (0, 1, h.bme.toNat)]
  | 0x44 => h.cplLost | 0x48 => h.evtLost | 0x4C => h.evtSeq
  | _ =>
      if 0x100 ≤ o ∧ o < 0x200 then
        (match finOf 8 ((o - 0x100) / 32) with | some k => s.readTsq k (o % 32) | none => 0)
      else if 0x200 ≤ o ∧ o < 0x300 then
        (match finOf 8 ((o - 0x200) / 32), finOf 5 (o % 32 / 4) with
         | some k, some j => (s.tel.streams[k]).mask[j]
         | _, _ => 0)
      else 0

/-! ### 0x0_2000: beat and engines (spec/01) -/

def State.beatStat (s : State) : Word :=
  let n := s.beat.engines.length
  fields [(10, 1, s.beat.limitCut.toNat), (9, 1, (s.runChans.any fun n => s.chans[n].detLapsed).toNat),
          (8, 1, (n != 18).toNat), (0, 5, n)]
def State.readBeat (s : State) (o : Nat) : Word :=
  let b := s.beat
  match o with
  | 0x00 => b.number.setWidth 32
  | 0x04 => b.hiCap
  | 0x08 => s.beatStat
  | 0x0C => b.engMap.setWidth 32
  | 0x10 => fields [(24, 8, b.lossHeld), (8, 2, b.lossCause.code), (0, 5, b.lossEngine)]
  | 0x14 => b.lossBeat.setWidth 32 | 0x18 => (b.lossBeat >>> 32).setWidth 32
  | 0x20 => fields [(16, 14, s.totalUse), (0, 14, b.limit)]
  | 0x24 => fields [(24, 8, b.ovrChan), (16, 2, b.ovrClass), (0, 16, b.ovrCount.toNat)]
  | 0x28 => b.ovrBeat.setWidth 32 | 0x2C => (b.ovrBeat >>> 32).setWidth 32
  | 0x30 => fields [(0, 14, b.peak)]
  | 0x34 => fields [(4, 4, b.statGroup), (0, 2, b.statResult.code)]
  | _ =>
      if 0x40 ≤ o ∧ o < 0x80 then (match finOf 10 ((o - 0x40) / 4) with | some g => fields [(0, 14, b.budgets[g])] | none => 0)
      else if 0x80 ≤ o ∧ o < 0x100 then
        (match finOf 10 ((o - 0x80) / 4) with
         | some g => fields [(16, 14, s.groupFloor g), (0, 14, s.groupUse g)]
         | none => 0)
      else if 0x100 ≤ o then
        (match finOf 18 ((o - 0x100) / 4) with
         | some e => fields [(16, 16, (b.diag[e]).pickups.toNat), (0, 9, (b.diag[e]).busy)]
         | none => 0)
      else 0

/-! ### 0x0_3000: domain (spec/10) -/

def State.domStat (s : State) : Word :=
  let d := s.dom
  let lead := d.state == .leading
  fields [(24, 1, (lead && decide (d.closed < 16)).toNat), (23, 1, d.strapped.toNat), (22, 1, d.addrConflict.toNat),
          (21, 1, d.strapConflict.toNat), (20, 1, (lead && s.quorumOk).toNat), (18, 2, (d.port true).code),
          (16, 2, (d.port false).code), (10, 1, d.ringUsed.toNat), (9, 1, d.holdover.toNat), (0, 3, d.state.code)]
def State.readDom (s : State) (o : Nat) : Word :=
  let d := s.dom
  let lead := d.state == .leading
  match o with
  | 0x00 => fields [(1, 1, d.barMode.toNat), (0, 1, d.en.toNat)]
  | 0x04 => d.cfg
  | 0x08 => fields [(0, 16, d.leadReg)]
  | 0x0C => s.domStat
  | 0x10 => fields [(16, 11, d.roster), (0, 10, d.leader)]
  | 0x14 => fields [(16, 16, twos 16 (openDiv d.trim 80)), (0, 16, twos 16 (clampInt (-32768) 32767 d.err))]
  | 0x18 => fields [(0, 24, if d.state.member then (d.port d.ringUsed).dly else 0)]
  | 0x1C => fields [(0, 16, (d.port false).hop)]
  | 0x20 => fields [(0, 16, (d.port true).hop)]
  | 0x24 => if lead then fields [(0, 24, s.lmax)] else 0
  | 0x28 => fields [(0, 16, if lead then s.leadInUse else d.leadUse)]
  | 0x2C => fields [(16, 11, if lead then s.quorum else d.qUse), (0, 11, d.rlast)]
  | 0x34 => fields [(28, 4, d.barResult), (8, 8, d.barRseq), (0, 5, d.releases.length)]
  | 0x38 => BitVec.ofNat 32 d.barId
  | 0x3C => d.barN.setWidth 32 | 0x40 => (d.barN >>> 32).setWidth 32
  | 0x44 => fields [(31, 1, (d.stage.state == .armed).toNat), (28, 2, d.stage.state.code), (0, 16, d.stage.tag)]
  | 0x60 => d.act.cfg ||| fields [(24, 4, d.act.result)]
  | 0x64 => d.act.bar
  | 0x68 => d.act.n.setWidth 32 | 0x6C => (d.act.n >>> 32).setWidth 32
  | 0x70 => fields [(16, 16, d.dig.misCount), (10, 1, d.dig.misValid.toNat), (0, 10, d.dig.misAddr)]
  | 0x74 => fields [(16, 16, d.hdrErr), (0, 16, d.slotErr)]
  | _ => if 0x48 ≤ o ∧ o < 0x5C then (wordAt d.stage.mask 0x48 o).getD 0 else 0

/-! ### 0x0_4000: interrupt controller (spec/15) -/

def IrqSrc.word (x : IrqSrc) (shared : Bool) : Word :=
  fields [(31, 1, x.pending.toNat), (30, 1, x.active.toNat), (29, 1, x.input.toNat), (8, 2, x.sense.toNat),
          (4, 2, if shared then x.target.toNat else 0), (0, 4, x.prio.toNat)]
def State.t2Stat (s : State) : Word :=
  fields [(17, 1, s.ic.routeRefused.toNat), (16, 1, s.ic.badComplete.toNat), (8, 4, s.ic.running 2), (0, 1, (s.ic.best 2).isSome.toNat)]
/-- IC_T2_PENDj: bit i is T2 number 32j + i. -/
def Irq.pendWord (c : Irq) (j : Nat) : Word :=
  (c.sources 2).foldl (fun w (k, x) => if x.pending && k / 32 == j then w ||| at_ 1 (k % 32) else w) 0
def State.readIc (s : State) (o : Nat) : Word :=
  if o < 0x100 then (match finOf 64 (o / 4) with | some k => (s.ic.src[k]).word true | none => 0)
  else if o < 0x140 then (match finOf 16 ((o - 0x100) / 4) with | some m => ((s.ic.bank[2])[m]).word false | none => 0)
  else match o with
    | 0x180 => fields [(0, 4, (s.ic.thresh[2]).toNat)]
    | 0x18C => s.t2Stat
    | 0x190 => s.ic.pendWord 0 | 0x194 => s.ic.pendWord 1 | 0x198 => s.ic.pendWord 2
    | 0x1A0 => fields [(0, 8, s.ic.soft.toNat)]
    | _ => 0

/-! ### 0x0_5000: faults (spec/15) -/

/-- The highest severity among ACTIVE sources. -/
def Faults.maxActive (f : Faults) : Nat :=
  (allFin 128).foldl (fun a k => if f.active.getLsbD k.val then max a (f.sevOf k) else a) 0
def State.readFlt (s : State) (o : Nat) : Word :=
  let f := s.flt
  match o with
  | 0x00 => match f.first with | some r => r.word | none => 0
  | 0x04 => match f.first with | some r => r.data | none => 0
  | 0x08 => match f.first with | some r => r.beat.setWidth 32 | none => 0
  | 0x0C => match f.first with | some r => (r.beat >>> 32).setWidth 32 | none => 0
  | 0x10 => fields [(16, 16, f.count.toNat), (10, 1, f.wbRefused.toNat), (9, 1, f.injRefused.toNat), (8, 1, f.ovf.toNat),
                    (0, 3, f.maxActive)]
  | 0x14 => fields [(31, 1, f.lock.toNat), (1, 1, f.s4BoardOff.toNat)]
  | 0x18 => f.wbCfgWord
  | 0x1C => fields [(2, 1, f.running.toNat), (1, 1, f.hold.toNat)]
  | 0x30 => f.prev | 0x34 => f.prevData | 0x38 => f.prevTime
  | _ =>
      if 0x40 ≤ o ∧ o < 0x80 then (match finOf 16 ((o - 0x40) / 4) with | some j => f.sevWord j | none => 0)
      else if 0x80 ≤ o ∧ o < 0x90 then (f.active >>> (8 * (o - 0x80))).setWidth 32
      else if 0x90 ≤ o ∧ o < 0xA0 then (f.hit >>> (8 * (o - 0x90))).setWidth 32
      else 0

/-! ### 0x0_6000: watchdog (spec/15) -/

def State.readWdt (s : State) (o : Nat) : Word :=
  let w := s.wdt
  match o with
  | 0x00 => fields [(1, 1, w.lock.toNat), (0, 1, w.en.toNat)]
  | 0x04 => w.cfg
  | 0x08 => fields [(0, 8, w.tasks.toNat)]
  | 0x14 => fields [(31, 1, w.openPart.toNat), (30, 1, w.keyRefused.toNat), (24, 3, w.lastReason), (16, 8, w.lastTask),
                    (8, 8, w.checked.toNat)]
  | 0x18 => fields [(16, 16, w.supCount.toNat), (0, 16, w.allCount.toNat)]
  | _ => 0

end Sys2Proof.Machine
end

