-- ==== Sys2Proof/Machine/RegBoard.lean ====
section
/-!
DEFINITION. The words that the registers read, continued: sequencer, holdup, clock, two-wire, links, security, update,
metrology, setpoint lane (register tables of spec/03, 04, 11 to 13, 16, 17).
-/
namespace Sys2Proof.Machine

/-! ### 0x0_7000: sequencer (spec/13) -/

def State.seqStat (s : State) : Word :=
  let q := s.seq
  fields [(24, 4, q.lastSlot), (16, 4, q.lastCause), (10, 1, q.storeErr.toNat), (9, 1, q.profileStored.toNat),
          (8, 1, q.fltLow.toNat), (4, 3, q.retry), (0, 3, q.state.code)]
def Slot.statWord (x : Slot) : Word :=
  fields [(31, 1, x.en.toNat), (30, 1, x.dis.toNat), (29, 1, x.pg.toNat), (28, 1, (x.applied != 0).toNat), (16, 5, x.lastFail),
          (0, 12, x.sense)]
def State.readSeq (s : State) (o : Nat) : Word :=
  let q := s.seq
  if o = 0x04 then q.profile.cfg
  else if o = 0x08 then s.seqStat
  else if 0x10 ≤ o ∧ o < 0x20 then
    (match finOf 4 ((o - 0x10) / 4) with
     | some j => q.profile.rst[j] ||| fields [(30, 1, (q.released[j]).toNat)]
     | none => 0)
  else if 0x100 ≤ o then
    (match finOf 12 ((o - 0x100) / 32) with
     | some k =>
         (match o % 32 with
          | 0x00 => (q.profile.slots[k]).cfg | 0x04 => (q.profile.slots[k]).dly | 0x08 => (q.profile.slots[k]).win
          | 0x0C => (q.profile.slots[k]).off | 0x10 => (q.slots[k]).marg | 0x14 => (q.slots[k]).statWord
          | _ => 0)
     | none => 0)
  else 0

/-! ### 0x0_8000: holdup (spec/12) -/

def State.hldStat (s : State) : Word :=
  let h := s.hold
  fields [(16, 1, (s.dev.state == .rideThrough).toNat), (13, 1, h.timerExp.toNat), (12, 1, h.shortSeen.toNat),
          (11, 1, h.missing.toNat), (10, 1, h.ntcFault.toNat), (8, 2, h.ntcRange), (7, 1, h.thermLim.toNat), (6, 1, h.idg.toNat),
          (5, 1, h.main.toNat), (0, 4, h.state.code)]
def Est.socWord (e : Est) : Word := fields [(16, 16, e.unc), (0, 16, e.soc)]
def Est.ztWord (e : Est) (k : Nat) : Word := if e.ztSet.getD k false then BitVec.ofNat 32 (e.zt.getD k 0) else 0
def State.readHld (s : State) (o : Nat) : Word :=
  let h := s.hold
  match o with
  | 0x00 => h.cfg | 0x04 => h.ichg | 0x08 => h.timer | 0x0C => h.ntcCfg | 0x10 => s.hldStat
  | 0x14 => wordOf h.v | 0x18 => wordOf h.i | 0x1C => wordOf h.vin
  | 0x20 => BitVec.ofNat 32 (h.tUs / 1000000)
  | 0x24 => h.est.socWord
  | 0x28 => BitVec.ofNat 32 h.cap | 0x2C => h.capNom | 0x30 => h.estCfg
  | 0x38 => h.est.ztWord 1 | 0x3C => h.est.ztWord 3
  | 0x40 => fields [(16, 16, h.rtCount), (0, 16, h.rtMs)]
  | _ => 0

/-! ### 0x0_9000: clock (spec/12) -/

/-- A calendar field by its offset. -/
def Cal.word (c : Cal) (o : Nat) : Word :=
  BitVec.ofNat 32 (match o with
    | 0x00 => c.sub | 0x04 => c.sec | 0x08 => c.min | 0x0C => c.hour | 0x10 => c.day | 0x14 => c.month | 0x18 => c.year | _ => 0)
def State.readRtc (s : State) (o : Nat) : Word :=
  let r := s.rtc
  if o ≤ 0x18 then (if r.frozen then r.shadow else r.now).word o
  else match o with
    | 0x20 => fields [(6, 1, r.frozen.toNat), (5, 1, r.setRefused.toNat), (4, 1, r.almB.toNat), (3, 1, r.almA.toNat),
                      (2, 1, s.flt.ffLost.toNat), (1, 1, r.onVrtc.toNat), (0, 1, r.valid.toNat)]
    | 0x24 => r.almAT | 0x28 => r.almAD | 0x2C => r.almBT | 0x30 => r.almBD
    | _ => 0

/-! ### 0x0_A000: two-wire (spec/17) -/

def Bus.statWord (b : Bus) : Word := b.stat ||| fields [(15, 1, (b.job != .idle).toNat)]
def State.readTw (s : State) (o : Nat) : Word :=
  let t := s.tw
  if o < 0x180 then
    (match finOf 6 (o / 64) with
     | some b =>
         let x := t.bus[b]
         (match o % 64 with
          | 0x00 => x.cfg | 0x04 => x.statWord
          | 0x08 => if b.val < 5 then x.xctl else 0
          | 0x0C => x.xres
          | k => (wordAt x.xbuf 0x10 k).getD 0)
     | none => 0)
  else if o < 0x190 then (match finOf 6 ((o - 0x180) / 4) with | some k => (t.bus[k]).poll | none => 0)
  else if o = 0x190 then BitVec.ofNat 32 (0x50 + t.baddr)
  else if o = 0x220 then fields [(0, 3, t.mboxLast)]
  else if 0x200 ≤ o then (wordAt t.mbox 0x200 o).getD 0
  else 0

/-! ### 0x0_B000: links (spec/11) -/

/-- A port has a role from its attach to its detach, a swap and the recovery of a hard reset among them (log entry 77). -/
def LinkPort.hasRole (p : LinkPort) : Bool := p.state.attached || p.state == .swapDischarge || p.state == .hardReset
def LinkPort.statWord (p : LinkPort) : Word :=
  fields [(24, 3, p.acc.code), (17, 1, p.wantImport.toNat), (16, 1, p.wantExport.toNat), (12, 1, p.switch.toNat),
          (11, 1, p.contract.isSome.toNat), (9, 2, if p.hasRole then (if p.source then 2 else 1) else 0),
          (0, 5, p.state.code)]
def State.readPort (s : State) (x : Fin 2) (o : Nat) : Word :=
  let p := s.links.port[x]
  match o with
  | 0x00 => fields [(0, 1, p.en.toNat)]
  | 0x04 => p.statWord | 0x08 => p.evt
  | 0x0C => match p.contract with | some (w, _) => w | none => 0
  | 0x10 => match p.contract with | some (_, i) => BitVec.ofNat 32 i | none => 0
  | 0x14 => wordOf p.v | 0x18 => wordOf p.i
  | 0x1C => lo32 (s.linkId x) | 0x20 => hi32 (s.linkId x)
  | 0x24 => fields [(0, 14, p.shunt)] | 0x28 => fields [(0, 8, p.ocp)]
  | 0x2C => fields [(16, 16, p.hrst), (0, 16, p.err)]
  | _ =>
      if 0x40 ≤ o ∧ o < 0x80 then
        (match p.policy with | some q => BitVec.ofNat 32 (getLe q.image (o - 0x40) 4) | none => 0)
      else 0
def State.readLnk (s : State) (o : Nat) : Word :=
  if o < 0x100 then s.readPort 0 o
  else if o < 0x200 then s.readPort 1 (o - 0x100)
  else match o with
    | 0x200 => wordOf s.links.vlink
    | 0x204 => s.links.total
    | _ => 0

/-! ### 0x0_C000 and 0x0_D000: security and update (spec/16) -/

def State.trayStat (s : State) : Word :=
  fields ((allFin 4).flatMap fun t => [(8 * t.val + 4, 4, (s.sec.trays[t]).last), (8 * t.val, 3, (s.sec.trays[t]).state.code)])
def State.readSec (s : State) (o : Nat) : Word :=
  let c := s.sec
  match o with
  | 0x00 => fields [(0, 1, c.updLock.toNat)]
  | 0x04 => s.secStat
  | 0x08 => fields [(0, 9, s.svn)]
  | 0x10 => c.otpAddr | 0x14 => c.otpData
  | 0x1C => fields [(31, 1, c.otpBusy.isSome.toNat), (0, 4, c.otpResult)]
  | 0x20 => c.otpRd
  | 0x30 => lo32 s.serial | 0x34 => hi32 s.serial
  | 0x40 => c.trayCfg | 0x44 => s.trayStat
  | _ =>
      if 0x60 ≤ o ∧ o < 0xB0 then
        (match finOf 4 ((o - 0x60) / 20), finOf 5 ((o - 0x60) % 20 / 4) with
         | some t, some j => (c.trays[t]).map[j]
         | _, _ => 0)
      else if o < 0x120 then (wordAt c.nonce 0x100 o).getD 0
      else if o < 0x160 then (wordAt c.devKey 0x120 o).getD 0
      else (wordAt c.sig 0x160 o).getD 0
def State.updStat (s : State) : Word :=
  let c := s.sec
  let r := c.banks[c.running]
  fields [(24, 8, c.updLast), (16, 3, if r.state = .trial then r.tries else 0), (8, 4, (c.banks[1]).state.code),
          (4, 4, (c.banks[0]).state.code), (0, 1, c.running.val)]
def State.readUpd (s : State) (o : Nat) : Word :=
  let c := s.sec
  let other := c.banks[1 - c.running]
  match o with
  | 0x00 => s.updStat
  | 0x04 => BitVec.ofNat 32 s.journal
  | 0x08 => (c.banks[c.running]).version
  | 0x0C => if other.state = .empty then 0 else other.version
  | 0x10 => BitVec.ofNat 32 c.updLength
  | 0x14 => BitVec.ofNat 32 (getLe c.updManifest 0 4) | 0x18 => BitVec.ofNat 32 (getLe c.updManifest 4 4)
  | 0x1C => fields [(0, 8, (c.banks[c.running]).svn)]
  | _ => 0

/-! ### 0x0_E000: metrology (spec/04) -/

def MetPort.statWord (p : MetPort) : Word :=
  fields [(9, 1, p.mValid.toNat), (8, 1, p.vValid.toNat), (6, 2, p.state.code), (0, 4, p.result)]
def MetPort.word (p : MetPort) (o : Nat) : Word :=
  match o with
  | 0x00 => p.ctrl | 0x04 => p.statWord | 0x08 => p.value | 0x0C => p.raw | 0x14 => p.calVal
  | 0x18 => wordOf p.vGain | 0x1C => wordOf p.vOfs | 0x20 => wordOf p.mGain | 0x24 => wordOf p.mOfs
  | 0x28 => p.vTime | 0x2C => p.mTime
  | _ => 0
def State.readMet (s : State) (o : Nat) : Word :=
  let m := s.met
  if o < 0x100 then (match finOf 4 (o / 64) with | some p => (m.ports[p]).word (o % 64) | none => 0)
  else match o with
    | 0x100 => m.ownReg.setWidth 32
    | 0x104 => m.xferCfg
    | 0x108 => m.xferMask
    | 0x10C => fields [(28, 4, m.statGroup), (26, 2, m.statPort), (2, 2, m.statRefi), (0, 2, m.statRefv)]
    | 0x110 => m.xchkV | 0x114 => m.xchkI
    | _ => 0

/-! ### 0x0_F000: setpoint lane (spec/03) -/

def State.readSpl (s : State) (o : Nat) : Word :=
  let l := s.lane
  match o with
  | 0x00 => fields [(0, 1, l.en.toNat)]
  | 0x04 => fields [(10, 1, l.frameSeen.toNat), (9, 1, l.crcSeen.toNat), (8, 1, l.ovf.toNat), (0, 7, l.queue.length)]
  | 0x08 => fields [(16, 16, l.crcErr.toNat), (0, 16, l.frameErr.toNat)]
  | 0x0C => l.frames
  | 0x10 => fields [(0, 16, l.ackDrop.toNat)]
  | _ => 0

end Sys2Proof.Machine
end

