-- ==== Sys2Proof/Machine/Metrology.lean ====
section
/-!
DEFINITION. Metrology ports (R138 to R140), system calibration (R141 to R143), transfers into the groups (R144 to R147),
cross-checks (R148, R149). Values in a register unit are rounded half away from zero (R126).
-/
namespace Sys2Proof.Machine

/-! ### Ports -/

def State.modPort (s : State) (p : Fin 4) (f : MetPort → MetPort) : State :=
  s.modMet fun m => { m with ports := m.ports.set p (f m.ports[p]) }
/-- The port belongs to the device (R140). -/
def State.portOwned (s : State) (p : Fin 4) : Bool := s.met.own.getLsbD p.val
/-- A port without work. -/
def MetPort.free (x : MetPort) : Bool := x.state == .idle && x.job == .none
/-- MET_STAT.RESULT takes a value; every change to one other than NONE fires source 38. -/
def State.portResult (s : State) (p : Fin 4) (r : Nat) : State :=
  let old := (s.met.ports[p]).result
  let s := s.modPort p fun x => { x with result := r }
  if r ≠ 0 ∧ r ≠ old then s.irq 38 else s

/-- The corrected value of a mean code `num / den` in 1/256 µV, as a fraction (R138). -/
def MetPort.exact (x : MetPort) (milli : Bool) (num den : Int) : Int × Int :=
  let (g, o) := if milli then (x.mGain, x.mOfs) else (x.vGain, x.vOfs)
  let (ln, ld) : Int × Int := if milli then (1, 64) else (25, 32)
  ((256 * num - o * den) * ln * g, ld * 1073741824 * den)
/-- The same as MET_RESULT holds it (R126). -/
def MetPort.value256 (x : MetPort) (milli : Bool) (num den : Int) : Int :=
  let (a, b) := x.exact milli num den
  divRound a b

/-! ### Cross-checks (R148, R149) -/

/-- The tolerance test of R148: a port value against the position's metrology average of the last milli period. -/
def State.xchkPass (s : State) (voltage : Bool) (ph : PhaseNo) (v : Int) : Bool :=
  let q := s.phases[ph]
  let (sum, n) := if voltage then (q.avV, q.avVn) else (q.avI, q.avIn)
  let w := if voltage then s.met.xchkV else s.met.xchkI
  let unit : Nat := if voltage then 2560000000 else 256000000
  n != 0 && decide ((v * n - sum).natAbs * 10000000 ≤ (v.natAbs * fld w 16 16 * 10 + fld w 0 16 * unit) * n)

/-- The outcome of an estimator's cross-check finds the oldest step that waits for it (R219). -/
def Est.resolveX (e : Est) (ph : PhaseNo) (f : MeasStep → MeasStep) : Est :=
  let fix := fun (m : MeasStep) => f { m with xPending := m.xPending.erase ph }
  match e.await.findIdx? fun m => m.xPending.contains ph with
  | some i => { e with await := (e.await.zipIdx).map fun (m, j) => if i = j then fix m else m }
  | none => { e with meas := e.meas.map fun m => if m.xPending.contains ph then fix m else m }
/-- The outcome reaches the estimator in both areas. -/
def State.resolveX (s : State) (n : ChanNo) (ph : PhaseNo) (f : MeasStep → MeasStep) : State :=
  s.modChan n fun c => { c with estCur := c.estCur.resolveX ph f, estNext := c.estNext.resolveX ph f }

/-- Device work waits for a free owned port (R140): cross-checks start as soon as one is free. -/
def metPump : List (Fin 4) → State → State
  | [], s => s
  | p :: ps, s =>
      match s.met.checks with
      | (n, ph) :: rest =>
          if s.portOwned p && (s.met.ports[p]).free then
            let s := s.modMet fun m => { m with checks := rest }
            metPump ps (s.modPort p fun x => { x with state := .busy, job := .check n ph })
          else metPump ps s
      | [] => s
def State.pumpMet (s : State) : State := metPump (allFin 4) s

/-- A pending change of MET_OWN takes effect for an idle port (R140). -/
def State.ownChange (s : State) (p : Fin 4) : State :=
  if (s.met.ports[p]).free then
    (s.modMet fun m => { m with own := (m.own &&& ~~~(1#4 <<< p.val)) ||| (m.ownReg &&& (1#4 <<< p.val)) }).pumpMet
  else s

/-- A port ends its work: a change of ownership that waits takes effect, and then device work that waits may start (R140). -/
def State.portIdle (s : State) (p : Fin 4) : State :=
  (s.modPort p fun x => { x with state := .idle, job := .none }).ownChange p
/-- OWNERSHIP_CHANGE (R140). -/
def execOwnershipChange (p : Fin 4) (s : State) : Host.Outcome State Fault Refusal := done (s.ownChange p)

/-- A write of MET_OWN: idle ports change at once, the others when they become idle. -/
def State.metOwnWrite (s : State) (v : Word) : State :=
  forEach (allFin 4) (s.modMet fun m => { m with ownReg := v.setWidth 4 }) State.ownChange

/-- A cross-check that the estimator asked for ends with the code of its conversion (R148, R219). -/
def State.checkDone (s : State) (p : Fin 4) (code : Int) : State :=
  match (s.met.ports[p]).job with
  | .check n ph =>
      let pass := s.xchkPass false ph ((s.met.ports[p]).value256 true code 1)
      let s := s.resolveX n ph fun m => { m with xFail := m.xFail || !pass }
      let s := if pass then s else s.suspect (groupOf ph) false (posOf ph.val) .xchk s.beat.number
      s.portIdle p
  | _ => s
/-- CROSS_CHECK_DONE (R148). -/
def execCrossCheckDone (p : Fin 4) (code : Int) (s : State) : Host.Outcome State Fault Refusal := done (s.checkDone p code)

/-- The cross-checks of a channel that have found no free owned port for 60 s end (R149). -/
def State.xchkTimeout (s : State) (n : ChanNo) : State :=
  let mine := s.met.checks.filter fun x => x.1 == n
  let s := s.modMet fun m => { m with checks := m.checks.filter fun x => x.1 != n }
  forEach mine s fun s x => s.resolveX n x.2 fun m => { m with xTimeout := true }
/-- XCHK_TIMEOUT (R149). -/
def execXchkTimeout (n : ChanNo) (s : State) : Host.Outcome State Fault Refusal := done (s.xchkTimeout n)

/-! ### Conversions on request (R138 to R140, R148) -/

/-- The node that MET_CTRL selects. -/
def ctrlNode (v : Word) : Nat × Nat := (fld v 24 3, fld v 16 8)
/-- The node exists (R139). SRC 5 to 7 name none. -/
def nodeExists (v : Word) : Bool :=
  let (src, sel) := ctrlNode v
  src == 0 || ((src == 1 || src == 2) && sel < 10) || ((src == 3 || src == 4) && sel < 160)
/-- The node is connected to another port (R139); EXT is each port's own. -/
def State.nodeTaken (s : State) (p : Fin 4) (v : Word) : Bool :=
  (ctrlNode v).1 != 0 && (allFin 4).any fun q => q != p &&
    match (s.met.ports[q]).job with
    | .host c => ctrlNode c == ctrlNode v
    | .transfer g => ctrlNode v == (1, g.val) || ctrlNode v == (2, g.val)
    | .check _ ph => ctrlNode v == (4, ph.val)
    | _ => false

/-- A write of MET_CTRL (R138 to R140, R143). -/
def State.metCtrl (s : State) (p : Fin 4) (v : Word) : State :=
  let c := v &&& 0x47FF13FF#32
  let s := s.modPort p fun x => { x with ctrl := c }
  if !bit v 31 then s
  else if s.portOwned p then s.portResult p 2
  else if !(s.met.ports[p]).free then s.portResult p 3
  else if !nodeExists c || s.nodeTaken p c then s.portResult p 4
  else
    let s := s.portResult p 0
    if fld c 0 8 = 0 then s.portResult p 1
    else s.modPort p fun x => { x with state := .busy, job := .host c }
/-- MET_CTRL_GO (R139). -/
def execMetCtrlGo (p : Fin 4) (v : Word) (s : State) : Host.Outcome State Fault Refusal := done (s.bar (s.metCtrl p v))

/-- The conversions of a request end; `sum` is the sum of their codes (R138, R148). -/
def State.metDone (s : State) (p : Fin 4) (sum : Int) : State :=
  match (s.met.ports[p]).job with
  | .host c =>
      let n : Int := (fld c 0 8 : Nat)
      let v := (s.met.ports[p]).value256 (bit c 12) sum n
      let s := s.modPort p fun x => { x with value := wordOf v, raw := wordOf (divRound (256 * sum) n) }
      let s := s.portIdle p
      let src := fld c 24 3
      if bit c 30 ∧ (src = 3 ∨ src = 4) then
        let ph := phaseOf (fld c 16 8)
        if s.xchkPass (src == 3) ph v then s.portResult p 10
        else (s.suspect (groupOf ph) (src == 3) (posOf ph.val) .xchk s.beat.number).portResult p 11
      else s.portResult p 1
  | _ => s
/-- METROLOGY_DONE (R138). -/
def execMetrologyDone (p : Fin 4) (sum : Int) (s : State) : Host.Outcome State Fault Refusal := done (s.metDone p sum)

/-! ### System calibration (R141 to R143) -/

/-- The command that waits for the calibration step of a port completes. -/
def State.calComplete (s : State) (p : Fin 4) (status : Nat) : State :=
  let c := (s.met.ports[p]).calCmd
  (s.modPort p fun x => { x with calCmd := none }).completeOpt c status 0 0

/-- A step is rejected: the port returns to IDLE with the previous coefficients (R142). -/
def State.calReject (s : State) (p : Fin 4) (r : Nat) : State :=
  ((s.portIdle p).portResult p r).calComplete p (96 + r)

/-- STEP = ZERO (R141, R143). The answer is the refusal, 0 none. -/
def State.calZero (s : State) (p : Fin 4) : State × Nat :=
  if s.portOwned p then (s.portResult p 2, 2)
  else if !(s.met.ports[p]).free then (s.portResult p 3, 3)
  else ((s.portResult p 0).modPort p fun x => { x with state := .busy, job := .zero, calRange := bit x.ctrl 12 }, 0)
/-- CAL_ZERO (R141). -/
def execCalZero (p : Fin 4) (s : State) : Host.Outcome State Fault Refusal := done (s.bar (s.calZero p).1)

/-- The standard deviation of 256 conversions is above 16 codes (R142). -/
def noisy (sum : Int) (sumSq : Nat) : Bool := decide (65536 * 256 < 256 * (sumSq : Int) - sum * sum)

/-- The 256 conversions at ZERO end with the sum and the sum of squares of their codes. -/
def State.calZeroDone (s : State) (p : Fin 4) (sum : Int) (sumSq : Nat) : State :=
  if (s.met.ports[p]).job ≠ .zero then s
  else if 8388 * 256 < sum.natAbs then s.calReject p 5
  else if noisy sum sumSq then s.calReject p 8
  else (s.modPort p fun x => { x with state := .zeroHeld, job := .none, zeroMean := sum }).calComplete p 0
/-- CAL_ZERO_DONE (R141). -/
def execCalZeroDone (p : Fin 4) (sum : Int) (sumSq : Nat) (s : State) : Host.Outcome State Fault Refusal :=
  done (s.calZeroDone p sum sumSq)

/-- STEP = FULL (R141): it follows ZERO. -/
def State.calFull (s : State) (p : Fin 4) : State × Nat :=
  match (s.met.ports[p]).state with
  | .zeroHeld => (s.modPort p fun x => { x with state := .busy, job := .full }, 0)
  | .busy => (s.portResult p 3, 3)
  | _ => (s, 0)
/-- CAL_FULL (R141). -/
def execCalFull (p : Fin 4) (s : State) : Host.Outcome State Fault Refusal := done (s.bar (s.calFull p).1)

/-- The 256 conversions at FULL end (R141, R142). -/
def State.calFullDone (s : State) (p : Fin 4) (sum : Int) (sumSq : Nat) : State :=
  let x := s.met.ports[p]
  if x.job ≠ .full then s
  else
    let v := sword x.calVal
    let (lo, hi) : Nat × Nat := if x.calRange then (65536, 131072) else (3276800, 6553600)
    let (ln, ld) : Int × Int := if x.calRange then (1, 64) else (25, 32)
    let num := v * 256 * ld
    let den := (sum - x.zeroMean) * ln
    if v.natAbs < lo ∨ hi < v.natAbs then s.calReject p 6
    else if den = 0 ∨ num * (if den < 0 then -1 else 1) * 1000 < 995 * absI den ∨
        1005 * absI den < num * (if den < 0 then -1 else 1) * 1000 then s.calReject p 7
    else if noisy sum sumSq then s.calReject p 8
    else
      (s.modPort p fun x => { x with state := .ready, job := .none, newGain := divRound (num * 1073741824) den
                                     newOfs := x.zeroMean }).calComplete p 0
/-- CAL_FULL_DONE (R141). -/
def execCalFullDone (p : Fin 4) (sum : Int) (sumSq : Nat) (s : State) : Host.Outcome State Fault Refusal :=
  done (s.calFullDone p sum sumSq)

/-- STEP = STORE (R141): it follows FULL. -/
def State.calStore (s : State) (p : Fin 4) : State × Nat :=
  match (s.met.ports[p]).state with
  | .ready =>
      let t := s.logTime
      let s := s.modPort p fun x =>
        if x.calRange then { x with mGain := x.newGain, mOfs := x.newOfs, mTime := t, mValid := true }
        else { x with vGain := x.newGain, vOfs := x.newOfs, vTime := t, vValid := true }
      ((s.portResult p 0).portIdle p |>.portResult p 1, 0)
  | .busy => (s.portResult p 3, 3)
  | _ => (s, 0)
/-- CAL_STORE (R141). -/
def execCalStore (p : Fin 4) (s : State) : Host.Outcome State Fault Refusal := done (s.bar (s.calStore p).1)

/-- STEP = ABORT (R141): the port returns to IDLE with the previous coefficients; a command it ends is ABORTED. -/
def State.calAbort (s : State) (p : Fin 4) : State :=
  let x := s.met.ports[p]
  if x.state = .zeroHeld ∨ x.state = .ready ∨ x.job = .zero ∨ x.job = .full then (s.portIdle p).calComplete p 9 else s
/-- CAL_ABORT (R141). -/
def execCalAbort (p : Fin 4) (s : State) : Host.Outcome State Fault Refusal := done (s.bar (s.calAbort p))

/-- 3,600 s have passed without the next step (R142). -/
def State.calAbandon (s : State) (p : Fin 4) : State :=
  let x := s.met.ports[p]
  if x.state = .zeroHeld ∨ x.state = .ready then (s.portIdle p).portResult p 9 else s
/-- CAL_ABANDON_TIMEOUT (R142). -/
def execCalAbandonTimeout (p : Fin 4) (s : State) : Host.Outcome State Fault Refusal := done (s.calAbandon p)

/-! ### Transfers (R144 to R147) -/

/-- A transfer of a group is queued, once; the groups that wait are taken in ascending number (R144). -/
def State.queueTransfer (s : State) (g : GroupNo) : State :=
  if s.met.queue.contains g || (s.groups[g]).xfer then s else s.modMet fun m => { m with queue := m.queue ++ [g] }

/-- The last accepted transfer of a group has reached INTERVAL (R144). -/
def State.transferDue (s : State) (g : GroupNo) : State :=
  let iv := fld s.met.xferCfg 0 5
  let x := s.groups[g]
  match s.ageSecs x.xferTime with
  | some d => if iv ≠ 0 ∧ (x.xferV.isSome ∨ x.xferI.isSome) ∧ iv * 86400 ≤ d then s.queueTransfer g else s
  | none => s
/-- TRANSFER_DUE (R144). -/
def execTransferDue (g : GroupNo) (s : State) : Host.Outcome State Fault Refusal := done (s.transferDue g)

/-- A write of MET_XFER_CTRL. -/
def State.xferGo (s : State) (v : Word) : State :=
  let s := s.modMet fun m => { m with xferMask := v &&& 0x3FF#32 }
  if bit v 31 then forEach ((allFin 10).filter fun g => bit v g.val) s State.queueTransfer else s
/-- MET_XFER_GO (R144). -/
def execMetXferGo (v : Word) (s : State) : Host.Outcome State Fault Refusal := done (s.bar (s.xferGo v))

/-- A queued transfer starts at a slot boundary on a free owned port (R140, R144, R145): that of the lowest group that waits
and has no substitution. Both rotations of the group pause. In DEVICE_CHRYSALIS transfers wait (R556). -/
def State.transferStart (s : State) (p : Fin 4) : State :=
  if !s.portOwned p || !(s.met.ports[p]).free || !s.met.checks.isEmpty || s.beat.number.toNat % 256 != 0 || s.dev.state == .chrysalis then s
  else match (allFin 10).find? fun g => s.met.queue.contains g && !(s.groups[g]).substituting false && !(s.groups[g]).substituting true with
    | none => s
    | some g =>
        let s := s.modMet fun m => { m with queue := m.queue.erase g }
        let s := s.modPort p fun x => { x with state := .busy, job := .transfer g }
        s.modGroup g fun x =>
          { x with xfer := true, calI := CalRun.reset, calV := CalRun.reset, pausedI := true, pausedV := true }
/-- TRANSFER_START (R145). -/
def execTransferStart (p : Fin 4) (s : State) : Host.Outcome State Fault Refusal := done (s.transferStart p)

/-- A part can be transferred (R145): the range is calibrated, and not too long ago. -/
def State.partValid (s : State) (p : Fin 4) (milli : Bool) : Bool :=
  let x := s.met.ports[p]
  let max := fld s.met.xferCfg 16 6
  (if milli then x.mValid else x.vValid) &&
    (max == 0 || match s.ageSecs (if milli then x.mTime else x.vTime) with
      | some d => decide (d ≤ 30 * 86400 * max) | none => false)

/-- The factory value of the reference gains: 1.0 (log entry 10). -/
def factoryGain : Int := 1073741824

/-- The gain test of R146: within 200 ppm of the factory value, and within 50 ppm of the last accepted transfer. -/
def gainOkXfer (g : Int) (last : Option Int) : Bool :=
  decide ((g - factoryGain).natAbs * 1000000 ≤ 200 * factoryGain.natAbs) &&
    match last with
    | some l => decide ((g - l).natAbs * 1000000 ≤ 50 * l.natAbs)
    | none => true

/-- REFV coefficients from the 17 sums of 16 codes, each rounded once to its register unit (R126, R137, R145): gain, offset,
LIN. -/
def refvCoefs (x : MetPort) (sums : Nat → Int) : Int × Int × List Int :=
  let v := fun j => (x.exact false (sums j) 16).1
  let d := (x.exact false 0 16).2
  let lin := (List.range 17).map fun j =>
    if j = 0 ∨ j = 16 then 0 else divRound (16 * (v j - v 0) - (v 16 - v 0) * (j : Int)) (16 * d)
  (divRound ((v 16 - v 0) * 1073741824) (256 * 6000000 * d), divRound (v 0 + 128000000 * d) d, lin)

/-- REFI coefficients by the REFV line (R137, R145). -/
def refiCoefs (x : MetPort) (vGain vOfs : Int) (sums : Nat → Int) : Int × Int :=
  let i := fun j => (x.exact true (sums j) 16).1
  let d := (x.exact true 0 16).2
  -- REFV at points 0 and 16, less 2,500,000 µV, in 1/256 µV times 2^30
  let r := fun (j : Int) => (-768000000 + vOfs) * 1073741824 + vGain * 96000000 * j
  let dr := r 16 - r 0
  if dr = 0 then (0, 0)
  else (divRound ((i 16 - i 0) * 30 * 1073741824 * 1073741824) (dr * d), divRound (i 0 * dr - (i 16 - i 0) * r 0) (dr * d))

/-- One part of a transfer is rejected (R146). -/
def State.xferReject (s : State) (g : GroupNo) (refi : Bool) : State :=
  (s.raise 17 g.val 0 false false).event .group g.val 12 [if refi then 1 else 0]

/-- A transfer ends with the sums of 16 codes at each point of REFV and REFI (R145, R146). -/
def State.transferDone (s : State) (p : Fin 4) (refv refi : Vector Int 17) : State :=
  match (s.met.ports[p]).job with
  | .transfer g =>
      let x := s.met.ports[p]
      let gr := s.groups[g]
      let (vg, vo, vl) := refvCoefs x fun j => refv.toList.getD j 0
      let doV := s.partValid p false
      let okV := doV && gainOkXfer vg gr.xferV && decide (vo.natAbs ≤ 51200) && vl.all fun l => decide (l.natAbs ≤ 5120)
      let (bg, bo, bl) := if okV then (vg, vo, vl) else (gr.refvGain, gr.refvOfs, gr.refvLin)
      let (ig, io) := refiCoefs x bg bo fun j => refi.toList.getD j 0
      let doI := s.partValid p true
      let okI := doI && gainOkXfer ig gr.xferI && decide (io.natAbs ≤ 2560)
      let (cg, co) := if okI then (ig, io) else (gr.refiGain, gr.refiOfs)
      let code := fun (d ok : Bool) => if ok then 1 else if d then 2 else 3
      let t := s.logTime
      let s := s.modMet fun m =>
        { m with statGroup := g.val, statPort := p.val, statRefv := code doV okV, statRefi := code doI okI }
      let s := s.modGroup g fun y =>
        { y with xfer := false
                 refPending := if okV || okI then some (bg, bo, bl, cg, co) else y.refPending
                 xferV := if okV then some vg else y.xferV, xferI := if okI then some ig else y.xferI
                 rotV := if okV then 0 else y.rotV, rotI := if okI then 0 else y.rotI
                 xferTimeV := if okV then t else y.xferTimeV, xferTimeI := if okI then t else y.xferTimeI
                 xferTime := if okV || okI then t else y.xferTime }
      let s := if doV && !okV then s.xferReject g false else s
      let s := if doI && !okI then s.xferReject g true else s
      s.calAges.portIdle p
  | _ => s
/-- TRANSFER_DONE (R145, R146). -/
def execTransferDone (p : Fin 4) (refv refi : Vector Int 17) (s : State) : Host.Outcome State Fault Refusal :=
  done (s.transferDone p refv refi)

/-- An accepted transfer of a kind is 30 days old, or its age is unknown (R147). -/
def State.transferAged (s : State) (g : GroupNo) (voltage : Bool) : State :=
  s.modGroup g fun x => x.aged voltage (s.transferOld g voltage)
/-- TRANSFER_AGED (R147). -/
def execTransferAged (g : GroupNo) (voltage : Bool) (s : State) : Host.Outcome State Fault Refusal :=
  done (s.transferAged g voltage)

end Sys2Proof.Machine
end

