-- ==== Sys2Proof/Machine/Windows.lean ====
section
/-!
DEFINITION. Window monitors (spec/05_window_monitors.md): crossings and their actions (R157, R164 to R167, R170), their
ends (R168), MOTH decisions (R161), the warn window (R159), mode changes (R162), threshold words (R158), the threshold
readback (R171, R172). Levels are in 1/256 µV: a current threshold LSB is 12,500, a voltage threshold LSB 375,000.
-/
namespace Sys2Proof.Machine

/-! ### Words and levels -/

/-- A window by its number in the events (R287). -/
def winOf (w : Fin 3) : Win := match w with | 0 => .current | 1 => .vtrip | _ => .vwarn
/-- The word of a window. -/
def Group.winWord (g : Group) (p : Fin 16) : Win → Word
  | .current => g.iwin[p]
  | .vtrip => g.vtrip[p]
  | .vwarn => g.vwarn[p]
/-- HIGH and LOW of a window word as codes (R155, R156). -/
def winCodes (w : Win) (v : Word) : Int × Int :=
  let hi := fld v 16 12
  let lo := fld v 0 12
  match w with
  | .current => (signed 12 hi, signed 12 lo)
  | _ => ((hi : Nat), (lo : Nat))
/-- One threshold LSB. -/
def winLsb (w : Win) : Int := match w with | .current => 12500 | _ => 375000
/-- The level of a code (R155, R156). -/
def winLevel (w : Win) (code : Int) : Int := match w with | .current => code * 12500 | _ => -128000000 + code * 375000

/-- The action of a window (R164). -/
def Group.action (g : Group) (p : Fin 16) (w : Win) : Nat :=
  match w with | .current => fld g.wcfg[p] 2 2 | .vtrip => fld g.wcfg[p] 6 2 | .vwarn => fld g.wcfg[p] 8 2

/-! ### Comparators -/

/-- A comparator of a window. -/
def Cmp.get (c : Cmp) (w : Win) (high : Bool) : Bool :=
  match w, high with
  | .current, true => c.hi | .current, false => c.lo | .vtrip, true => c.ov | .vtrip, false => c.uv
  | .vwarn, true => c.wHi | .vwarn, false => c.wLo
def Cmp.put (c : Cmp) (w : Win) (high v : Bool) : Cmp :=
  match w, high with
  | .current, true => { c with hi := v } | .current, false => { c with lo := v } | .vtrip, true => { c with ov := v }
  | .vtrip, false => { c with uv := v } | .vwarn, true => { c with wHi := v } | .vwarn, false => { c with wLo := v }
/-- The crossing of a window opens or ends; the hold of R168 starts anew with either. -/
def Cmp.setIn (c : Cmp) (w : Win) (v : Bool) : Cmp :=
  match w with
  | .current => { c with inI := v, holdI := false }
  | .vtrip => { c with inV := v, holdV := false }
  | .vwarn => { c with inW := v, holdW := false }
def Cmp.setHold (c : Cmp) (w : Win) : Cmp :=
  match w with | .current => { c with holdI := true } | .vtrip => { c with holdV := true } | .vwarn => { c with holdW := true }
/-- The DAC number of a comparator (R171). -/
def dacNo (p : Fin 16) (high : Bool) : Nat := 2 * p.val + if high then 0 else 1
/-- A DAC is FAILED: its comparator counts as asserted (R172). The warn window has none. -/
def Group.dacBad (g : Group) (p : Fin 16) (w : Win) (high : Bool) : Bool :=
  match w with
  | .current => g.dacFailI.getLsbD (dacNo p high)
  | .vtrip => g.dacFailV.getLsbD (dacNo p high)
  | .vwarn => false

def State.modCmp (s : State) (p : PhaseNo) (f : Cmp → Cmp) : State :=
  s.modGroup (groupOf p) fun g => { g with cmp := g.cmp.set (posOf p.val) (f g.cmp[posOf p.val]) }

/-- A comparator of the window is asserted, FAILED DACs among them (R157, R172). -/
def State.winAsserted (s : State) (p : PhaseNo) (w : Win) : Bool :=
  let g := s.groups[groupOf p]
  let c := g.cmp[posOf p.val]
  c.get w true || c.get w false || g.dacBad (posOf p.val) w true || g.dacBad (posOf p.val) w false

/-! ### A crossing (R164 to R167, R170) -/

/-- The sticky bit of an edge (R167). -/
def Group.stick (g : Group) (p : Fin 16) (w : Win) (high : Bool) : Group :=
  let m : Word := 1#32 <<< (p.val + if high then 0 else 16)
  match w with
  | .current => { g with whitI := g.whitI ||| m }
  | .vtrip => { g with whitV := g.whitV ||| m }
  | .vwarn => { g with whitW := g.whitW ||| m }

/-- The channel on which a window acts: that of the phase for a current window, that whose base phase the position is for
a voltage window (R154). -/
def State.winChan (s : State) (p : PhaseNo) : Win → Option ChanNo
  | .current => s.ownerOf p
  | _ => if s.isRun p then some p else none

/-- The pulse of the group's event source (R167). -/
def State.groupIrq (s : State) (g : GroupNo) : State := s.irq ⟨g.val, by omega⟩

/-- The action of a window (R164, R165, R170). -/
def State.winAct (s : State) (p : PhaseNo) (w : Win) (action : Nat) : State :=
  match action with
  | 1 => match s.winChan p w with | some n => s.trip n (.window p w) | none => s
  | 2 =>
      match s.winChan p w with
      | some n =>
          if s.chans[n].state = .off then s
          else (s.latchChannel n).modChan n fun c =>
            { c with latchWins := if c.latchWins.contains (p, w) then c.latchWins else c.latchWins ++ [(p, w)] }
      | none => s
  | 3 =>
      let g := groupOf p
      let s := s.modGroup g fun x =>
        { x with gtHold := if x.gtHold.contains (p.val % 16, w) then x.gtHold else x.gtHold ++ [(p.val % 16, w)]
                 gtWin := w.code, gtPos := p.val % 16 }
      let s := s.lowAll ((allFin 160).filter fun q => groupOf q == g)
      forEach (s.groupChans g) s fun s n => s.trip n (.groupWindow p w)
  | _ => s

/-- A comparator asserts (R157): its sticky bit; where the window was not in crossing the event, the group's interrupt,
WINDOW_TRIP for an action of CHANNEL_TRIP or stronger, and the action. A crossing of a current window always latches
(R164). -/
def State.cross (s : State) (p : PhaseNo) (w : Win) (high : Bool) : State :=
  let g := groupOf p
  let pos := posOf p.val
  let already := (s.cmpOf p).inWin w
  let action := (s.groups[g]).action pos w
  let s := s.modGroup g fun x => x.stick pos w high
  let s := if already then s
    else
      let s := s.modCmp p fun c => c.setIn w true
      let s := s.event .group g.val 4 [byte pos.val, byte w.code, if high then 0 else 1, byte action]
      let s := s.groupIrq g
      if 1 ≤ action then s.raise 19 ((s.winChan p w).getD p).val 0 false false else s
  let s := if w = .current then s.overCurrent p high else s
  if already then s else s.winAct p w action

/-- The comparator of a position asserts. -/
def State.assertCmp (s : State) (p : PhaseNo) (w : Win) (high : Bool) : State :=
  if (s.cmpOf p).get w high then s else (s.modCmp p fun c => c.put w high true).cross p w high

/-- The crossing of a window ends when none of its comparators is asserted (R157); with it a group trip's hold (R170). -/
def State.endCross (s : State) (p : PhaseNo) (w : Win) : State :=
  if !(s.cmpOf p).inWin w || s.winAsserted p w then s
  else
    let s := s.modCmp p fun c => c.setIn w false
    s.modGroup (groupOf p) fun x => { x with gtHold := x.gtHold.filter fun y => y != (p.val % 16, w) }

/-- The comparator of a position de-asserts. -/
def State.deassertCmp (s : State) (p : PhaseNo) (w : Win) (high : Bool) : State :=
  (s.modCmp p fun c => c.put w high false).endCross p w

/-- A comparator pair in MOTH asserts only by its decisions (R161). -/
def Cmp.moth (c : Cmp) (w : Win) : Bool := match w with | .current => c.modeI == 3 | _ => c.modeV == 3

/-- CURRENT_WINDOW_CROSSING (R164): a current comparator of the phase asserts after its filter (R163). -/
def execCurrentWindowCrossing (n : PhaseNo) (high : Bool) (s : State) : Host.Outcome State Fault Refusal :=
  done (if (s.cmpOf n).moth .current then s else s.assertCmp n .current high)

/-- VOLTAGE_TRIP_CROSSING (R164): OV or UV asserts; a position that is not in use never crosses (R166). -/
def execVoltageTripCrossing (n : PhaseNo) (high : Bool) (s : State) : Host.Outcome State Fault Refusal :=
  done (if (s.cmpOf n).moth .vtrip || !s.isRun n then s else s.assertCmp n .vtrip high)

/-- WINDOW_CROSSING_END (R157): a comparator of the current or the trip window de-asserts past its hysteresis. -/
def execWindowCrossingEnd (n : PhaseNo) (voltage high : Bool) (s : State) : Host.Outcome State Fault Refusal :=
  let w := if voltage then Win.vtrip else .current
  done (if (s.cmpOf n).moth w then s else s.deassertCmp n w high)

/-! ### Decisions by value (R157, R159, R161) -/

/-- One comparator against its level with the hysteresis of R157, the input `x` given as `sum / cnt`. -/
def State.decide1 (s : State) (p : PhaseNo) (w : Win) (high inclusive : Bool) (sum cnt : Int) : State :=
  let (hi, lo) := winCodes w ((s.groups[groupOf p]).winWord (posOf p.val) w)
  let h := winLevel w hi * cnt
  let l := winLevel w lo * cnt
  let back := 2 * winLsb w * cnt
  let on := (s.cmpOf p).get w high
  let beyond := if high then decide (h < sum) else decide (sum < l)
  let inside := if high then decide (sum < h - back) || (inclusive && sum == h - back)
                else decide (l + back < sum) || (inclusive && sum == l + back)
  if !on && beyond then s.assertCmp p w high else if on && inside then s.deassertCmp p w high else s

/-- N of MOTH (R161). -/
def mothN (v : Word) : Nat := let n := fld v 16 10; if n = 0 then 1024 else n

/-- MOTH_DECISION (R161): the comparators of the position in MOTH decide in their beat, by the input at the shunt and at
the cell in 1/256 µV. -/
def State.mothDecide (s : State) (p : PhaseNo) (shunt cell : Int) : State :=
  let g := s.groups[groupOf p]
  if !s.beat.running || (s.beat.number.toNat + p.val % 16) % mothN g.wcfg[posOf p.val] != 0 then s
  else
    let s := if (s.cmpOf p).moth .current then (s.decide1 p .current true false shunt 1).decide1 p .current false false shunt 1
             else s
    if (s.cmpOf p).moth .vtrip && s.isRun p then (s.decide1 p .vtrip true false cell 1).decide1 p .vtrip false false cell 1
    else s
/-- MOTH_DECISION (R161). -/
def execMothDecision (n : PhaseNo) (shunt cell : Int) (s : State) : Host.Outcome State Fault Refusal :=
  done (s.mothDecide n shunt cell)

/-- The warn window of a position in use at the boundary that opens the beat of a sample set (R159). -/
def State.warnCheck (s : State) (p : PhaseNo) (x : SampleSet) : State :=
  let v := x.volt[p]
  let sum := (if v.validA then v.a else 0) + (if v.validB then v.b else 0)
  let n : Int := (if v.validA then 1 else 0) + (if v.validB then 1 else 0)
  if n = 0 then s else (s.decide1 p .vwarn true true sum n).decide1 p .vwarn false true sum n

/-! ### Modes (R162) -/

/-- Each kind of comparator of a position takes the mode wanted at a boundary: a slower one at once, a faster one once it
has settled. -/
def Cmp.want (c : Cmp) (i v : Nat) : Cmp :=
  let c := if i = c.nextI then c else if i < c.modeI then { c with nextI := i } else { c with modeI := i, nextI := i }
  if v = c.nextV then c else if v < c.modeV then { c with nextV := v } else { c with modeV := v, nextV := v }

/-- The windows of a position at a boundary: the warn window, comparators powered down with a position out of use, the
modes, a FAILED DAC whose position has come into use. -/
def State.winBoundary (s : State) (x : SampleSet) (p : PhaseNo) : State :=
  let w := (s.groups[groupOf p]).wcfg[posOf p.val]
  let asleep : Option ChanNo → Bool := fun n => match n with | some n => s.chans[n].state == .chrysalis | none => false
  let chry := fld w 10 2
  let i := if asleep (s.ownerOf p) then chry else fld w 0 2
  let v := if asleep (s.winChan p .vtrip) then chry else fld w 4 2
  let c := s.cmpOf p
  let s := if c.want i v = c then s else s.modCmp p fun c => c.want i v
  if s.isRun p then
    let s := s.warnCheck p x
    if s.winAsserted p .vtrip && !(s.cmpOf p).inV then
      s.cross p .vtrip ((s.groups[groupOf p]).dacBad (posOf p.val) .vtrip true)
    else s
  else if c.ov || c.uv || c.wHi || c.wLo || c.inV || c.inW then
    let s := s.modCmp p fun c => (({ c with ov := false, uv := false, wHi := false, wLo := false }).setIn .vtrip false).setIn .vwarn false
    s.modGroup (groupOf p) fun x => { x with gtHold := x.gtHold.filter fun y => y.1 != p.val % 16 || y.2 == .current }
  else s

/-- COMPARATOR_SETTLED (R162): the new mode acts. -/
def execComparatorSettled (n : PhaseNo) (s : State) : Host.Outcome State Fault Refusal :=
  done (if (s.cmpOf n).settling then s.modCmp n fun c => { c with modeI := c.nextI, modeV := c.nextV } else s)

/-- TRIP_HOLD_EXPIRY (R168): a window has been out of crossing for HOLD_MS. -/
def execTripHoldExpiry (n : PhaseNo) (w : Fin 3) (s : State) : Host.Outcome State Fault Refusal :=
  done (if (s.cmpOf n).inWin (winOf w) then s else s.modCmp n fun c => c.setHold (winOf w))

/-! ### Threshold words (R158) and their readback (R171, R172) -/

/-- A write of a window word: refused whole when HIGH ≤ LOW (R158). -/
def State.winStore (s : State) (p : PhaseNo) (w : Win) (v : Word) : State :=
  let v := v &&& 0x0FFF0FFF#32
  let (hi, lo) := winCodes w v
  let pos := posOf p.val
  let bits : BitVec 32 := 3#32 <<< (2 * pos.val)
  s.modGroup (groupOf p) fun g =>
    if hi ≤ lo then { g with wRefused := true, wWord := w.code, wPos := pos.val }
    else match w with
      | .current => { g with iwin := g.iwin.set pos v, rbWrI := g.rbWrI ||| bits, wrBeatI := g.wrBeatI.set pos s.beat.number }
      | .vtrip => { g with vtrip := g.vtrip.set pos v, rbWrV := g.rbWrV ||| bits, wrBeatV := g.wrBeatV.set pos s.beat.number }
      | .vwarn => { g with vwarn := g.vwarn.set pos v }
/-- The offset of a window word in BAR0; word 3 is GRP_WCFG. -/
def winOff (p : PhaseNo) (k : Nat) : Nat := 0x30A00 + 0x1000 * (p.val / 16) + 16 * (p.val % 16) + 4 * k
/-- The write, and the safety monitor's record of the word it leaves (R461). -/
def State.winWrite (s : State) (p : PhaseNo) (w : Win) (v : Word) : State :=
  let s := s.winStore p w v
  s.monitor (winOff p w.code) (s.protected (winOff p w.code))
/-- A write of GRP_WCFG, recorded in the same way. -/
def State.wcfgWrite (s : State) (p : PhaseNo) (v : Word) : State :=
  let w := v &&& 0x03FFFFFF#32
  (s.modGroup (groupOf p) fun g => { g with wcfg := g.wcfg.set (posOf p.val) w }).monitor (winOff p 3) w
/-- WINDOW_THRESHOLD_WRITE (R158). -/
def execWindowThresholdWrite (n : PhaseNo) (w : Fin 3) (v : Word) (s : State) : Host.Outcome State Fault Refusal :=
  done (s.bar (s.winWrite n (winOf w) v))

/-- The mismatch and write marks of the DACs of a kind. -/
def Group.rbBad (g : Group) (voltage : Bool) : BitVec 32 := if voltage then g.rbBadV else g.rbBadI
def Group.setRb (g : Group) (voltage : Bool) (bad wr fail : BitVec 32) : Group :=
  if voltage then { g with rbBadV := bad, rbWrV := wr, dacFailV := fail } else { g with rbBadI := bad, rbWrI := wr, dacFailI := fail }

/-- How far the mean of a visit's 12 corrected values lies from the level of the DAC, as 12 times the distance in 1/256 µV
(R171): the calibrating slice reads by its fresh coefficients, those of its new points; where R129 will not accept them, by
its last accepted ones (log entry 69). -/
def Group.readbackOff (x : Group) (voltage : Bool) (dac : Nat) (raws : Vector (BitVec 16) 12) : Nat :=
  let k := x.out voltage
  let w := if voltage then Win.vtrip else .current
  let sl := x.slice voltage k
  let (gain, ofs, lin) := (x.newCoefs voltage k false (x.cal voltage).pts).getD (sl.gain, sl.ofs, sl.lin)
  let sum := sumL (raws.toList.map fun r => correct voltage gain ofs lin (rawCode voltage r))
  let (hi, lo) := winCodes w (x.winWord (posOf (dac / 2)) w)
  (sum - 12 * winLevel w (if dac % 2 == 0 then hi else lo)).natAbs

/-- A readback visit ends with its 12 raw codes (R171, R172); the visits go round the 32 DACs of the kind (R128). A FAILED DAC
recovers at the first visit without mismatch after a write to its word, mismatches between the two or not (log entry 71). -/
def State.readback (s : State) (g : GroupNo) (voltage : Bool) (raws : Vector (BitVec 16) 12) : State :=
  let x := s.groups[g]
  let b := s.beat.number.toNat % 256
  let k := x.out voltage
  if !s.beat.running || !(x.cal voltage).active || k == 0x1F || !(b == 216 || b == 224 || b == 232 || b == 240) then s
  else
    let dac := (if voltage then x.rbNextV else x.rbNextI) % 32
    let s := s.modGroup g fun x => if voltage then { x with rbNextV := (dac + 1) % 32 } else { x with rbNextI := (dac + 1) % 32 }
    let pos := posOf (dac / 2)
    let high := dac % 2 == 0
    let p := posPhase g pos
    let w := if voltage then Win.vtrip else .current
    let m : BitVec 32 := 1#32 <<< dac
    let wr := if voltage then x.rbWrV else x.rbWrI
    let fail := if voltage then x.dacFailV else x.dacFailI
    let written := wr.getLsbD dac
    let at_w := (if voltage then x.wrBeatV else x.wrBeatI)[pos]
    if written && decide (s.beat.number ≤ at_w + 8) then s
    else
      let dev := x.readbackOff voltage dac raws
      if (4 * 12 * winLsb w).natAbs < dev then
        let d := min 0xFF (divRound dev (12 * winLsb w)).toNat
        let again := (x.rbBad voltage).getLsbD dac
        let s := s.modGroup g fun x =>
          { x.setRb voltage (x.rbBad voltage ||| m) (if fail.getLsbD dac then wr else wr &&& ~~~m) (if again then fail ||| m else fail) with
              rbCount := if x.rbCount = 0xFFFF#16 then x.rbCount else x.rbCount + 1
              rbValid := true, rbKind := voltage, rbDac := dac, rbDev := d }
        if !again then s.raise 18 g.val (at_ dac 24 ||| flagAt voltage 16 ||| at_ d 0) false false
        else if fail.getLsbD dac ∨ (voltage ∧ s.isRun p = false) then s
        else s.cross p w high
      else
        let s := s.modGroup g fun x =>
          x.setRb voltage (x.rbBad voltage &&& ~~~m) (wr &&& ~~~m) (if written then fail &&& ~~~m else fail)
        s.endCross p w
/-- THRESHOLD_READBACK (R171, R172). -/
def execThresholdReadback (g : GroupNo) (voltage : Bool) (raws : Vector (BitVec 16) 12) (s : State) :
    Host.Outcome State Fault Refusal :=
  done (s.readback g voltage raws)

end Sys2Proof.Machine
end

