-- ==== Sys2Proof/Machine/RegChan.lean ====
section
/-!
DEFINITION. The words that the registers read, continued: channel, phase and group windows (register tables of spec/02
to 07 and 17), and the read of any offset of BAR0 with its effect (R12 to R16, R250, R444, R447).
-/
namespace Sys2Proof.Machine

/-! ### Channel windows (spec/03, 06, 07, 17) -/

/-- A register pair whose high half is captured by the read of the low one (registers of spec/07): the pair's value by
the offset of its low word. -/
def Chan.pair (c : Chan) (o : Nat) : Option Nat :=
  let q := fun (v : Int) => twos 64 (visible v)
  match o with
  | 0x90 => some (q c.cur.cnt.runQ) | 0x98 => some (q c.cur.cnt.runE)
  | 0xA0 => some (q c.cur.cnt.stepQ) | 0xA8 => some (q c.cur.cnt.stepE)
  | 0xD4 => some c.estCur.qualCap
  | 0xE8 => some (match c.estCur.grade with | some g => g.beat.toNat | none => 0)
  | _ => none

def Chan.stateWord (c : Chan) : Word :=
  let x := c.cur
  fields [(11, 1, x.loop.lane.isSome.toNat), (10, 1, c.detLapsed.toNat), (9, 1, x.step.running.toNat), (8, 1, x.loop.vclamp.toNat),
          (4, 3, x.step.mode.code), (0, 3, c.state.code)]
def Chan.rcpWord (c : Chan) : Word :=
  let x := c.cur.step
  fields [(24, 8, x.recipe), (16, 8, x.step), (8, 3, x.stack.length), (7, 1, x.intr.isSome.toNat), (6, 1, x.cvReached.toNat),
          (5, 1, x.armed.toNat)]
def Chan.intrWord (c : Chan) : Word :=
  match c.cur.step.intr with
  | some i => fields [(24, 8, i.recipe), (16, 8, i.step), (0, 4, i.reason.code)]
  | none => 0
def Chan.estStat (c : Chan) : Word :=
  let e := c.estCur
  let runs := fun (m : MeasStep) => !m.xPending.isEmpty
  let checks := e.await.any runs || (match e.meas with | some m => runs m | none => false)
  let ovr := match e.meas with | some m => m.countOver | none => false
  fields [(8, 4, e.caps.length), (5, 1, c.ep.rest.isSome.toNat), (4, 1, (e.qualCap != 0).toNat), (3, 1, c.cur.openZ.isSome.toNat),
          (2, 1, checks.toNat), (1, 1, ovr.toNat), (0, 1, e.stale.toNat)]
/-- CH_REF_AGE in seconds; an age of 2^62 beats and more stands for one that is unknown (R236). -/
def Chan.ageWord (c : Chan) (now : Beat) : Word :=
  match c.estCur.ref with
  | some r => let a := r.age now; if 2 ^ 62 ≤ a then BitVec.allOnes 32 else BitVec.ofNat 32 (min 0xFFFFFFFF (a / 1000000))
  | none => BitVec.allOnes 32
def GradeRec.word (g : GradeRec) : Word := fields [(24, 8, g.conf), (16, 4, g.code), (8, 8, g.table), (0, 1, 1)]
/-- CH_TEMP (R528). -/
def TempReading.word (t : TempReading) : Word :=
  let st := if t.failing then 2 else if t.value = -32768 then 0 else 1
  fields [(30, 2, st), (16, 14, if t.value = -32768 then 0x3FFF else min 0x3FFF (t.age / 1000)), (0, 16, twos 16 t.value)]

/-- The staged words of a channel window. -/
def ChanCfg.word (c : ChanCfg) (o : Nat) : Option Word :=
  match o with
  | 0x00 => some c.cfg | 0x04 => some c.ilimHi | 0x08 => some c.ilimLo | 0x0C => some c.vlimHi | 0x10 => some c.vlimLo
  | 0x14 => some c.setI | 0x18 => some c.setV | 0x1C => some c.setP | 0x20 => some c.setR | 0x24 => some c.gain
  | 0x28 => some c.trim
  | _ => none
/-- The words that report a channel's state. DESIGN CHOICE (log entry 66): CH_GOV.K reads the factor k in force from its tenth
period on, also while the reference of a CV mode still glides to it (R119). -/
def Chan.statusWord (c : Chan) (now : Beat) (o : Nat) : Word :=
  let x := c.cur
  match o with
  | 0x34 => fields [(24, 8, c.seq.toNat), (8, 8, c.commitPhase), (0, 5, c.commitResult)]
  | 0x38 => c.commitBeat.setWidth 32 | 0x3C => (c.commitBeat >>> 32).setWidth 32
  | 0x40 => c.stateWord
  | 0x48 => fields [(25, 2, c.gClass.code), (24, 1, c.paused.toNat), (0, 17, c.govK)]
  | 0x4C => wordOf x.iMean | 0x50 => wordOf x.vMean
  | 0x60 => c.rcpWord
  | 0x64 => x.step.stepBeat.setWidth 32 | 0x68 => (x.step.stepBeat >>> 32).setWidth 32
  | 0x6C => fields [(16, 8, x.step.endStep), (8, 8, x.step.endNext), (0, 4, x.step.endCause.code)]
  | 0x70 => c.intrWord
  | 0x74 => c.chry
  | 0x80 => c.estCfg | 0x84 => c.learnT | 0x88 => c.learnRate
  | 0xB0 => c.estStat
  | 0xB4 => c.estCur.socWord
  | 0xB8 => match c.estCur.ref with | some r => wordOf r.value | none => 0
  | 0xBC => c.ageWord now
  | 0xC0 => c.estCur.ztWord 0 | 0xC4 => c.estCur.ztWord 1 | 0xC8 => c.estCur.ztWord 2 | 0xCC => c.estCur.ztWord 3
  | 0xD0 => fields [(16, 16, min 0xFFFF c.estCur.ztCount), (0, 16, twos 16 c.estCur.ztTemp)]
  | 0xDC => wordOf c.estCur.sdpLast
  | 0xE0 => match c.estCur.grade with | some g => g.word | none => 0
  | 0xE4 => match c.estCur.grade with | some g => BitVec.ofNat 32 g.flags | none => 0
  | 0xF0 => c.temp.map | 0xF4 => c.temp.word
  | _ => 0
/-- A read in the window of channel n (R16), and what it captures. -/
def State.readChan (s : State) (n : ChanNo) (o : Nat) : State × Word :=
  if !s.isConf n then (s, 0)
  else
    let c := s.chans[n]
    match c.pair o, c.pair (o - 4), c.staged.word o with
    | some v, _, _ =>
        (s.modChan n fun c => { c with hiCaps := (c.hiCaps.filter fun p => p.1 != o + 4) ++ [(o + 4, hi32 v)] }, lo32 v)
    | none, some _, _ => (s, (match c.hiCaps.find? fun p => p.1 == o with | some p => p.2 | none => 0))
    | none, none, some w => (s, w)
    | none, none, none => (s, c.statusWord s.beat.number o)

/-! ### Phase windows (spec/02, 03, 14) -/

/-- PH_STAT.STATE. -/
def State.phState (s : State) (p : PhaseNo) : PhState :=
  let q := s.phases[p]
  if q.latched then .latched
  else match s.ownerOf p with
    | none => .off
    | some n =>
        let l := s.chans[n].cur.loop
        let k := p.val - n.val
        if !q.switching then (if getB l.tucked k then .tucked else .stopped)
        else if getB l.tucked k then .tucked
        else if (l.tuck == .shed1 || l.tuck == .shed2) && l.shed == k then .shedding
        else if l.lowcell then .lowcell else .switching
/-- PH_CH_STAT. -/
def State.phChStat (s : State) (n : ChanNo) : Word :=
  if s.isRun n then
    let l := s.chans[n].cur.loop
    let b := s.chans[n].band
    let act := s.activePhases n
    fields [(26, 3, s.chans[n].cur.ramp.code), (23, 3, l.tuck.code), (22, 1, l.lowcell.toNat), (21, 1, b.flLimit.toNat),
            (20, 1, (decide (8 ≤ b.locked)).toNat), (16, 4, act.length),
            (0, 8, act.foldl (fun a p => a + 2 ^ (p.val - n.val)) 0)]
  else 0
def State.readPhase (s : State) (p : PhaseNo) (o : Nat) : Word :=
  let q := s.phases[p]
  let c := q.staged
  match o with
  | 0x00 => c.cfg | 0x04 => c.shunt
  | 0x08 => fields [(12, 1, q.sat.toNat), (11, 1, q.minTime.toNat), (10, 1, q.clrRefused.toNat), (9, 1, q.ocLo.toNat),
                    (8, 1, q.ocHi.toNat), (0, 3, (s.phState p).code)]
  | 0x10 => fields [(16, 10, q.band.toNat), (0, 16, q.setpt.toNat)]
  | 0x14 => fields [(24, 8, min 0xFF q.edges), (0, 16, min 0xFFFF q.span)]
  | 0x18 => fields [(16, 3, q.slot), (0, 16, q.slips.toNat)]
  | 0x1C => q.swcnt | 0x20 => q.cenL | 0x24 => q.cenSh | 0x28 => q.cenStat
  | 0x40 => c.base.flock | 0x44 => c.base.bandLim | 0x48 => c.base.tuck | 0x4C => c.base.glideI | 0x50 => c.base.glideV
  | 0x54 => c.base.lowcell | 0x58 => s.phChStat p | 0x5C => c.gang
  | _ => 0

/-! ### Group windows (spec/04, 05) -/

/-- Two entries of a linearity table packed in a word. -/
def linWord (l : List Int) (k : Nat) : Word := fields [(16, 16, if k = 8 then 0 else twos 16 (getI l (2 * k + 1))), (0, 16, twos 16 (getI l (2 * k)))]
def Slice.word (x : Slice) (o : Nat) : Word :=
  match o with
  | 0x00 => wordOf x.ofs | 0x04 => wordOf x.gain
  | 0x08 => fields [(16, 16, x.cals.toNat), (8, 4, if x.role = .serving then x.pos else 0), (4, 2, x.last), (0, 2, x.role.code)]
  | 0x0C => x.raw.setWidth 32
  | _ => if 0x10 ≤ o ∧ o < 0x34 then linWord x.lin ((o - 0x10) / 4) else 0
def mapWord (m : Vector Nat 16) (k : Nat) : Word :=
  fields ((List.range 4).map fun b => (8 * b, 5, m.toList.getD (4 * k + b) 0x1F))
/-- GRP_MSTAT.CAL of a kind (R147). -/
def Group.mstat (g : Group) : Word :=
  let spare := fun (x : Bool) => (List.range 17).any fun k => (g.slice x k).role == .spare || g.out x == k
  fields [(16, 16, g.substCount.toNat), (9, 1, g.xfer.toNat), (8, 1, (g.substs.any Subst.replaces).toNat), (7, 1, (spare true).toNat),
          (6, 1, (spare false).toNat), (2, 2, g.calState true), (0, 2, g.calState false)]
/-- The comparators of a kind as the live registers show them, FAILED DACs asserted (R172). -/
def Group.live (g : Group) (w : Win) : Word :=
  (allFin 16).foldl (fun a p =>
    let c := g.cmp[p]
    let hi := c.get w true || g.dacBad p w true
    let lo := c.get w false || g.dacBad p w false
    a ||| flagAt hi p.val ||| flagAt lo (16 + p.val)) 0
def Group.winRegs (g : Group) (o : Nat) : Word :=
  match o with
  | 0xB00 => g.whitI | 0xB04 => g.whitV | 0xB08 => g.whitW
  | 0xB0C => g.live .current | 0xB10 => g.live .vtrip | 0xB14 => g.whold
  | 0xB20 => fields [(16, 16, g.rbCount.toNat), (15, 1, g.rbValid.toNat), (14, 1, g.rbKind.toNat), (8, 5, g.rbDac), (0, 8, min 0xFF g.rbDev)]
  | 0xB24 => g.dacFailI | 0xB28 => g.dacFailV
  | 0xB2C => fields [(8, 1, g.wRefused.toNat), (4, 2, g.wWord), (0, 4, g.wPos)]
  | 0xB30 => fields [(31, 1, g.gtActive.toNat), (5, 2, g.gtWin), (0, 4, g.gtPos)]
  | _ => 0
def Group.measRegs (g : Group) (now : Beat) (o : Nat) : Word :=
  match o with
  | 0x000 => g.mctrl | 0x004 => g.plaus | 0x008 => g.mstat
  | 0x00C => fields [(16, 16, now.toNat / 256), (8, 5, g.outV), (0, 5, g.outI)]
  | 0x030 => g.failI.setWidth 32 | 0x034 => g.failV.setWidth 32
  | 0x038 => wordOf g.refvGain | 0x03C => wordOf g.refvOfs | 0x040 => wordOf g.refiGain | 0x044 => wordOf g.refiOfs
  | 0x048 => g.xferTime
  | 0x050 => g.diagCtrl
  | 0x054 => fields [(16, 16, min 0xFFFF g.diagRho), (0, 4, g.diagRes)]
  | _ =>
      if 0x010 ≤ o ∧ o < 0x020 then mapWord g.mapI ((o - 0x010) / 4)
      else if 0x020 ≤ o ∧ o < 0x030 then mapWord g.mapV ((o - 0x020) / 4)
      else if 0x060 ≤ o ∧ o < 0x084 then linWord g.refvLin ((o - 0x060) / 4)
      else if 0x100 ≤ o then (match finOf 34 ((o - 0x100) / 64) with | some k => (g.slices[k]).word (o % 64) | none => 0)
      else 0
def Group.word (g : Group) (now : Beat) (o : Nat) : Word :=
  if o < 0xA00 then g.measRegs now o
  else if o < 0xB00 then
    (match finOf 16 ((o - 0xA00) / 16) with
     | some p =>
         (match o % 16 with | 0 => g.iwin[p] | 4 => g.vtrip[p] | 8 => g.vwarn[p] | _ => g.wcfg[p])
     | none => 0)
  else g.winRegs o

/-! ### Any offset of BAR0 -/

/-- The registers whose read has an effect: BEAT_NUM_LO, IC_T2_CLAIM, RTC_SUBSEC, RTC_YEAR. -/
def State.readEffect (s : State) (off : Nat) : Option (State × Word) :=
  match off with
  | 0x2000 => some (s.modBeat fun b => { b with hiCap := (b.number >>> 32).setWidth 32 }, s.beat.number.setWidth 32)
  | 0x4184 => some s.claimT2
  | 0x9000 => some (s.modRtc fun r => { r with shadow := r.now, frozen := true }, BitVec.ofNat 32 s.rtc.now.sub)
  | 0x9018 => some (s.modRtc fun r => { r with frozen := false }, s.readRtc 0x18)
  | _ => none
/-- A read without an effect in a block below 0x1_0000. -/
def State.readBlock (s : State) (off : Nat) : Word :=
  let o := off % 0x1000
  match off / 0x1000 with
  | 0x0 => s.readGlb o | 0x1 => s.readHrg o | 0x2 => s.readBeat o | 0x3 => s.readDom o | 0x4 => s.readIc o | 0x5 => s.readFlt o
  | 0x6 => s.readWdt o | 0x7 => s.readSeq o | 0x8 => s.readHld o | 0x9 => s.readRtc o | 0xA => s.readTw o | 0xB => s.readLnk o
  | 0xC => s.readSec o | 0xD => s.readUpd o | 0xE => s.readMet o | 0xF => s.readSpl o
  | _ => 0
/-- The service window's data registers (R448). -/
def State.readSvc (s : State) (off : Nat) : Option (State × Word) :=
  if off = 0x104 then some (s.svcLo false) else if off = 0x108 then some s.svcHiRead else none

/-- The value that a read of BAR0 offset `off` returns, and the state after its effect. The MSI-X structures are not among
these registers: the ports that read through here read 0 there (R538). -/
def State.regRead (s : State) (off : Nat) : State × Word :=
  match s.dev.state with
  | .otpHold => (s, if off ≤ 8 then (s.glbAlways off).getD 0 else 0)
  | .cocoon =>
      (match s.readSvc off with
       | some r => r
       | none => (s, (s.glbAlways off).getD 0))
  | _ =>
      (match s.readEffect off, s.readSvc off with
       | some r, _ => r
       | none, some r => r
       | none, none =>
           if off < 0x10000 then (s, s.readBlock off)
           else if off < 0x1A000 then
             (match finOf 160 ((off - 0x10000) / 256) with | some n => s.readChan n (off % 256) | none => (s, 0))
           else if off < 0x20000 then (s, 0)
           else if off < 0x2A000 then
             (s, match finOf 160 ((off - 0x20000) / 256) with | some p => s.readPhase p (off % 256) | none => 0)
           else if off < 0x30000 then (s, 0)
           else if off < 0x3A000 then
             (s, match finOf 10 ((off - 0x30000) / 0x1000) with | some g => (s.groups[g]).word s.beat.number (off % 0x1000) | none => 0)
           else (s, 0))

/-- A word of the MSI-X table or of its pending bits (R246, R288): bit 0 of an entry's fourth word reads its mask. -/
def State.msixRead (s : State) (o : Nat) : Word :=
  if o < 0x200 then
    (if o % 16 = 12 then at_ (s.host.msixMask.getLsbD (o / 16)).toNat 0
     else ((s.host.msixTable.find? fun w => w.1 == o).map fun w => w.2).getD 0)
  else if o = 0x800 then s.host.msixPend else 0
/-- A BAR0 read of `width` bytes: a narrow or misaligned one is not performed and returns all ones (R12, R248). -/
def State.barRead (s : State) (off width : Nat) : State × Word :=
  if width < 4 ∨ off % 4 ≠ 0 then (s, 0xFFFFFFFF#32)
  else if 0x3F000 ≤ off ∧ off < 0x40000 ∧ s.dev.state ≠ .otpHold ∧ s.dev.state ≠ .cocoon then (s, s.msixRead (off - 0x3F000))
  else s.regRead off

end Sys2Proof.Machine
end

