-- ==== Sys2Proof/Machine/HostRecords.lean ====
section
/-!
DEFINITION. The records that commands write to the host: READ_STATE (R275, R276; R215, R226, R242, R243), and the blocks
that commands read: recipes (R199), OCV and grade tables (R234, R237), stream blocks (R308).
-/
namespace Sys2Proof.Machine

/-- A signed value in `n` bytes. -/
def leS (n : Nat) (v : Int) : List Byte := leBytes n (twos (8 * n) v)

/-! ### READ_STATE -/

/-- The flags of a channel state record (R276). -/
def State.recFlags (s : State) (n : ChanNo) : Nat :=
  let c := s.chans[n]
  let x := c.cur
  ([c.detLapsed, c.sliceSubst, x.loop.lane.isSome, x.loop.vclamp, x.loop.lowcell, c.paused, x.step.intr.isSome, x.step.cvReached,
    c.estCur.stale, c.estCur.qualCap != 0, x.step.running, c.ep.rest.isSome, decide (8 ≤ c.band.locked)].zipIdx).foldl
    (fun a (b, i) => a + if b then 2 ^ i else 0) 0
/-- The prevailing target while the channel regulates (R276). -/
def State.recTarget (s : State) (n : ChanNo) : Int :=
  let c := s.chans[n]
  match c.state with
  | .run | .glide => if c.cur.step.mode = .rest ∨ c.cur.step.mode = .off then 0 else c.cur.loop.prevail
  | _ => 0
/-- ACTIVE: the active phases of a channel. -/
def State.recActive (s : State) (n : ChanNo) : Nat := (s.activePhases n).foldl (fun a p => a + 2 ^ (p.val - n.val)) 0

/-- The channel state record (R276) of the boundary that opens `opens`. -/
def State.chanRecord (s : State) (n : ChanNo) (opens : Beat) : List Byte :=
  let c := s.chans[n]
  let x := c.cur
  let e := c.estCur
  let gr := match e.grade with | some g => (g.code % 16 + 128, g.conf) | none => (0, 0)
  let intr := match x.step.intr with | some i => i.reason.code | none => 0
  leBytes 8 opens.toNat ++ leBytes 2 n.val ++ [byte c.state.code, byte x.step.mode.code, byte x.step.recipe, byte x.step.step] ++
    leBytes 2 (s.recFlags n) ++ leS 4 x.iMean ++ leS 4 x.vMean ++ leS 4 x.out.iref ++ leS 4 (s.recTarget n) ++
    leS 8 (visible x.cnt.runQ) ++ leS 8 (visible x.cnt.runE) ++ leS 8 (visible x.cnt.stepQ) ++ leS 8 (visible x.cnt.stepE) ++
    leBytes 8 x.step.stepBeat.toNat ++ leBytes 2 e.soc ++ leBytes 2 e.unc ++
    leS 4 (match e.ref with | some r => r.value | none => 0) ++ (List.range 5).flatMap (fun i => leS 4 (getI e.relax i)) ++
    [byte intr, byte (s.recActive n), byte gr.1, byte gr.2] ++ leBytes 4 (e.ztWord 0).toNat ++ leBytes 4 (e.ztWord 3).toNat ++
    leBytes 4 c.govK ++ leS 2 c.temp.value ++ leBytes 2 (s.gang n) ++ List.replicate 8 0

/-- A capacity result (R215). -/
def CapResult.bytes (r : CapResult) : List Byte :=
  leBytes 8 r.endBeat.toNat ++ leS 8 r.charge ++ leS 8 r.energy ++ leBytes 4 r.mask ++ leBytes 2 r.flags ++ leS 2 r.temp ++
    leBytes 4 r.rate ++ leBytes 4 r.efficiency ++ [if r.isCharge then 1 else 0, byte r.step, byte r.recipe, byte r.intr] ++ leS 4 r.vEnd
/-- An impedance record (R226). -/
def ZRec.bytes (r : ZRec) : List Byte :=
  leBytes 8 r.beatE.toNat ++ [byte r.kind, byte r.valid] ++ leS 2 r.temp ++ [byte r.step, 0, 0, 0] ++ leS 4 r.iPre ++ leS 4 r.vPre ++
    (List.range 4).flatMap (fun i => leS 4 (getI r.z i)) ++ (List.range 4).flatMap (fun i => leS 4 (getI r.di i)) ++ List.replicate 8 0
/-- A grade record (R242). -/
def GradeRec.bytes (g : GradeRec) : List Byte :=
  leBytes 8 g.beat.toNat ++ [byte g.table, byte g.code, byte g.conf, byte g.bin] ++ leBytes 4 g.flags ++ leS 8 g.cap25 ++ leS 4 g.zi25 ++
    leS 4 g.z10025 ++ leS 4 g.ocv25 ++ leS 4 g.sd25 ++ [byte g.avail, byte g.recipe, 0, 0] ++ leBytes 4 g.version.toNat ++
    List.replicate 16 0
/-- A lifetime record of a phase (R243); the charge is kept in µA µs. -/
def LifePhase.bytes (l : LifePhase) : List Byte :=
  leS 4 l.peakPos ++ leS 4 l.peakNeg ++ leBytes 8 l.swCycles ++ leBytes 8 (l.throughput / 1000000000) ++ leBytes 4 l.switchSec ++
    leBytes 4 l.contacts

/-- Bytes of a record of a kind (R275). -/
def recordSize (kind : Nat) : Nat :=
  match kind with | 0 => 128 | 1 => 384 | 2 => 1024 | 3 => 64 | _ => 256
/-- The record of a kind of one channel (R275). -/
def State.record (s : State) (kind : Nat) (n : ChanNo) (opens : Beat) : List Byte :=
  if !s.isConf n then
    (if kind = 0 then padTo 128 (List.replicate 8 0 ++ leBytes 2 n.val) else List.replicate (recordSize kind) 0)
  else
    let c := s.chans[n]
    match kind with
    | 0 => s.chanRecord n opens
    | 1 => padTo 384 (c.estCur.caps.flatMap CapResult.bytes)
    | 2 => padTo 1024 (c.estCur.zring.flatMap ZRec.bytes)
    | 3 => (match c.estCur.grade with | some g => g.bytes | none => List.replicate 64 0)
    | _ => padTo 256 ((s.phasesOf n).flatMap fun p => s.phases[p].life.bytes)

/-! ### Recipe images (R199, R271) -/

/-- A channel runs the recipe or holds an interruption record for it (R176), as one restored before its channel is committed
again does (R400). -/
def State.recipeInUse (s : State) (k : Nat) : Bool :=
  (allFin 160).any fun n =>
    let st := s.chans[n].cur.step
    (s.isRun n && st.running && st.recipe == k) || (match st.intr with | some i => i.recipe == k | none => false)
/-- The checks of R271 and R199 on an image under a number: status and DETAIL, or none. -/
def State.recipeCheck (s : State) (k : Nat) (bs : List Byte) : Option (Nat × Nat) :=
  let r := parseRecipe bs
  let n := getLe bs 4 2
  let old := match s.recipeNo k with | some r => r.steps.length + 1 | none => 0
  if !headerOk bs || r.number != k then some (16, 0)
  else if bs.length ≠ 64 * (n + 1) then some (3, 0)
  else if recipeCrc bs n ≠ r.crc then some (17, 0)
  else if s.recipeInUse k then some (18, 0)
  else if 16384 < s.store.used - old + (n + 1) then some (19, 0)
  else stepChecks r.steps r.gradeTable

/-! ### OCV and grade tables (R234, R237, R269) -/

def parseOcv (bs : List Byte) : OcvTable :=
  { unc := getLe bs 6 2, beta := getLeS bs 8 4, points := (List.range 21).map fun i => getLeS bs (0x0C + 4 * i) 4
    shared := getLe bs 4 2 % 2 == 1, image := bs }
/-- No value is below the one before it. -/
def rising (l : List Int) : Bool := (l.zip (l.drop 1)).all fun p => decide (p.1 ≤ p.2)
/-- The status of an OCV table; 0 accepted. -/
def ocvCheck (bs : List Byte) : Nat :=
  if getLe bs 0 2 ≠ 0x4F43 ∨ getLe bs 2 1 ≠ 1 ∨ 3 < getLe bs 3 1 ∨ 1 < getLe bs 4 2 then 16
  else if getLe bs 0x60 4 ≠ (crc32 (slice bs 0 0x60)).toNat then 17
  else if !rising (parseOcv bs).points then 12 else 0

def parseBin (bs : List Byte) : GradeBin :=
  { code := getLe bs 0 1, mask := getLe bs 1 1
    mins := [getLe bs 4 8, getLe bs 0x14 4, getLe bs 0x1C 4, getLeS bs 0x24 4, getLeS bs 0x2C 4]
    maxs := [getLe bs 0x0C 8, getLe bs 0x18 4, getLe bs 0x20 4, getLeS bs 0x28 4, getLeS bs 0x30 4] }
def gradeBinBytes (bs : List Byte) (i : Nat) : List Byte := slice bs (64 * (i + 1)) 64
def parseGrade (bs : List Byte) : GradeTable :=
  { required := getLe bs 6 1, fallback := getLe bs 7 1, alphas := (List.range 5).map fun i => getLeS bs (8 + 4 * i) 4
    us := (List.range 5).map fun i => getLe bs (0x1C + 4 * i) 4
    bins := (List.range (getLe bs 4 1)).map fun i => parseBin (gradeBinBytes bs i), shared := getLe bs 5 1 % 2 == 1, image := bs }
/-- A bin keeps R237. -/
def binOk (bs : List Byte) : Bool :=
  let b := parseBin bs
  b.code ≤ 15 && getLe bs 2 2 == 0 && getLe bs 0x34 12 == 0 &&
    (List.range 5).all fun k => !b.tests k || decide (getI b.mins k ≤ getI b.maxs k)
/-- The status of a grade table; 0 accepted. -/
def gradeCheck (bs : List Byte) : Nat :=
  let n := getLe bs 4 1
  if getLe bs 0 2 ≠ 0x4754 ∨ getLe bs 2 1 ≠ 1 ∨ 15 < getLe bs 3 1 ∨ n = 0 ∨ 16 < n ∨ 1 < getLe bs 5 1 ∨ 15 < getLe bs 7 1 ∨
      getLe bs 0x30 12 ≠ 0 then 16
  else if bs.length ≠ 64 * (n + 1) then 3
  else if getLe bs 0x3C 4 ≠ (crc32 (slice bs 0 0x3C ++ slice bs 64 (64 * n))).toNat then 17
  else if !((List.range n).all fun i => binOk (gradeBinBytes bs i)) then 12 else 0

/-! ### Stream blocks (R308, R306) -/

def streamMagic (bs : List Byte) : Bool := getLe bs 0 2 == 0x5453 && getLe bs 2 1 == 1
/-- What a stream block writes to the registers of its stream. -/
def Stream.put (x : Stream) (bs : List Byte) : Stream :=
  { x with
    baseLo := BitVec.ofNat 32 (getLe bs 0x10 4), baseHi := BitVec.ofNat 32 (getLe bs 0x14 4)
    cfg := at_ (getLe bs 3 1) 24 ||| at_ (getLe bs 0x0C 1) 16 ||| at_ (getLe bs 5 1) 10 ||| at_ (getLe bs 6 1) 8 |||
             at_ (getLe bs 7 1) 5 ||| at_ (getLe bs 4 1) 0
    shape := at_ (getLe bs 0x0A 2) 16 ||| at_ (getLe bs 8 2) 0
    mask := Vector.ofFn fun j => BitVec.ofNat 32 (getLe bs (0x18 + 4 * j.val) 4) }
/-- The reason of R306 for a block that enables a stream; 0 when it passes. -/
def State.blockCheck (s : State) (bs : List Byte) (r : StreamRun) : Nat :=
  if getLe bs 0x0D 3 ≠ 0 ∨ getLe bs 0x2C 20 ≠ 0 then 1
  else if 2 < getLe bs 6 1 ∨ 7 < getLe bs 7 1 then 2
  else
    let c := s.streamCheck { r with unit := if 6 < getLe bs 5 1 then 64 else r.unit, size := min 17 (getLe bs 4 1) }
    if 6 < getLe bs 5 1 ∧ c ≠ 2 ∧ c ≠ 3 then 4 else c

end Sys2Proof.Machine
end

