-- ==== Sys2Proof/Machine/RtcClock.lean ====
section
/-!
DEFINITION. The real-time clock (R402 to R407 of spec/12_holdup_rtc.md).
-/
namespace Sys2Proof.Machine

/-- A calendar value that exists (R404, R406). -/
def Cal.ok (c : Cal) : Bool :=
  c.sub ≤ 32767 && c.sec ≤ 59 && c.min ≤ 59 && c.hour ≤ 23 && 1 ≤ c.month && c.month ≤ 12 && 2000 ≤ c.year &&
    c.year ≤ 2199 && 1 ≤ c.day && c.day ≤ monthDays c.year c.month

/-- The calendar one second on (R404), and whether it has come to its end. -/
def Cal.tick (c : Cal) : Cal × Bool :=
  let c := { c with sub := 0 }
  if c.sec < 59 then ({ c with sec := c.sec + 1 }, false)
  else if c.min < 59 then ({ c with sec := 0, min := c.min + 1 }, false)
  else if c.hour < 23 then ({ c with sec := 0, min := 0, hour := c.hour + 1 }, false)
  else if c.day < monthDays c.year c.month then
    ({ c with sec := 0, min := 0, hour := 0, day := c.day + 1 }, false)
  else if c.month < 12 then ({ c with sec := 0, min := 0, hour := 0, day := 1, month := c.month + 1 }, false)
  else if c.year < 2199 then
    ({ c with sec := 0, min := 0, hour := 0, day := 1, month := 1, year := c.year + 1 }, false)
  else (c, true)

/-- An alarm matches (R407): enabled, and every field whose mask bit is 0 equals the calendar's. -/
def alarmMatches (t d : Word) (c : Cal) : Bool :=
  let m := fun (i : Nat) (ok : Bool) => bit d (24 + i) || ok
  bit d 31 && m 0 (fld t 0 6 == c.sec) && m 1 (fld t 8 6 == c.min) && m 2 (fld t 16 5 == c.hour) &&
    m 3 (fld t 24 5 == c.day) && m 4 (fld d 0 4 == c.month) && m 5 (fld d 16 8 + 2000 == c.year)

/-- One second boundary: the calendar, the alarms (R404, R407). -/
def State.rtcSecond (s : State) : State :=
  let (c, ended) := s.rtc.now.tick
  let a := alarmMatches s.rtc.almAT s.rtc.almAD c
  let b := alarmMatches s.rtc.almBT s.rtc.almBD c
  let s := s.modRtc fun r => { r with now := c, valid := r.valid && !ended, aonSec := r.aonSec + 1
                                      almA := r.almA || a, almB := r.almB || b }
  let s := if ended then s.calAges else s
  let s := if a then s.aonEvent 75 [0] else s
  if b then s.aonEvent 75 [1] else s

/-- The RTC domain resets (R403). -/
def State.rtcReset (s : State) : State :=
  let s := s.modRtc fun r =>
    { Rtc.reset with onVrtc := r.onVrtc, switchDue := r.switchDue, aonSec := r.aonSec, resetDue := true }
  let s := s.modFlt fun f => { f with rtcCopy := none, ffLost := true }
  let s := s.modHold fun h => { h with rtCount := 0, rtMs := 0 }
  (s.modWdt fun w => { w with supCount := 0, allCount := 0 }).calAges

/-- RTC_SWITCH (R402): the supply of the domain changes; the event is raised at once or at the next start. -/
def execRtcSwitch (toVrtc : Bool) (s : State) : Host.Outcome State Fault Refusal :=
  let d := if toVrtc then 1 else 0
  done ((
    if s.rtc.onVrtc = toVrtc then s
    else
      let s := s.modRtc fun r => { r with onVrtc := toVrtc }
      if s.coreUp then s.devEvent 73 [byte d] else s.modRtc fun r => { r with switchDue := r.switchDue ++ [d] }))

/-- RTC_RESET (R403). -/
def execRtcReset (s : State) : Host.Outcome State Fault Refusal := done s.rtcReset

/-- RTC_SECOND (R404, R407). -/
def execRtcSecond (s : State) : Host.Outcome State Fault Refusal := done (s.rtcSecond)

/-- RTC_OSC_FAIL (R404): TIME_VALID clears and RTC_OSC is raised. -/
def execRtcOscFail (s : State) : Host.Outcome State Fault Refusal :=
  done ((if s.rtc.valid then ((s.modRtc fun r => { r with valid := false }).calAges).raiseDev 41 0 else s))

/-- A read of RTC_SUBSEC (R405): every field is frozen in the shadows; `sub` is the sub-second counter at the read. -/
def State.subsecRead (s : State) (sub : Nat) : State :=
  let s := s.modRtc fun r => { r with now := { r.now with sub := sub % 32768 } }
  let s := s.modRtc fun r => { r with shadow := r.now, frozen := true }
  s.send (.readReply (BitVec.ofNat 32 s.rtc.shadow.sub))
/-- RTC_SUBSEC_READ (R405). -/
def execRtcSubsecRead (sub : Nat) (s : State) : Host.Outcome State Fault Refusal :=
  done (if s.reads then s.subsecRead sub else s.send (.readReply 0))

/-- A read of RTC_YEAR (R405): the year is read and the shadows are released. -/
def State.yearRead (s : State) : State :=
  let y := if s.rtc.frozen then s.rtc.shadow.year else s.rtc.now.year
  (s.modRtc fun r => { r with frozen := false }).send (.readReply (BitVec.ofNat 32 y))
/-- RTC_YEAR_READ (R405). -/
def execRtcYearRead (s : State) : Host.Outcome State Fault Refusal :=
  done (if s.reads then s.yearRead else s.send (.readReply 0))

/-- SHADOW_TIMEOUT (R405). -/
def execShadowTimeout (s : State) : Host.Outcome State Fault Refusal :=
  done ((s.modRtc fun r => { r with frozen := false }))

/-- A write of RTC_CTRL (R406): LOAD checks the set buffer and loads it whole, or refuses it whole. -/
def State.rtcCtrl (s : State) (v : Word) : State :=
  if bit v 0 then
    (if s.rtc.setBuf.ok then (s.modRtc fun r => { r with now := r.setBuf, valid := true }).calAges
     else s.modRtc fun r => { r with setRefused := true })
  else s

/-- RTC_LOAD (R406). -/
def execRtcLoad (v : Word) (s : State) : Host.Outcome State Fault Refusal := done (s.bar (s.rtcCtrl v))

end Sys2Proof.Machine
end

