-- ==== Sys2Proof/Machine/RegWrite.lean ====
section
/-!
DEFINITION. Writes to BAR0 (R12 to R16, R444, R447, R250): every register acts under its access code (R13); a register that
has a row of its own in the opcode table acts through the same operation as that row. Reserved bits are not stored (R14).
-/
namespace Sys2Proof.Machine

/-- A pair of base registers (R254). -/
def setLo (b : BitVec 64) (v : Word) : BitVec 64 := (b >>> 32 <<< 32) ||| v.setWidth 64
def setHi (b : BitVec 64) (v : Word) : BitVec 64 := (b <<< 32 >>> 32) ||| (v.setWidth 64 <<< 32)

/-! ### 0x0_0000 -/

/-- GLB_STATE (W1C). -/
def State.glbStateWrite (s : State) (v : Word) : State :=
  s.modDev fun d => { d with chryRefused := d.chryRefused && !bit v 17, rstRefused := d.rstRefused && !bit v 16 }
/-- GLB_SVC_ADDR and GLB_SVC_STAT, where the window acts (R448). -/
def State.svcAddr (s : State) (v : Word) : State :=
  if s.svcActs then s.modDev fun d => { d with svcArea := bit v 31, svcIndex := fld v 0 13 } else s
def State.svcStat (s : State) (v : Word) : State :=
  s.modDev fun d => { d with svcRange := d.svcRange && !bit v 1, svcNvErr := d.svcNvErr && !bit v 0 }
/-- What COCOON leaves of the block (R447). -/
def State.writeStatus (s : State) (o : Nat) (v : Word) : State :=
  match o with
  | 0x004 => s.glbStateWrite v | 0x00C => s.glbCtrl v | 0x100 => s.svcAddr v | 0x10C => s.svcStat v
  | _ => s
def State.writeGlb (s : State) (o : Nat) (v : Word) : State :=
  match o with
  | 0x010 => s.cenCfg v
  | 0x400 => s.modGov fun g => { g with budget := v }
  | 0x404 => s.modGov fun g => { g with cfg := v &&& 0x1FFFF#32 }
  | 0x440 => s.modStore fun t => { t with hsCfg := v }
  | 0x444 => s.modStore fun t => { t with hsLimit := v &&& 0xFFFF#32 }
  | _ => s.writeStatus o v

/-! ### 0x0_1000 -/

def State.modRings (s : State) (f : Ring → Ring) (k : Nat) : State :=
  s.modHost fun h =>
    match k with | 0 => { h with cmdq := f h.cmdq } | 1 => { h with cplq := f h.cplq } | _ => { h with evtq := f h.evtq }
def State.writeTsq (s : State) (k : Fin 8) (o : Nat) (v : Word) (cyc : Nat) : State :=
  match o with
  | 0x00 => s.modStream k fun x => { x with baseLo := v }
  | 0x04 => s.modStream k fun x => { x with baseHi := v }
  | 0x08 => s.tsqCfg k v cyc
  | 0x0C => s.modStream k fun x => { x with shape := v }
  | 0x10 => s.modStream k fun x => { x with full := x.full && !bit v 31, stall := x.stall && !bit v 30 }
  | _ => s
def State.writeHrg (s : State) (o : Nat) (v : Word) (cyc : Nat) : State :=
  match o with
  | 0x08 => s.cmdqCfg v | 0x18 => s.cplqCfg v | 0x28 => s.evtqCfg v
  | 0x0C => s.modHost fun h => { h with fetchErr := h.fetchErr && !bit v 31 }
  | 0x40 => s.modHost fun h => { h with cfgErr := h.cfgErr && !bit v 2, dbErr := h.dbErr && !bit v 1 }
  | 0x800 => s.dbCmdq v | 0x804 => s.dbCplq v | 0x808 => s.dbEvtq v
  | _ =>
      if o < 0x30 then
        (if o % 16 = 0 then s.modRings (fun r => { r with baseReg := setLo r.baseReg v }) (o / 16)
         else if o % 16 = 4 then s.modRings (fun r => { r with baseReg := setHi r.baseReg v }) (o / 16) else s)
      else if 0x100 ≤ o ∧ o < 0x200 then
        (match finOf 8 ((o - 0x100) / 32) with | some k => s.writeTsq k (o % 32) v cyc | none => s)
      else if 0x200 ≤ o ∧ o < 0x300 then
        (match finOf 8 ((o - 0x200) / 32), finOf 5 (o % 32 / 4) with
         | some k, some j => s.modStream k fun x => { x with mask := x.mask.set j v }
         | _, _ => s)
      else if 0x820 ≤ o then (match finOf 8 ((o - 0x820) / 4) with | some k => s.dbTsq k v | none => s)
      else s

/-! ### 0x0_2000 and 0x0_3000 -/

def State.writeBeat (s : State) (o : Nat) (v : Word) (cyc : Nat) : State :=
  if o = 0x30 then s.peakClear v
  else if 0x40 ≤ o then (match finOf 10 ((o - 0x40) / 4) with | some g => s.budgetSet g v cyc | none => s)
  else s
/-- DOM_CFG: LOCK stays until reset; ADDR changes only while it is 0 and EN is 0 (R13, R316). -/
def State.domCfg (s : State) (v : Word) : State :=
  s.modDom fun d =>
    let m : Word := 0x83FF0000#32 ||| if bit d.cfg 31 || d.en then 0 else 0x3FF#32
    { d with cfg := maskWrite d.cfg v m ||| (d.cfg &&& 0x80000000#32) }
def State.writeDom (s : State) (o : Nat) (v : Word) : State :=
  match o with
  | 0x00 => s.domCtrl v | 0x04 => s.domCfg v | 0x08 => s.modDom fun d => { d with leadReg := fld v 0 16 }
  | 0x0C => s.modDom fun d => { d with addrConflict := d.addrConflict && !bit v 22, strapConflict := d.strapConflict && !bit v 21 }
  | 0x30 => s.barRel v | 0x44 => s.domStage v | 0x60 => s.domAct v
  | 0x64 => s.modDom fun d => { d with act := { d.act with bar := v } }
  | 0x70 => s.modDom fun d => { d with dig := { d.dig with misValid := d.dig.misValid && !bit v 10 } }
  | _ =>
      if 0x48 ≤ o then
        (match finOf 5 ((o - 0x48) / 4) with
         | some j => s.modDom fun d => { d with stage := { d.stage with mask := d.stage.mask.set j v } }
         | none => s)
      else s

/-! ### 0x0_4000 to 0x0_6000 -/

def State.writeIc (s : State) (o : Nat) (v : Word) : State :=
  if o < 0x100 then (match finOf 64 (o / 4) with | some k => s.icSrcWrite k v | none => s)
  else if o < 0x140 then
    (match finOf 16 ((o - 0x100) / 4) with
     | some m => s.modIc fun c =>
         { c with bank := c.bank.set 2 ((c.bank[2]).set m
                            { (c.bank[2])[m] with sense := BitVec.ofNat 2 (fld v 8 2), prio := BitVec.ofNat 4 (fld v 0 4) }) }
     | none => s)
  else match o with
    | 0x180 => s.modIc fun c => { c with thresh := c.thresh.set 2 (BitVec.ofNat 4 (fld v 0 4)) }
    | 0x188 => s.completeT2 v
    | 0x18C => s.modIc fun c => { c with routeRefused := c.routeRefused && !bit v 17, badComplete := c.badComplete && !bit v 16 }
    | 0x1A0 => s.modIc fun c => { c with soft := v.setWidth 8 }
    | _ => s
/-- FLT_CFG: LOCK stays until reset and locks S4_BOARD_OFF (R456). -/
def State.fltCfg (s : State) (v : Word) : State :=
  s.modFlt fun f => { f with lock := f.lock || bit v 31, s4BoardOff := if f.lock then f.s4BoardOff else bit v 1 }
/-- FLT_WB_CFG: the lock leaves AUTO_HOLD writable (R456, R466, R467); the safety monitor records the word (R461). -/
def State.wbCfg (s : State) (v : Word) : State :=
  let s := s.modFlt fun f =>
    { f with autoHold := bit v 1, wbSev := if f.lock then f.wbSev else BitVec.ofNat 3 (fld v 4 3)
             modeReg := if f.lock then f.modeReg else bit v 0 }
  s.monitor 0x5018 s.flt.wbCfgWord
def State.writeFlt (s : State) (o : Nat) (v : Word) : State :=
  match o with
  | 0x00 => s.firstClear v
  | 0x10 => s.modFlt fun f => { f with wbRefused := f.wbRefused && !bit v 10, injRefused := f.injRefused && !bit v 9 }
  | 0x14 => s.fltCfg v | 0x18 => s.wbCfg v | 0x1C => s.wbCtrl v | 0x20 => s.fltSoft v | 0x24 => s.fltInject v | 0x28 => s.testKey v
  | _ =>
      if 0x40 ≤ o ∧ o < 0x80 then (match finOf 16 ((o - 0x40) / 4) with | some j => s.fltSevWrite j v | none => s)
      else if 0x90 ≤ o then (match finOf 4 ((o - 0x90) / 4) with | some j => s.hitClear j v | none => s)
      else s
/-- WDT_KEY and WDT_CHECKIN answer to the T0 port alone (R479, R480): BAR0 does not reach them. -/
def State.writeWdt (s : State) (o : Nat) (v : Word) : State :=
  match o with
  | 0x00 => s.wdtCtrl v
  | 0x04 => if s.wdt.lock then s else s.modWdt fun w => { w with cfg := v &&& 0x030FFFFF#32 }
  | 0x08 => if s.wdt.lock then s else s.modWdt fun w => { w with tasks := v.setWidth 8 }
  | 0x14 => s.modWdt fun w => { w with keyRefused := w.keyRefused && !bit v 30 }
  | _ => s

/-! ### 0x0_7000 to 0x0_9000 -/

def State.modProfile (s : State) (k : Fin 12) (f : SlotCfg → SlotCfg) : State :=
  s.modSeq fun q => { q with profile := { q.profile with slots := q.profile.slots.set k (f q.profile.slots[k]) } }
def State.writeSlot (s : State) (k : Fin 12) (o : Nat) (v : Word) : State :=
  match o with
  | 0x00 => s.modProfile k fun c => { c with cfg := v &&& 0xE3FFFFFF#32 }
  | 0x04 => s.modProfile k fun c => { c with dly := v }
  | 0x08 => s.modProfile k fun c => { c with win := v &&& 0x0FFF0FFF#32 }
  | 0x0C => s.modProfile k fun c => { c with off := v &&& 0xFFF#32 }
  | 0x10 => s.marginWrite k v
  | _ => s
def State.writeSeq (s : State) (o : Nat) (v : Word) : State :=
  match o with
  | 0x00 => s.profileStore v true
  | 0x04 => s.modSeq fun q => { q with profile := { q.profile with cfg := v &&& 0x0006FF07#32 } }
  | 0x08 => s.modSeq fun q => { q with storeErr := q.storeErr && !bit v 10 }
  | _ =>
      if 0x10 ≤ o ∧ o < 0x20 then (match finOf 4 ((o - 0x10) / 4) with | some j => s.seqRstWrite j v | none => s)
      else if 0x100 ≤ o then (match finOf 12 ((o - 0x100) / 32) with | some k => s.writeSlot k (o % 32) v | none => s)
      else s
/-- HLD_ICHG: values outside their ranges are clamped into them. -/
def clampIchg (v : Word) : Word :=
  let c := fun (lo hi x : Nat) => max lo (min hi x)
  fields [(24, 5, c 5 30 (fld v 24 5)), (12, 9, c 10 300 (fld v 12 9)), (0, 12, c 100 3000 (fld v 0 12))]
def State.writeHld (s : State) (o : Nat) (v : Word) : State :=
  match o with
  | 0x00 => s.hldCfg v
  | 0x04 => s.modHold fun h => { h with ichg := clampIchg v }.redrive
  | 0x08 => s.modHold fun h => { h with timer := v &&& 0x00FF000F#32 }
  | 0x0C =>
      let s := s.modHold fun h => { h with ntcCfg := v &&& 0xFFFFFF01#32 }
      if bit v 0 then s else s.ntcValid.ntcSet 2
  | 0x10 => s.modHold fun h => { h with timerExp := h.timerExp && !bit v 13, shortSeen := h.shortSeen && !bit v 12 }
  | 0x2C => s.modHold fun h => { h with capNom := v }
  | 0x30 => s.modHold fun h => { h with estCfg := v &&& 0xFFFF0700#32 }
  | 0x34 => s.hldCtrl v
  | _ => s
/-- A write of a calendar register fills the set buffer (R406). -/
def Cal.put (c : Cal) (o : Nat) (v : Word) : Cal :=
  match o with
  | 0x00 => { c with sub := fld v 0 15 } | 0x04 => { c with sec := fld v 0 6 } | 0x08 => { c with min := fld v 0 6 }
  | 0x0C => { c with hour := fld v 0 5 } | 0x10 => { c with day := fld v 0 5 } | 0x14 => { c with month := fld v 0 4 }
  | _ => { c with year := fld v 0 16 }
def State.writeRtc (s : State) (o : Nat) (v : Word) : State :=
  if o ≤ 0x18 then s.modRtc fun r => { r with setBuf := r.setBuf.put o v }
  else match o with
    | 0x1C => s.rtcCtrl v
    | 0x20 =>
        (s.modRtc fun r => { r with setRefused := r.setRefused && !bit v 5, almB := r.almB && !bit v 4, almA := r.almA && !bit v 3 }).modFlt
          fun f => { f with ffLost := f.ffLost && !bit v 2 }
    | 0x24 => s.modRtc fun r => { r with almAT := v &&& 0x1F1F3F3F#32 }
    | 0x28 => s.modRtc fun r => { r with almAD := v &&& 0xBFFF000F#32 }
    | 0x2C => s.modRtc fun r => { r with almBT := v &&& 0x1F1F3F3F#32 }
    | 0x30 => s.modRtc fun r => { r with almBD := v &&& 0xBFFF000F#32 }
    | _ => s

/-! ### 0x0_B000, 0x0_C000, 0x0_E000, 0x0_F000 -/

def State.writePort (s : State) (x : Fin 2) (o : Nat) (v : Word) : State :=
  match o with
  | 0x00 => s.lnkCtrl x v
  | 0x08 => s.modLink x fun p => { p with evt := p.evt &&& ~~~v }
  | 0x24 => s.modLink x fun p => if 100 ≤ fld v 0 14 ∧ fld v 0 14 ≤ 10000 then { p with shunt := fld v 0 14 } else p
  | 0x28 => s.modLink x fun p => { p with ocp := fld v 0 8 }
  | _ => s
def State.writeLnk (s : State) (o : Nat) (v : Word) : State :=
  let s := if o < 0x100 then s.writePort 0 o v else if o < 0x200 then s.writePort 1 (o - 0x100) v
    else if o = 0x204 then { s with links := { s.links with total := v } } else s
  s.linkReview
def State.writeSec (s : State) (o : Nat) (v : Word) : State :=
  match o with
  | 0x00 => s.secCtrl v
  | 0x04 => s.modSec fun c => { c with mapRefused := c.mapRefused && !bit v 17 }
  | 0x10 => s.modSec fun c => { c with otpAddr := v &&& 0x1FF#32 }
  | 0x14 => s.modSec fun c => { c with otpData := v }
  | 0x18 => s.otpCmd v
  | 0x40 => s.modSec fun c => { c with trayCfg := v &&& 0xFF#32 }
  | _ =>
      if 0x60 ≤ o ∧ o < 0xB0 then
        (match finOf 4 ((o - 0x60) / 20), finOf 5 ((o - 0x60) % 20 / 4) with
         | some t, some j => s.trayMap t j v
         | _, _ => s)
      else if 0x100 ≤ o then
        (match finOf 8 ((o - 0x100) / 4) with
         | some k => s.modSec fun c => { c with nonce := c.nonce.set k v }
         | none => s)
      else s
/-- MET_CAL: STEP (R141). -/
def State.metCal (s : State) (p : Fin 4) (v : Word) : State :=
  match fld v 0 3 with
  | 1 => (s.calZero p).1 | 2 => (s.calFull p).1 | 3 => (s.calStore p).1 | 4 => s.calAbort p
  | _ => s
def State.writeMet (s : State) (o : Nat) (v : Word) : State :=
  if o < 0x100 then
    (match finOf 4 (o / 64) with
     | some p =>
         (match o % 64 with
          | 0x00 => s.metCtrl p v | 0x10 => s.metCal p v | 0x14 => s.modPort p fun x => { x with calVal := v }
          | _ => s)
     | none => s)
  else match o with
    | 0x100 => s.metOwnWrite v
    | 0x104 => s.modMet fun m => { m with xferCfg := v &&& 0x003F001F#32 }
    | 0x108 => s.xferGo v
    | 0x110 => s.modMet fun m => { m with xchkV := v }
    | 0x114 => s.modMet fun m => { m with xchkI := v }
    | _ => s
def State.writeSpl (s : State) (o : Nat) (v : Word) : State :=
  match o with
  | 0x00 => s.modLane fun l => { l with en := bit v 0 }
  | 0x04 => s.modLane fun l =>
      { l with frameSeen := l.frameSeen && !bit v 10, crcSeen := l.crcSeen && !bit v 9, ovf := l.ovf && !bit v 8 }
  | _ => s

/-! ### Windows of channels, phases and groups -/

/-- A staged word of a channel window. -/
def ChanCfg.put (c : ChanCfg) (o : Nat) (v : Word) : ChanCfg :=
  match o with
  | 0x00 => { c with cfg := v &&& 0x307#32 } | 0x04 => { c with ilimHi := v } | 0x08 => { c with ilimLo := v }
  | 0x0C => { c with vlimHi := v } | 0x10 => { c with vlimLo := v } | 0x14 => { c with setI := v } | 0x18 => { c with setV := v }
  | 0x1C => { c with setP := v } | 0x20 => { c with setR := v } | 0x24 => { c with gain := v }
  | 0x28 => { c with trim := v &&& 0xFF#32 }
  | _ => c
/-- What a write of an estimator register leaves for the next boundary (R24): a write too late for it keeps what stood. -/
def Chan.estWrite (c : Chan) (now due : Beat) : Chan :=
  let late := match c.estLate with | some l => decide (now + 1 < l.due) | none => false
  if now + 1 < due ∧ late = false then
    { c with estLate := some { due := due, cfg := c.estCfg, learnT := c.learnT, learnRate := c.learnRate } }
  else c

/-- A write in the window of a channel; one that is not configured ignores it (R16). -/
def State.writeChan (s : State) (n : ChanNo) (o : Nat) (v : Word) (cyc : Nat) : State :=
  if !s.isConf n then s
  else match o with
    | 0x30 => s.chCommit n v cyc | 0x44 => s.chClr n v (s.dueAt cyc) | 0x8C => s.estCtrl n v cyc | 0xF0 => s.chTsens n v
    | 0x74 => s.modChan n fun c => { c with chry := v }
    | 0x80 => s.modChan n fun c => { c.estWrite s.beat.number (s.dueAt cyc) with estCfg := v &&& 0xFFFF0700#32 }
    | 0x84 => s.modChan n fun c => { c.estWrite s.beat.number (s.dueAt cyc) with learnT := v }
    | 0x88 => s.modChan n fun c => { c.estWrite s.beat.number (s.dueAt cyc) with learnRate := v }
    | _ => s.modChan n fun c => { c with staged := c.staged.put o v }
/-- A staged word of a phase window. -/
def PhaseCfg.put (c : PhaseCfg) (o : Nat) (v : Word) : PhaseCfg :=
  match o with
  | 0x00 => { c with cfg := v &&& 0x00013F3F#32 } | 0x04 => { c with shunt := v &&& 0xFFFFF#32 }
  | 0x40 => { c with base := { c.base with flock := v &&& 0x000107FF#32 } }
  | 0x44 => { c with base := { c.base with bandLim := v &&& 0x03FF03FF#32 } }
  | 0x48 => { c with base := { c.base with tuck := v &&& 0x73FF03FF#32 } }
  | 0x4C => { c with base := { c.base with glideI := v } } | 0x50 => { c with base := { c.base with glideV := v } }
  | 0x54 => { c with base := { c.base with lowcell := v &&& 0x3FF#32 } }
  | 0x5C => { c with gang := v &&& 7#32 }
  | _ => c
/-- The channel-wide words 0x40 to 0x54 are ignored in the window of a phase that a channel covers as another than its base
(R74). DESIGN CHOICE (log entry 68): one that is in no channel, or whose own staged PH_GANG is not 0, takes them. -/
def State.baseOnly (s : State) (p : PhaseNo) (o : Nat) : Bool :=
  decide (0x40 ≤ o) && decide (o < 0x58) && s.phases[p].staged.gang == 0 &&
    (match s.ownerOf p with | some n => n != p | none => false)
def State.writePhase (s : State) (p : PhaseNo) (o : Nat) (v : Word) (cyc : Nat) : State :=
  match o with
  | 0x08 => s.modPhase p fun q => { q with clrRefused := q.clrRefused && !bit v 10 }
  | 0x0C => s.ocClr p v (s.dueAt cyc)
  | _ => if s.baseOnly p o then s else s.modPhase p fun q => { q with staged := q.staged.put o v }
def State.writeGroup (s : State) (g : GroupNo) (o : Nat) (v : Word) : State :=
  match o with
  | 0x000 => s.modGroup g fun x => { x with mctrl := v &&& 3#32 }
  | 0x004 => s.modGroup g fun x => { x with plaus := v }
  | 0x050 => s.seriesStart g v
  | 0xB00 => s.modGroup g fun x => { x with whitI := x.whitI &&& ~~~v }
  | 0xB04 => s.modGroup g fun x => { x with whitV := x.whitV &&& ~~~v }
  | 0xB08 => s.modGroup g fun x => { x with whitW := x.whitW &&& ~~~v }
  | 0xB14 => s.modGroup g fun x => { x with whold := v &&& 0xFF#32 }
  | 0xB20 => s.modGroup g fun x => { x with rbValid := x.rbValid && !bit v 15 }
  | 0xB2C => s.modGroup g fun x => { x with wRefused := x.wRefused && !bit v 8 }
  | _ =>
      if 0xA00 ≤ o ∧ o < 0xB00 then
        (match finOf 16 ((o - 0xA00) / 16) with
         | some i =>
             let p := posPhase g i
             (match o % 16 with
              | 0 => s.winWrite p .current v | 4 => s.winWrite p .vtrip v | 8 => s.winWrite p .vwarn v | _ => s.wcfgWrite p v)
         | none => s)
      else s

/-! ### MSI-X table (R246, R288) -/

/-- A word of the MSI-X table; bit 0 of an entry's fourth word masks its vector. -/
def State.msixWrite (s : State) (o : Nat) (v : Word) : State :=
  if 0x200 ≤ o then s
  else
    let k := o / 16
    let m : BitVec 32 := 1#32 <<< k
    (s.modHost fun h =>
      { h with msixTable := (h.msixTable.filter fun w => w.1 != o) ++ [(o, v)]
               msixMask := if o % 16 = 12 then (if bit v 0 then h.msixMask ||| m else h.msixMask &&& ~~~m) else h.msixMask }).flushMsix

/-! ### Any offset -/

/-- A write to a block below 0x1_0000. -/
def State.writeBlock (s : State) (off : Nat) (v : Word) (cyc : Nat) : State :=
  let o := off % 0x1000
  match off / 0x1000 with
  | 0x0 => s.writeGlb o v | 0x1 => s.writeHrg o v cyc | 0x2 => s.writeBeat o v cyc | 0x3 => s.writeDom o v | 0x4 => s.writeIc o v
  | 0x5 => s.writeFlt o v | 0x6 => s.writeWdt o v | 0x7 => s.writeSeq o v | 0x8 => s.writeHld o v | 0x9 => s.writeRtc o v
  | 0xA => s.twWrite o v | 0xB => s.writeLnk o v | 0xC => s.writeSec o v | 0xE => s.writeMet o v | 0xF => s.writeSpl o v
  | _ => s
/-- What a write does while BAR0 acts. -/
def State.writeAny (s : State) (off : Nat) (v : Word) (cyc : Nat) : State :=
  if off < 0x10000 then s.writeBlock off v cyc
  else if off < 0x1A000 then (match finOf 160 ((off - 0x10000) / 256) with | some n => s.writeChan n (off % 256) v cyc | none => s)
  else if off < 0x20000 then s
  else if off < 0x2A000 then (match finOf 160 ((off - 0x20000) / 256) with | some p => s.writePhase p (off % 256) v cyc | none => s)
  else if off < 0x30000 then s
  else if off < 0x3A000 then (match finOf 10 ((off - 0x30000) / 0x1000) with | some g => s.writeGroup g (off % 0x1000) v | none => s)
  else if 0x3F000 ≤ off ∧ off < 0x40000 then s.msixWrite (off - 0x3F000) v
  else s

/-- A write of a word to BAR0 offset `off` in cycle `cyc` of the beat (R12, R24): a misaligned one is discarded; COCOON
leaves the status page (R447) and DBG_OPEN (R494), POWERUP and OTP_HOLD nothing (R444). -/
def State.regWrite (s : State) (off : Nat) (v : Word) (cyc : Nat) : State :=
  if off % 4 ≠ 0 then s
  else if s.live then s.writeAny off v cyc
  else if s.dev.state = .cocoon then (if off = 0xC000 then s.secCtrlBar v else s.writeStatus off v)
  else s

/-- A BAR0 write of `width` bytes: one narrower than 32 bits is discarded (R12). -/
def State.barWrite (s : State) (off : Nat) (v : Word) (cyc width : Nat) : State :=
  if width < 4 then s else s.regWrite off v cyc
/-- REGISTER_WRITE (R13). -/
def execRegisterWrite (off : Nat) (v : Word) (cyc width : Nat) (s : State) : Host.Outcome State Fault Refusal :=
  done (s.barWrite off v cyc width)

end Sys2Proof.Machine
end

