-- ==== Sys2Proof/Machine/Beat.lean ====
section
/-!
DEFINITION. BEAT_BOUNDARY: the boundary sequence of R28 and everything that the spec ties to a beat boundary. The order
within the one clock edge is that of R28; where R28 names no place the order here is the model's (log entry 20).
-/
namespace Sys2Proof.Machine

/-! ### Engines that leave (R54) -/

/-- The channels held by a lost engine: their catch-up or beat job that it ran is FAILED. -/
def State.heldBy (s : State) (e : EngineNo) : List ChanNo :=
  (allFin 160).filter fun n => s.beat.jobs.any fun j =>
    j.chan == n && j.cls.fast && j.claim == .failed && j.ran == some e

/-- The engines lost in the closing beat are removed (R37, R40, R54): ENGINE_LOSS, CHANNEL_HELD, the cut, ENGINE_LOW. -/
def State.removeEngines (s : State) (opens : Beat) : State :=
  if s.beat.lost.isEmpty then s
  else
    let lost := s.beat.lost
    let s := forEach lost s fun s (e, cause) =>
      let l := s.heldBy e
      let s := (s.modBeat fun b => { b with lossHeld := l.length }).eventAt s.beat.lossBeat .engine e.val 9
        [byte cause.code, byte l.length]
      forEach l s fun s n => s.eventAt opens .channel n.val 10 [byte e.val]
    let s := s.modBeat fun b =>
      { b with engMap := lost.foldl (fun m x => m &&& ~~~(1#18 <<< x.1.val)) b.engMap, lost := [] }
    let s := s.limitCut
    if s.beat.engines.length < 17 then s.raise 15 0xFF 0 true false else s

/-! ### Slow results (R27, R28 step 4, R49) -/

/-- A slow job that is not DONE when its next period opens is a beat overrun; its entry is closed without a result. -/
def State.closeSlow (s : State) (c : JobClass) (closed : Beat) : State :=
  let late := (allFin 160).filter fun n => s.slowLate n c
  let s := forEach late s fun s n => s.overrun n c closed
  s.modBeat fun b => { b with jobs := b.jobs.filter fun j => j.cls != c }

/-- The tenth-beat results at the boundary that opens a tenth period. -/
def State.takeTenths (s : State) (closed : Beat) : State :=
  let half := areaOf closed 10
  let s := forEach s.runChans s fun s n => s.modChan n fun c => c.takeTenth (s.slowDone n .tenth) half
  s.closeSlow .tenth closed

/-- The milli results at the boundary that opens a milli period; the OCV tables accepted since take effect (R269). DEDUCED (log
entry 65): a channel in OFF has no job (R31), and the milli figure of OFF is 0 (R33), so what its last run left to evaluate is
evaluated without one. -/
def State.takeMillis (s : State) (closed : Beat) : State :=
  let s := forEach s.runChans s fun s n =>
    let job := s.beat.jobs.any fun j => j.chan == n && j.cls == .milli
    if s.slowDone n .milli then s.takeMilli n
    else if !job && s.chans[n].milliIn.fs != 0 then
      (s.modChan n fun c => { c with estNext := estMilli (s.estIn n (closed - 1999)) c.estCur }).takeMilli n
    else s.modChan n fun c => { c with estNext := { c.estCur with posts := [], irqs := [], xAsk := [] } }
  ((s.closeSlow .milli closed).modStore Store.ocvTake).pumpMet

/-! ### AUTO_RESUME after a power loss (R400) -/

/-- The saved configuration of one channel is staged. -/
def State.stageSaved (s : State) (x : SavedChan) : State :=
  match finOf 160 x.chan with
  | none => s
  | some n =>
      let s := s.modChan n fun c => { c with staged := x.cfg }
      let s := forEach x.phases s fun s p =>
        match finOf 160 p.1 with | some q => s.modPhase q fun y => { y with staged := p.2 } | none => s
      forEach x.words s fun s w => s.writeChan n w.1 w.2 0

/-- The saved words of the windows of the groups in which a channel is restored. -/
def State.stageWindows (s : State) (l : List SavedChan) : State :=
  match s.cycleImage with
  | none => s
  | some i => forEach (allFin 10) s fun s g =>
      if l.any fun x => x.chan / 16 == g.val then
        forEach (i.windows.getD g.val []) s fun s w => s.writeGroup g w.1 w.2
      else s

/-- At the first boundary after READY the saved configuration of every channel is committed as one set. -/
def State.autoCommit (s : State) (opens : Beat) : State :=
  let l := s.saves.autoPending.map fun x => x.2
  if l.isEmpty then s
  else
    let lost := fun (x : SavedChan) => match x.ctx.step.intr with | some i => i.reason == .powerLoss | none => false
    let s := s.modSaves fun v => { v with autoPending := [], autoResume := (l.filter lost).map fun x => x.chan, resumeDue := true }
    let s := (forEach l s State.stageSaved).stageWindows l
    forEach l s fun s x => match finOf 160 x.chan with | some n => s.snapshot n opens | none => s

/-- One channel of the automatic resume; the answer: whether it resumed and whether it waits on. -/
def State.autoOne (s : State) (n : ChanNo) (opens : Beat) : State × Bool × Bool :=
  if !s.isRun n then (s, false, false)
  else if s.trayHolds n || s.mustWait n || s.chans[n].held || s.chans[n].cur.step.base == .off then (s, false, true)
  else match s.resumeCheck n false opens with
    | (0, some _) => ((s.resumeChan n false none opens).1, true, false)
    | _ =>
        (match s.chans[n].cur.step.intr with
         | some i => s.event .channel n.val 3 [byte i.recipe, byte i.step, byte i.reason.code]
         | none => s, false, false)

/-- At the boundary after the commit each channel with a POWER_LOSS record resumes at SAME; one that fails a check of R204
posts INTERRUPTED, one whose tray is not authenticated waits. -/
def State.autoResumes (s : State) (opens : Beat) : State :=
  let due := s.saves.resumeDue
  let todo := s.saves.autoResume.filterMap (finOf 160)
  let s := s.modSaves fun v => { v with autoResume := [], resumeDue := false }
  let (s, count) := todo.foldl (fun (p : State × Nat) n =>
    let (s, went, waits) := p.1.autoOne n opens
    (if waits then s.modSaves fun v => { v with autoResume := v.autoResume ++ [n.val] } else s, if went then p.2 + 1 else p.2))
    (s, 0)
  if due then s.devEvent 72 (leBytes 2 count) else s

/-! ### The governor's resume (R121) -/

/-- At most one channel per milli period: the lowest paused one that would pass R204. -/
def State.govResume (s : State) (opens : Beat) : State :=
  let ok := fun (n : ChanNo) =>
    s.chans[n].paused && !s.chans[n].held && !s.mustWait n && (match s.resumeCheck n false opens with | (0, some _) => true | _ => false)
  if !bit s.gov.cfg 16 || s.gov.k != 65536 then s
  else match s.runChans.find? ok with
    | none => s
    | some n =>
        let room : Int := s.gov.budget.toNat - s.gov.nonDef
        if 11 * (s.gov.demand + s.chans[n].pausedP) ≤ 10 * room then
          s.doRequest n { req := .resume false true, due := opens, cmd := none } opens
        else s

/-! ### Device state (R432) -/

/-- READY and ACTIVE follow the channels; a channel that has left its rest wakes the device. -/
def State.deviceFollows (s : State) : State :=
  let up := s.runChans.any fun n => match s.chans[n].state with | .run | .glide | .hold => true | _ => false
  match s.dev.state with
  | .ready => if s.allOff then s else s.goState .active
  | .active => if s.allOff then s.backToReady else s
  | .chrysalis => if up then s.wakeDevice else s
  | _ => s

/-! ### Commands that wait for a boundary (R270, R273, R275) -/

/-- The outcome of a COMMIT whose channels hold no snapshot any more. -/
def State.commitOutcome (s : State) (id : Nat) (l : List ChanNo) : State :=
  match l.find? fun n => s.chans[n].commitResult != 1 with
  | some n => s.complete id (64 + s.chans[n].commitResult) (n.val + 256 * s.chans[n].commitPhase) 0
  | none => s.completeBeat (some id) (l.foldl (fun b n => if b < s.chans[n].commitBeat then s.chans[n].commitBeat else b) 0)

/-- A stop request of the channel still waits. -/
def Chan.stopWaits (c : Chan) : Bool := c.requests.any fun r => match r.req with | .stop .. => true | _ => false

/-- The records of a READ_STATE. -/
def State.records (s : State) (first count kind : Nat) (opens : Beat) : List Byte :=
  (List.range count).flatMap fun i =>
    match finOf 160 (first + i) with | some n => s.record kind n opens | none => []

/-- One waiting command: it completes or waits on. -/
def State.waiter (s : State) (w : Waiter) (opens : Beat) : State :=
  let wait := s.modHost fun h => { h with waiters := h.waiters ++ [w] }
  match w with
  | .commit id l _ written =>
      if written && l.all fun n => s.chans[n].snap.isNone then s.commitOutcome id l else wait
  | .stop id l => if l.any fun n => s.chans[n].stopWaits then wait else s.completeBeat (some id) opens
  | .read id first count kind addr cut =>
      s.completeData id addr (s.records first count kind opens) cut (opens.toNat % 4294967296) (opens.toNat / 4294967296)

/-- Every waiting command, in the order of its start. -/
def State.waiters (s : State) (opens : Beat) : State :=
  let l := s.host.waiters
  (forEach l (s.modHost fun h => { h with waiters := [] }) fun s w => s.waiter w opens).pumpCmd

/-! ### The sequence -/

/-- Age of the readings of mapped sensors (R528), saturating. -/
def TempReading.tick (t : TempReading) : TempReading :=
  if bit t.map 31 then { t with age := min (2 ^ 32 - 1) (t.age + 1), since := min (2 ^ 32 - 1) (t.since + 1) } else t

/-- Every channel commits or is held, in ascending number (R28 steps 1 to 3, R99); with the acknowledgements of the
transitions. -/
def State.commitAll (s : State) (opens : Beat) (tenth : Bool) (shed : ChanNo → Bool) : State × List Ack :=
  let l := (allFin 160).filter fun n => s.isRun n || s.chans[n].snap.isSome
  l.foldl (fun (p : State × List Ack) n =>
    let s := p.1
    if s.isHeld n then (s.holdChan n, p.2)
    else
      let (s, acks) := s.commitChan p.2 n (s.hasRun n) (tenth && shed n) opens
      ((s.unservedTrip n opens).trayRelease n opens, acks)) (s, [])

/-- Trips and pauses of the boundary itself belong to it: their acknowledgements leave with it (R116). -/
def State.lateAcks (s : State) : State × List Ack :=
  s.runChans.foldl (fun (p : State × List Ack) n =>
    let c := p.1.chans[n]
    (p.1.modChan n fun c => { (c.setCur { c.cur with acks := [] }) with tripNow := false }, p.2 ++ c.cur.acks)) (s, [])

/-- What opens with a tenth or a milli period, after every channel has its new step (R27, R118, R121). -/
def State.slowOpen (s : State) (opens : Beat) (tenth milli : Bool) : State :=
  let s := if tenth then s.govern.freezeTenth else s
  if milli then (s.freezeMilli opens).govResume opens else s

/-- Frames stay while a job may still act on them. -/
def State.pruneFrames (s : State) (opens : Beat) : State :=
  let jobs := s.beat.jobs
  s.modLane fun l =>
    { l with inputs := l.inputs.filter fun f => decide (opens ≤ f.1) || (jobs.any fun j => j.beat == f.1 && j.cls.fast) }

/-- The claim table and the sample sets pass the boundary (R31, R32, R54, R56). -/
def State.carry (s : State) (opens : Beat) (new : SampleSet) : State :=
  let s := (s.modBeat fun b => { b with jobs := carryJobs b.jobs }).dropOldestSet opens
  (s.keepSets new).modBeat fun b =>
    { b with peak := max b.peak b.peakNow, peakNow := 0
             diag := b.diag.map fun d => { d with busy := d.busyNow, busyNow := 0 } }

/-- Windows, suspicions and streams take the sample set that is complete, the calibrating slices their coefficients (R129,
R131, R159, R162, R294). -/
def State.newSet (s : State) (opens : Beat) (new : SampleSet) : State :=
  let s := forEach (allFin 160) ((s.suspicions opens).calApplyAll opens) fun s p => s.winBoundary new p
  s.telBoundary opens new

/-- The first part: the counter, the figures of the closed beat, budgets, slow results, restored configuration. -/
def State.boundaryOpen (s : State) (closed opens : Beat) (tenth milli : Bool) : State :=
  let s := s.modBeat fun b => { b with number := opens, uptime := b.uptime + 1 }
  let s : State := { s with chans := s.chans.map fun c => { c with temp := c.temp.tick, clearNow := false } }
  let s := ((s.beatFigures closed).removeEngines opens).budgetWrites opens
  let s := if tenth then (s.takeTenths closed).freezePhases else s
  let s := if milli then s.takeMillis closed else s
  (s.autoResumes opens).autoCommit opens

/-- The last part: waiting commands, the domain, the jobs released, events; the beat unit stands in the beat that opens, of whose
successor no sample is formed yet. -/
def State.boundaryClose (s : State) (opens : Beat) (up : Nat) (rebuild : Bool) : State :=
  let s := (s.deviceFollows.waiters opens).domBoundary opens
  let s := s.releaseJobs opens rebuild
  let s := if opens.toNat % 600000000 = 0 then s.modDev fun d => { d with lifetimeDue := true } else s
  let s : State := { s with phases := s.phases.map fun p => { p with latchNow := false, clearedNow := false } }
  (s.closeEvents opens).modBeat fun b => { b with number := opens, uptime := up, running := true, formed := 0 }

/-- The middle part: commits, slow periods, the claim table, the new sample set, acknowledgements (R28, R116). -/
def State.boundaryMid (s : State) (opens : Beat) (new : SampleSet) (ran : List ChanNo) (shed : ChanNo → Bool) : State :=
  let closed := opens - 1
  let tenth := opens.toNat % 10 == 0
  let milli := opens.toNat % 1000 == 0
  let s := s.boundaryOpen closed opens tenth milli
  let (s, acks) := s.commitAll opens tenth fun n => shed n && s.chans[n].band.shedNow
  let s := s.slowOpen opens tenth milli
  let (s, late) := ((s.carry opens new).newSet opens new).lateAcks
  (s.queueAcks (acks ++ late ++ s.strayAcks closed ran)).pruneFrames opens

/-- The boundary that closes the present beat; a re-epoch that is due takes place at it (R339). -/
def State.boundary (s : State) : State :=
  if s.beat.running then
    let opens := s.beat.number + 1
    let new := if s.beat.formed = 0 then { SampleSet.reset with beat := opens } else { s.beat.forming with beat := opens }
    let ran := (s.beat.jobs.filter fun j => j.cls == .beat).map fun j => j.chan
    let u := (s.boundaryMid opens new ran fun n => s.slowDone n .tenth).boundaryClose opens (s.beat.uptime + 1)
      (!s.beat.lost.isEmpty)
    if s.dom.reepochDue then u.reepoch else u
  else s
/-- BEAT_BOUNDARY (R28). -/
def execBeatBoundary (s : State) : Host.Outcome State Fault Refusal := done s.boundary

end Sys2Proof.Machine
end

