-- ==== Sys2Proof/Machine/Digest.lean ====
section
/-!
DEFINITION. DIGEST_RECOMPUTE: the shared and the local image of R331 (spec/10_sync_domain.md) and their digests.
-/
namespace Sys2Proof.Machine

/-- An object of an image: its 4-byte prefix and its bytes. -/
def digObject (kind number : Nat) (bs : List Byte) : List Byte := [byte kind, byte number] ++ leBytes 2 bs.length ++ bs
/-- The words of a window as bytes. -/
def digWords (l : List Word) : List Byte := l.flatMap fun w => leBytes 4 w.toNat

/-- Recipes in ascending number. -/
def Store.byNumber (t : Store) : List Recipe :=
  (List.range 256).filterMap fun k => t.recipes.find? fun r => r.number == k

/-- The loaded objects whose SHARED flag is `shared`, in ascending kind and then number. -/
def State.digObjects (s : State) (shared : Bool) : List Byte :=
  let one := fun (kind k : Nat) (sh : Bool) (bs : List Byte) => if sh = shared then digObject kind k bs else []
  (s.store.byNumber.flatMap fun r => one 1 r.number r.shared r.image) ++
    ((allFin 4).flatMap fun k => match s.store.ocv[k] with | some t => one 2 k.val t.shared t.image | none => []) ++
    ((allFin 16).flatMap fun k => match s.store.grade[k] with | some t => one 3 k.val t.shared t.image | none => []) ++
    (allFin 2).flatMap fun k => match s.links.port[k].policy with
      | some p => one 4 k.val (p.flags % 2 == 1) p.image | none => []

/-- The RWS words of a channel window in offset order. -/
def ChanCfg.rws (c : ChanCfg) : List Word :=
  [c.cfg, c.ilimHi, c.ilimLo, c.vlimHi, c.vlimLo, c.setI, c.setV, c.setP, c.setR, c.gain, c.trim]
/-- The RWS words of a phase window in offset order. -/
def PhaseCfg.rws (c : PhaseCfg) : List Word :=
  [c.cfg, c.shunt, c.base.flock, c.base.bandLim, c.base.tuck, c.base.glideI, c.base.glideV, c.base.lowcell, c.gang]

/-- The part of the local image that the running configuration makes. -/
def State.digConfig (s : State) : List Byte :=
  (((allFin 160).filter s.isConf).flatMap fun n => digObject 5 n.val (digWords
    (s.chans[n].run.rws ++ (s.phasesOf n).flatMap fun p => s.phases[p].run.rws))) ++
    (allFin 10).flatMap fun g =>
      let x := s.groups[g]
      digObject 6 g.val (digWords (x.iwin.toList ++ x.vtrip.toList ++ x.vwarn.toList ++ x.wcfg.toList))

/-- Both digests computed anew. -/
def State.digest (s : State) : State :=
  let a := sha256 (s.digObjects true)
  let b := sha256 (s.digObjects false ++ s.digConfig)
  s.modDom fun d => { d with dig := { d.dig with shared := a, priv := b, beat := s.beat.number } }
/-- DIGEST_RECOMPUTE (R331). -/
def execDigestRecompute (s : State) : Host.Outcome State Fault Refusal := done s.digest

end Sys2Proof.Machine
end

