-- ==== Sys2Proof/Machine/HostCmds.lean ====
section
/-!
DEFINITION. The commands of CMDQ (R258 to R283 of spec/08_host_rings.md): the checks of R259, then each opcode. A command's
row acts on the front descriptor where that one carries its opcode and may start (R262 to R264).
-/
namespace Sys2Proof.Machine

/-! ### The checks of R259 -/

/-- What R267 and R250 say of an opcode: unused fields, the data buffer, its length rule. -/
structure OpRule where
  target : Bool                    -- TARGET is used
  arg0 : Bool
  arg1 : Bool
  buffer : Bool                    -- carries a data buffer
  ride : Desc → Bool               -- allowed in RIDE_THROUGH
  wakes : Bool                     -- wakes DEVICE_CHRYSALIS
  lenOk : Desc → Bool              -- the opcode's rule for a LEN other than 0
  pre : Desc → Bool                -- what its rule refuses BAD_ARGUMENT before any length rule
  reads : Bool                     -- the device reads its data buffer (R266)

/-- An opcode that always may run and has no buffer. -/
def OpRule.plain (target arg0 arg1 : Bool) : OpRule :=
  { target := target, arg0 := arg0, arg1 := arg1, buffer := false, ride := fun _ => true, wakes := true, lenOk := fun _ => false
    pre := fun _ => true, reads := false }
/-- An opcode with a data buffer that the device reads. -/
def OpRule.data (target arg0 arg1 : Bool) (lenOk : Desc → Bool) : OpRule :=
  { OpRule.plain target arg0 arg1 with buffer := true, lenOk := lenOk, reads := true }
/-- An opcode with a data buffer that the device writes. -/
def OpRule.out (target arg0 arg1 : Bool) (lenOk : Desc → Bool) : OpRule :=
  { OpRule.data target arg0 arg1 lenOk with reads := false }
def OpRule.notRiding (r : OpRule) : OpRule := { r with ride := fun _ => false }

/-- What steps 2 to 5 of R259 answer: a status that ends the command (0 where R260 ends it), or none. -/
def State.opCheck (s : State) (r : OpRule) (d : Desc) : Option Nat :=
  if 2 ≤ d.flags ∨ d.rsv ≠ 0 ∨ (!r.target && d.target != 0) = true ∨ (!r.arg0 && d.arg0 != 0) = true ∨
      (!r.arg1 && d.arg1 != 0) = true then some 2
  else if s.dev.state = .rideThrough ∧ r.ride d = false then some 7
  else if !r.buffer then (if d.len ≠ 0 then some 3 else none)
  else if d.len = 0 then some 0
  else if !r.pre d then some 14
  else if !r.lenOk d then some 3
  else if d.addr % 4 ≠ 0 ∨ 18446744073709551616 < d.addr + d.len then some 4
  else none

/-- The data of the front descriptor must be read and no request may be made (R249, R290). -/
def State.readWaits (s : State) (r : OpRule) (d : Desc) : Bool := r.reads && !s.host.bme && (s.opCheck r d).isNone
/-- The command of an opcode: the front descriptor starts (R262 to R264), wakes the device (R250), is checked (R259) and acts. -/
def State.command (s : State) (op : Nat) (r : OpRule) (bg : Desc → Bool) (act : State → Desc → Nat → State) : State :=
  match s.host.fetched with
  | [] => s
  | d :: _ =>
      if d.opcode ≠ op ∨ s.readWaits r d = true then s
      else match s.startFront (bg d) with
        | none => s
        | some (s, d, id) =>
            let s := if r.wakes then s.wakeDevice else s
            (match s.opCheck r d with
             | some st => s.complete id st 0 0
             | none => act s d id).pumpCmd
def notBg (_ : Desc) : Bool := false
def inBg (_ : Desc) : Bool := true
/-- A short command without more. -/
def State.short (s : State) (op : Nat) (r : OpRule) (act : State → Desc → Nat → State) : State := s.command op r notBg act

/-- The data buffer that the device reads (R266); an error ends the command DMA_ERROR (R290). -/
def State.withData (s : State) (d : Desc) (id : Nat) (data : HostData) (k : List Byte → State) : State :=
  match data with
  | .error e => (s.modHost fun h => h.logErr e).complete id 5 0 0
  | .bytes bs => k (padTo d.len bs)
/-- A command of the same opcode and target already runs beside `id` (BUSY). -/
def State.twin (s : State) (d : Desc) (id : Nat) : Bool :=
  s.host.running.any fun c => c.id != id && c.opcode == d.opcode && c.target == d.target
/-- The configured channel that TARGET names. -/
def State.chanOf (s : State) (d : Desc) : Option ChanNo :=
  match finOf 160 d.target with | some n => if s.isConf n then some n else none | none => none
/-- A bit of a number. -/
def nbit (v i : Nat) : Bool := v / 2 ^ i % 2 == 1

/-! ### NOP, BUDGET_SET, TIME_SET -/

/-- NOP (R267). -/
def execNop (s : State) : Host.Outcome State Fault Refusal :=
  done (s.short 0x00 { OpRule.plain false false false with wakes := false } fun s _ id => s.complete id 0 0 0)

/-- BUDGET_SET (R281). -/
def execBudgetSet (s : State) : Host.Outcome State Fault Refusal :=
  done (s.short 0x0D (OpRule.plain false true false) fun s d id =>
    let old := s.gov.budget.toNat
    (s.modGov fun g => { g with budget := BitVec.ofNat 32 d.arg0 }).complete id 0 0 old)

/-- The year that day `d` from 1 January of `y` lies in, and the day of that year. -/
def yearOf : Nat → Nat → Nat → Nat × Nat
  | 0, y, d => (y, d)
  | fuel + 1, y, d => let n := if leapYear y then 366 else 365; if d < n then (y, d) else yearOf fuel (y + 1) (d - n)
/-- The month that day `d` from the first of month `m` lies in, and the day of that month. -/
def monthOf (y : Nat) : Nat → Nat → Nat → Nat × Nat
  | 0, m, d => (m, d)
  | fuel + 1, m, d => if d < monthDays y m then (m, d) else monthOf y fuel (m + 1) (d - monthDays y m)
/-- The calendar of a number of seconds since 2000-01-01 00:00:00 (R281). -/
def calOf (secs sub : Nat) : Cal :=
  let (y, d) := yearOf 200 2000 (secs / 86400)
  let (m, d) := monthOf y 12 1 d
  { sub := sub, sec := secs % 60, min := secs / 60 % 60, hour := secs / 3600 % 24, day := d + 1, month := m, year := y }
/-- TIME_SET (R281). -/
def execTimeSet (s : State) : Host.Outcome State Fault Refusal :=
  done (s.short 0x0E (OpRule.plain false true true) fun s d id =>
    if 6311433600 ≤ d.arg1 ∨ 32768 ≤ d.arg0 then s.complete id 14 0 0
    else ((s.modRtc fun r => { r with now := calOf d.arg1 d.arg0, valid := true }).calAges).complete id 0 0 0)

/-! ### CONFIG_WRITE (R269) -/

/-- A pair's offset may be written (R269). -/
def pairOk (o : Nat) : Bool := o % 4 == 0 && decide (o < 0x3A000) && (decide (o < 0x1000) || decide (0x2000 ≤ o))
/-- The pairs of a buffer. -/
def pairsIn (bs : List Byte) : List (Nat × Word) :=
  (List.range (bs.length / 8)).map fun i => (getLe bs (8 * i) 4, BitVec.ofNat 32 (getLe bs (8 * i + 4) 4))
/-- The pairs written in list order. -/
def State.writePairs (s : State) (bs : List Byte) (id cyc : Nat) : State :=
  let l := pairsIn bs
  match l.findIdx? fun p => !pairOk p.1 with
  | some i => s.complete id 11 i 0
  | none => (forEach l s fun s p => s.regWrite p.1 p.2 cyc).complete id 0 0 l.length
def State.addNv (s : State) (o : NvOp) : State := s.modHost fun h => { h with nvOps := h.nvOps ++ [o] }
def State.loadOcv (s : State) (bs : List Byte) (id : Nat) : State :=
  match ocvCheck bs, finOf 4 (getLe bs 3 1) with
  | 0, some k => s.addNv (.ocv id k (parseOcv bs))
  | st, _ => s.complete id st 0 0
def State.loadGrade (s : State) (bs : List Byte) (id : Nat) : State :=
  match gradeCheck bs, finOf 16 (getLe bs 3 1) with
  | 0, some k => s.addNv (.grade id k (parseGrade bs))
  | st, _ => s.complete id st 0 0
def configRule : OpRule :=
  { OpRule.data false true false (fun d =>
      match d.arg0 with
      | 0 => d.len % 8 == 0 && d.len ≤ 4096
      | 1 => d.len == 100
      | _ => d.len % 64 == 0 && decide (128 ≤ d.len) && d.len ≤ 1088) with
    ride := fun d => d.arg0 != 1 && d.arg0 != 2, pre := fun d => d.arg0 ≤ 2 }
def State.configWrite (s : State) (data : HostData) (cyc : Nat) : State :=
  s.short 0x01 configRule fun s d id => s.withData d id data fun bs =>
    match d.arg0 with | 0 => s.writePairs bs id cyc | 1 => s.loadOcv bs id | _ => s.loadGrade bs id
/-- CONFIG_WRITE (R269). -/
def execConfigWrite (data : HostData) (cyc : Nat) (s : State) : Host.Outcome State Fault Refusal :=
  done (s.configWrite data cyc)

/-! ### COMMIT (R270) -/

/-- The channels that a mask of 20 bytes selects. -/
def selectedBy (bs : List Byte) : List ChanNo := (allFin 160).filter fun n => nbit (getLe bs (n.val / 8) 1) (n.val % 8)
/-- GO of every selected channel. -/
def State.goAll (s : State) (l : List ChanNo) (due : Beat) : State :=
  forEach l s fun s n => if s.isConf n then s.snapshot n due else s
def State.commitCmd (s : State) (data : HostData) (cyc : Nat) : State :=
  s.short 0x02 (OpRule.data false false true fun d => d.len == 20) fun s d id => s.withData d id data fun bs =>
    let l := selectedBy bs
    match l.find? fun n => !s.isConf n with
    | some n => s.complete id 8 n.val 0
    | none =>
        if l = [] then s.complete id 0 0 0
        else if d.arg1 ≠ 0 ∧ d.arg1 < s.now + 100 then s.complete id 10 0 0
        else if d.arg1 ≠ 0 ∧ s.now + 4294967296 < d.arg1 then s.complete id 14 0 0
        else
          let t := if d.arg1 = 0 then s.goAll l (s.dueAt cyc) else s
          t.modHost fun h => { h with waiters := h.waiters ++ [.commit id l (BitVec.ofNat 64 d.arg1) (d.arg1 == 0)] }
/-- COMMIT (R270). -/
def execCommit (data : HostData) (cyc : Nat) (s : State) : Host.Outcome State Fault Refusal :=
  done (s.commitCmd data cyc)

/-- COMMIT_AT_BEAT (R270): the writes of the COMMITs whose AT_BEAT the next boundary opens. -/
def State.commitAtBeat (s : State) : State :=
  let next := s.beat.number + 1
  let due := s.host.waiters.flatMap fun w => match w with | .commit _ l b false => if b = next then l else [] | _ => []
  let s := s.goAll due next
  s.modHost fun h => { h with waiters := h.waiters.map fun w =>
    match w with | .commit id l b false => .commit id l b (b == next) | w => w }
def execCommitAtBeat (s : State) : Host.Outcome State Fault Refusal := done s.commitAtBeat

/-! ### Recipes (R271, R272, R274) -/

def recipeRule : OpRule :=
  { (OpRule.data false true false fun d =>
      !nbit d.arg0 8 && d.len % 64 == 0 && decide (128 ≤ d.len) && d.len ≤ 16448).notRiding with buffer := true }
/-- RECIPE_LOAD with DELETE. -/
def State.recipeDelete (s : State) (k id : Nat) : State :=
  if s.recipeInUse k then s.complete id 18 0 0
  else if (s.recipeNo k).isNone then s.complete id 32 0 0
  else s.addNv (.recipe id k none)
def State.recipeLoad (s : State) (data : HostData) : State :=
  match s.host.fetched with
  | d :: _ =>
      if nbit d.arg0 8 && d.len == 0 then
        s.short 0x03 { recipeRule with buffer := false } fun s d id => s.recipeDelete (d.arg0 % 256) id
      else
        s.short 0x03 recipeRule fun s d id => s.withData d id data fun bs =>
          match s.recipeCheck (d.arg0 % 256) bs with
          | some (st, det) => s.complete id st det 0
          | none => s.addNv (.recipe id (d.arg0 % 256) (some (parseRecipe bs)))
  | [] => s
/-- RECIPE_LOAD (R271). -/
def execRecipeLoad (data : HostData) (s : State) : Host.Outcome State Fault Refusal := done (s.recipeLoad data)

/-- A recipe with a TEMP termination on a channel without a mapped sensor (R188, R525). -/
def State.noTempSensor (s : State) (n : ChanNo) (r : Recipe) : Bool :=
  r.hasTemp && !bit s.chans[n].temp.map 31
/-- The checks of R200 that are made at the start of the command: a status, 0 none. DESIGN CHOICE (log entry 76): a channel
that no commit has given phases yet answers CHANNEL_STATE. -/
def State.startCheck (s : State) (n : ChanNo) (k : Nat) : Nat :=
  let c := s.chans[n]
  match s.recipeNo k with
  | none => 32
  | some r =>
      let off := c.cur.step.base == .off
      if s.isRun n = false ∨ c.state = .tripped ∨ c.state = .latched ∨ c.cur.step.running = true ∨
          (off && ((s.groups[groupOf n]).gtActive || s.trayHolds n)) = true then 33
      else if s.noTempSensor n r then 34
      else if r.targetOutside (sword c.run.vlimLo) (sword c.run.vlimHi) then 35
      else if r.cutoffAtVlim (sword c.run.vlimLo) then 36 else 0
/-- A start that meets STOP_RAMP: the channel does not enter the stop's target (R200). -/
def State.dropStopTarget (s : State) (n : ChanNo) : State :=
  s.modChan n fun c => c.both fun x =>
    if x.loop.ramp = .stopRamp then { x with step := { x.step with stopTo := .rest, after := .none } } else x
def State.recipeStart (s : State) (cyc : Nat) : State :=
  s.short 0x04 (OpRule.plain true true false).notRiding fun s d id =>
    match s.chanOf d with
    | none => s.complete id 8 0 0
    | some n =>
        (match s.startCheck n (d.arg0 % 256) with
         | 0 => (s.dropStopTarget n).request n (.start (d.arg0 % 256)) (s.dueAt cyc) (some id)
         | st => s.complete id st 0 0)
/-- RECIPE_START (R272). -/
def execRecipeStart (cyc : Nat) (s : State) : Host.Outcome State Fault Refusal := done (s.recipeStart cyc)

/-- The checks of R204 and R274 that do not wait for the boundary: a status, 0 none. -/
def State.resumePre (s : State) (n : ChanNo) : Nat :=
  let c := s.chans[n]
  let st := c.cur.step
  let rest := (st.base == .run && (st.mode == .rest || c.cur.loop.ramp == .stopRamp)) || st.base == .chrysalis
  if c.state = .tripped ∨ c.state = .latched ∨ st.running = true ∨ rest = false then 33
  else match st.intr with
    | none => 38
    | some i => (match s.recipeNo i.recipe with | some r => if r.crc = i.crc then 0 else 39 | none => 39)
def State.channelResume (s : State) (cyc : Nat) : State :=
  s.short 0x06 (OpRule.plain true true false).notRiding fun s d id =>
    match s.chanOf d with
    | none => s.complete id 8 0 0
    | some n =>
        (match s.resumePre n with
         | 0 => s.request n (.resume (nbit d.arg0 0) false) (s.dueAt cyc) (some id)
         | st => s.complete id st 0 0)
/-- CHANNEL_RESUME (R274). -/
def execChannelResume (cyc : Nat) (s : State) : Host.Outcome State Fault Refusal := done (s.channelResume cyc)

/-! ### CHANNEL_STOP (R273) -/

def stopTargetOf (a : Nat) : StopTarget := match a % 4 with | 0 => .rest | 1 => .off | _ => .chrysalis
/-- The channel is OFF or already in the stop target. -/
def State.alreadyThere (s : State) (n : ChanNo) (t : StopTarget) : Bool :=
  let c := s.chans[n]
  let st := c.cur.step
  st.base == .off || (!st.running && c.cur.loop.ramp != .stopRamp &&
    (match t with
     | .rest => st.base == .run && st.mode == .rest
     | .chrysalis => st.base == .chrysalis
     | _ => false))
def State.stopOne (s : State) (n : ChanNo) (t : StopTarget) (due : Beat) (id : Nat) : State :=
  if s.chans[n].state = .tripped ∨ s.chans[n].state = .latched then s.complete id 33 0 0
  else if s.alreadyThere n t then s.complete id 0 0 0
  else s.request n (.stop t .hostStop false) due (some id)
/-- TARGET 0xFFFF: every configured channel at one boundary; TRIPPED and LATCHED ones are passed over. -/
def State.stopEvery (s : State) (t : StopTarget) (due : Beat) (id : Nat) : State :=
  let l := ((allFin 160).filter s.isConf).filter fun n => s.chans[n].state != .tripped && s.chans[n].state != .latched && !s.alreadyThere n t
  let s := forEach l s fun s n => s.request n (.stop t .hostStop false) due none
  s.modHost fun h => { h with waiters := h.waiters ++ [.stop id l] }
def State.channelStop (s : State) (cyc : Nat) : State :=
  s.short 0x05 (OpRule.plain true true false) fun s d id =>
    if d.target = 0xFFFF then (if d.arg0 % 4 = 3 then s.complete id 14 0 0 else s.stopEvery (stopTargetOf d.arg0) (s.dueAt cyc) id)
    else match s.chanOf d with
      | none => s.complete id 8 0 0
      | some n => if d.arg0 % 4 = 3 then s.complete id 14 0 0 else s.stopOne n (stopTargetOf d.arg0) (s.dueAt cyc) id
/-- CHANNEL_STOP (R273). -/
def execChannelStop (cyc : Nat) (s : State) : Host.Outcome State Fault Refusal := done (s.channelStop cyc)

/-! ### READ_STATE, LOG_READ (R275, R277) -/

/-- LEN holds every record (R259, R275). -/
def readLen (d : Desc) : Bool :=
  decide (4 < d.arg0 / 256 % 8) || decide (d.arg0 % 256 * recordSize (d.arg0 / 256 % 8) ≤ d.len)
def State.readState (s : State) (cut : Option Nat) : State :=
  s.short 0x07 { OpRule.out true true false readLen with wakes := false } fun s d id =>
    let n := d.arg0 % 256
    let kind := d.arg0 / 256 % 8
    if n = 0 ∨ 160 < d.target + n ∨ 4 < kind then s.complete id 14 0 0
    else s.modHost fun h => { h with waiters := h.waiters ++ [.read id d.target n kind d.addr cut] }
/-- READ_STATE (R275): `cut` is the number of bytes written before a write that cannot be completed (R290). -/
def execReadState (cut : Option Nat) (s : State) : Host.Outcome State Fault Refusal := done (s.readState cut)

def State.logRead (s : State) (cut : Option Nat) : State :=
  s.short 0x08 { OpRule.out false true false (fun d => d.len % 32 == 0 && d.len ≤ 65536) with wakes := false } fun s d id =>
    let l := s.log.recs.filter fun r => d.arg0 ≤ r.seq.toNat
    let k := min (d.len / 32) l.length
    let next := match l.drop k with | r :: _ => r.seq | [] => s.log.nextSeq
    s.completeData id d.addr ((l.take k).flatMap LogRec.bytes) cut k next.toNat
/-- LOG_READ (R277). -/
def execLogRead (cut : Option Nat) (s : State) : Host.Outcome State Fault Refusal := done (s.logRead cut)

/-! ### STREAM_CONFIG, LINK_POLICY (R278, R308, R372) -/

def State.streamBlock (s : State) (k : Fin 8) (bs : List Byte) (id cyc : Nat) : State :=
  let x := s.tel.streams[k]
  if !streamMagic bs then s.complete id 15 1 0
  else if getLe bs 4 1 = 0 then
    let s := s.modStream k Stream.disable
    if s.stagedOf k then s.modTel fun t => { t with disableCmds := t.disableCmds ++ [(id, k)] } else s.complete id 0 0 0
  else if x.run.isSome then s.complete id 6 0 0
  else
    let y := x.put bs
    let r := y.config (s.dueAt cyc)
    match s.blockCheck bs r with
    | 0 => (s.modStream k fun _ => y.enable r).complete id 0 0 r.units
    | c => s.complete id 15 c 0
def State.streamConfig (s : State) (data : HostData) (cyc : Nat) : State :=
  s.short 0x09 (OpRule.data true false false fun d => d.len == 64) fun s d id =>
    match finOf 8 d.target with
    | none => s.complete id 14 0 0
    | some k => s.withData d id data fun bs => s.streamBlock k bs id cyc
/-- STREAM_CONFIG (R308). -/
def execStreamConfig (data : HostData) (cyc : Nat) (s : State) : Host.Outcome State Fault Refusal :=
  done (s.streamConfig data cyc)

def State.linkPolicy (s : State) (data : HostData) : State :=
  s.short 0x0C (OpRule.data true false false fun d => d.len == 64) fun s d id =>
    match finOf 2 d.target with
    | none => s.complete id 14 0 0
    | some x => s.withData d id data fun bs =>
        match policyCheck x bs with
        | 0 => s.modLink x fun p => { p with next := some (parsePolicy bs, some id) }
        | c => s.complete id 13 c 0
/-- LINK_POLICY (R372). -/
def execLinkPolicy (data : HostData) (s : State) : Host.Outcome State Fault Refusal := linkDone (s.linkPolicy data)

/-! ### CAL_SYSTEM, TRAY_AUTH (R279, R280) -/

def calBg (d : Desc) : Bool := d.arg0 % 8 == 1 || d.arg0 % 8 == 2
/-- A step that was taken up: it completes with its conversions, or with the refusal that MET_STAT shows. -/
def State.calTaken (p : Fin 4) (id : Nat) (bg : Bool) (r : State × Nat) : State :=
  if r.2 ≠ 0 then r.1.complete id (96 + r.2) 0 0
  else if bg then r.1.modPort p fun x => { x with calCmd := some id }
  else r.1.complete id 0 0 0
/-- One step of R141 on a port (R279). -/
def State.calStep (s : State) (p : Fin 4) (d : Desc) (id : Nat) : State :=
  let x := s.met.ports[p]
  let range := nbit d.arg0 4
  match d.arg0 % 8 with
  | 4 => (s.calAbort p).complete id 0 0 0
  | 1 =>
      if x.calCmd.isSome then s.complete id 6 0 0
      else
        let s := if s.portOwned p || !x.free then s
          else s.modPort p fun x => { x with ctrl := if range then x.ctrl ||| 0x1000#32 else x.ctrl &&& ~~~0x1000#32 }
        State.calTaken p id true (s.calZero p)
  | 2 =>
      if x.calCmd.isSome then s.complete id 6 0 0
      else if s.portOwned p then State.calTaken p id true (s.portResult p 2, 2)
      else if x.state = .busy then State.calTaken p id true (s.portResult p 3, 3)
      else if x.state ≠ .zeroHeld ∨ range ≠ x.calRange then s.complete id 14 0 0
      else State.calTaken p id true ((s.modPort p fun x => { x with calVal := BitVec.ofNat 32 d.arg1 }).calFull p)
  | 3 =>
      if x.calCmd.isSome then s.complete id 6 0 0
      else if s.portOwned p then State.calTaken p id false (s.portResult p 2, 2)
      else if x.state = .busy then State.calTaken p id false (s.portResult p 3, 3)
      else if x.state ≠ .ready ∨ range ≠ x.calRange then s.complete id 14 0 0
      else State.calTaken p id false (s.calStore p)
  | _ => s.complete id 14 0 0
def State.calSystem (s : State) : State :=
  s.command 0x0A (OpRule.plain true true true).notRiding calBg fun s d id =>
    match finOf 4 d.target with
    | none => s.complete id 14 0 0
    | some p => s.calStep p d id
/-- CAL_SYSTEM (R279). -/
def execCalSystem (s : State) : Host.Outcome State Fault Refusal := done s.calSystem

def State.trayAuth (s : State) (serial : Option (List Byte)) (ack : Bool) : State :=
  s.command 0x0B (OpRule.plain true false false).notRiding inBg fun s d id =>
    match finOf 4 d.target with
    | none => s.complete id 14 0 0
    | some t =>
        if s.twin d id || (s.sec.trays[t]).exch.isSome then s.complete id 6 0 0
        else s.trayExchange t (some id) serial ack
/-- TRAY_AUTH (R280, R497): `serial` and `ack` are the tag's answers up to the challenge. -/
def execTrayAuth (serial : Option (List Byte)) (ack : Bool) (s : State) : Host.Outcome State Fault Refusal :=
  done (s.trayAuth serial ack)

/-! ### DIGEST_QUERY (R282, R333) -/

/-- LOCAL: both digests and the beat of the later computation. -/
def State.digestBytes (s : State) : List Byte :=
  padTo 32 s.dom.dig.shared ++ padTo 32 s.dom.dig.priv ++ leBytes 8 s.dom.dig.beat.toNat
def digestRule : OpRule :=
  { OpRule.out false true false (fun d => if d.arg0 = 0 then decide (72 ≤ d.len) else decide (32 ≤ d.len)) with
    wakes := false, pre := fun d => d.arg0 ≤ 1 }
def State.digestQuery (s : State) (cut : Option Nat) : State :=
  s.command 0x0F digestRule (fun d => d.arg0 == 1) fun s d id =>
    if d.arg0 = 0 then s.completeData id d.addr s.digestBytes cut 0 0
    else if s.twin d id then s.complete id 6 0 0
    else if s.dom.state ≠ .leading then s.complete id 14 1 0
    else s.modDom fun m => { m with dig := { m.dig with queries := m.dig.queries ++ [(id, s.now / 10000 + 1, d.addr, d.len, cut)] } }
/-- DIGEST_QUERY (R282). -/
def execDigestQuery (cut : Option Nat) (s : State) : Host.Outcome State Fault Refusal := done (s.digestQuery cut)

/-! ### Updates (R283, R504, R508, R512) -/

def State.updateStage (s : State) (data : HostData) : State :=
  s.command 0x10 (OpRule.data false false true fun d => d.len ≤ 65536).notRiding inBg fun s d id =>
    if s.twin d id then s.complete id 6 0 0
    else s.withData d id data fun bs => s.stageChunk id d.arg1 bs
/-- UPDATE_STAGE (R504). -/
def execUpdateStage (data : HostData) (s : State) : Host.Outcome State Fault Refusal := done (s.updateStage data)
/-- UPDATE_ACTIVATE (R508). -/
def execUpdateActivate (s : State) : Host.Outcome State Fault Refusal :=
  done (s.short 0x11 (OpRule.plain false true false).notRiding fun s d id => s.activate id (nbit d.arg0 0))
/-- UPDATE_CONFIRM (R512). -/
def execUpdateConfirm (s : State) : Host.Outcome State Fault Refusal :=
  done (s.short 0x12 (OpRule.plain false false false).notRiding fun s _ id =>
    if (s.sec.banks[s.sec.running]).state = .trial then s.addNv (.confirm id) else s.updDone id 140 0 0)

/-! ### NV operations (R175, R269, R283) -/

/-- A recipe loaded or deleted is in the store (R175, R176). -/
def State.putRecipe (s : State) (k : Nat) (r : Option Recipe) : State :=
  s.modStore fun t => { t with recipes := (t.recipes.filter fun x => x.number != k) ++ r.toList }
/-- NV_DONE: the oldest NV operation ends; `ok` tells whether a chunk or a confirmation programmed and verified. -/
def State.nvDone (s : State) (ok : Bool) : State :=
  match s.host.nvOps with
  | [] => s
  | o :: rest =>
      let s := (s.modHost fun h => { h with nvOps := rest }).irqPriv 0 2
      (match o with
       | .recipe id k r => let s := s.putRecipe k r; s.complete id 0 0 s.store.used
       | .ocv id k t => (s.modStore fun x => { x with ocvNext := x.ocvNext ++ [(k, t)] }).complete id 0 0 0
       | .grade id k t => (s.modStore fun x => { x with grade := x.grade.set k (some t) }).complete id 0 0 0
       | .chunk id data => if ok then s.chunkWritten id data else s.stageUndo.updDone id 141 0 0
       | .confirm id => if ok then s.confirm id else s.updDone id 141 0 0).pumpCmd
def execNvDone (ok : Bool) (s : State) : Host.Outcome State Fault Refusal := done (s.nvDone ok)

end Sys2Proof.Machine
end

