-- ==== Sys2Proof/Machine/TwoWire.lean ====
section
/-!
DEFINITION. The commands of the two-wire buses (spec/17_two_wire_buses.md): transfers and polls as controller, timeouts,
arbitration, and the register protocol of the service port and of the board target (R534 to R538).
-/
namespace Sys2Proof.Machine

/-! ### As controller -/

def busOf (b : Fin 5) : Fin 6 := ⟨b.val, by omega⟩
def trayBus (b : Fin 4) : Fin 6 := ⟨b.val, by omega⟩

/-- TW_XCTL_GO (R529, R530). -/
def execTwXctlGo (b : Fin 5) (v : Word) (s : State) : Host.Outcome State Fault Refusal := done (s.bar (s.xctl (busOf b) v))

/-- TW_TRANSFER_DONE (R529): the host transfer on the bus ends OK, ADDR_NACK, DATA_NACK (with the index of the byte) or
BUS_STUCK; the bytes read go into the buffer. -/
def State.transferEnd (s : State) (b : Fin 6) (res idx : Nat) (rd : List Byte) : State :=
  let x := s.tw.bus[b]
  if x.job = .host ∧ (res = 2 ∨ res = 3 ∨ res = 4 ∨ res = 7) then
    let s := if res = 2 then s.modBus b fun x => x.store (rd.take (xRlen x.xrun)) else s
    (s.hostEnd b res (if res = 4 then idx else 0)).twNext b
  else s
def execTwTransferDone (b : Fin 5) (res idx : Nat) (rd : List Byte) (s : State) : Host.Outcome State Fault Refusal :=
  done (s.transferEnd (busOf b) res idx rd)

/-- POLL_PERIOD (R526): the reads of the pairs mapped are queued; where those of the last period are not finished, POLL_OVR
is set and the period starts when they are. -/
def State.pollPeriod (s : State) (b : Fin 6) : State :=
  let x := s.tw.bus[b]
  let polling : Bool := match x.job with | .poll _ _ => true | _ => false
  if (s.pairsOf b.val).isEmpty || s.wdt.restarting then s
  else if polling || !x.due.isEmpty then (s.twFlag b 0x10#32).modBus b fun x => { x with late := true }
  else (s.pollStart b).twNext b
def execPollPeriod (b : Fin 4) (s : State) : Host.Outcome State Fault Refusal := done (s.pollPeriod (trayBus b))

/-- POLL_READ_DONE (R527, R528): the poll read on the bus ends, with its two bytes where each byte was acknowledged. -/
def State.pollDone (s : State) (b : Fin 6) (rd : Option (BitVec 16)) : State :=
  match (s.tw.bus[b]).job with
  | .poll a r => ((s.modBus b fun x => { x with job := .idle }).pollResult b a r rd).twNext b
  | _ => s
def execPollReadDone (b : Fin 4) (rd : Option (BitVec 16)) (s : State) : Host.Outcome State Fault Refusal :=
  done (s.pollDone (trayBus b) rd)

/-! ### Timeouts (R523, R524, R530) -/

/-- An exchange with the tag of the bus, at a step of it, ends TAG_NO_RESPONSE (R530). -/
def State.tagTimeout (s : State) (b : Fin 6) : State :=
  match finOf 4 b.val with
  | some t =>
      (match (s.sec.trays[t]).exch with
       | some e => if (s.tw.bus[b]).job = .idle then s.trayResult t e.cmd 113 else s
       | none => s)
  | none => s

/-- SCL_TIMEOUT (R523). -/
def State.sclTimeout (s : State) (b : Fin 6) : State :=
  if !s.coreUp then s
  else
    let s := ((s.twFlag b 1#32).twBus b 1).tagTimeout b
    let s := if (s.tw.bus[b]).job = .host then s.hostEnd b 6 0 else s.pollFail b
    s.twNext b
def execSclTimeout (b : Fin 6) (s : State) : Host.Outcome State Fault Refusal := done (s.sclTimeout b)

/-- SDA_TIMEOUT (R524): no transfer of the device's own runs; a controller clears the bus, and `cleared` tells whether SDA
then reads high. The service port only sets its flag. -/
def State.sdaTimeout (s : State) (b : Fin 6) (cleared : Bool) : State :=
  if !s.coreUp || (s.tw.bus[b]).job != .idle then s
  else
    let s := ((s.twFlag b 2#32).twBus b 2).tagTimeout b
    if b.val = 5 then s
    else
      let s := s.send (.twBusClear b.val)
      if cleared then s.twBus b 3
      else
        let s := (s.twFlag b 0x20#32).twBus b 4
        if (s.tw.bus[b]).hostWait then s.hostEnd b 7 0 else s
def execSdaTimeout (b : Fin 6) (cleared : Bool) (s : State) : Host.Outcome State Fault Refusal := done (s.sdaTimeout b cleared)

/-! ### Arbitration (R531, R532) -/

/-- ARBITRATION_LOST (R532): the transfer waits to be started again; after 8 lost attempts it ends ARB_FAIL. -/
def State.arbLost (s : State) : State :=
  let x := s.tw.bus[4]
  if x.job ≠ .host then s
  else if 8 ≤ x.lost + 1 then ((s.hostEnd 4 5 0).twFlag 4 8#32).twBus 4 5
  else s.modBus 4 fun x => { x with job := .idle, hostWait := true, lost := x.lost + 1 }
def execArbitrationLost (s : State) : Host.Outcome State Fault Refusal := done s.arbLost

/-- ARBITRATION_RETRY (R532): the bus is free and the drawn delay has passed. -/
def State.arbRetry (s : State) : State :=
  let x := s.tw.bus[4]
  if x.job = .idle ∧ x.hostWait = true ∧ s.wdt.restarting = false then s.hostBegin 4 else s
def execArbitrationRetry (s : State) : Host.Outcome State Fault Refusal := done s.arbRetry

/-! ### As target (R533 to R538) -/

def State.modTarget (s : State) (svc : Bool) (f : Target → Target) : State :=
  s.modTw fun t => if svc then { t with service := f t.service } else { t with board := f t.board }
def State.target (s : State) (svc : Bool) : Target := if svc then s.tw.service else s.tw.board
/-- The target acknowledges its address (R534). -/
def State.targetUp (s : State) : Bool :=
  match s.dev.state with
  | .powerup | .selftest | .otpHold => false
  | _ => true
/-- The address byte with write (R520). -/
def State.targetAddr (s : State) (svc : Bool) : Byte := byte (if svc then 0x58 else 2 * (0x50 + s.tw.baddr))

/-- The result of a frame (R537); `stop` tells a STOP from a repeated START. -/
def State.frameResult (s : State) (svc : Bool) (res : Nat) (stop : Bool) : State :=
  s.modTarget svc fun t => { t with result := res, frames := if stop then (t.frames + 1) % 16 else t.frames }

/-- A POINTER frame (R535): a repeated START leaves the status as it is. -/
def State.pointerFrame (s : State) (svc : Bool) (off : Nat) (stop : Bool) : State :=
  if !s.targetUp then s
  else
    let s := s.modTarget svc fun t => { t with ptr := off % 2 ^ 24 }
    if stop then s.frameResult svc (if off % 4 ≠ 0 ∨ 0x40000 ≤ off % 2 ^ 24 then 2 else 0) true else s
def execPointerFrame (svc : Bool) (off : Nat) (stop : Bool) (s : State) : Host.Outcome State Fault Refusal :=
  done (s.pointerFrame svc off stop)

/-- A port may write the words from `off` on: the mailbox on the board bus (R533), the first page on the service port, all
of BAR0 in factory test mode (R538). -/
def State.targetMay (s : State) (svc : Bool) (off n : Nat) : Bool :=
  if svc then decide (off + 4 * n ≤ 0x1000) || s.flt.factory
  else s.dev.state != .cocoon && decide (0xA200 ≤ off ∧ off + 4 * n ≤ 0xA220)
/-- The result of a WRITE frame (R537) whose shape R535 accepts. -/
def State.writeResult (s : State) (svc : Bool) (bytes : List Byte) (off n : Nat) : Nat :=
  if crc8 (s.targetAddr svc :: bytes.dropLast) ≠ bytes.getLastD 0 then 1
  else if off % 4 ≠ 0 ∨ 0x40000 < off + 4 * n then 2
  else if !s.targetMay svc off n then 3
  else if !svc && bit (s.tw.bus[4]).stat 8 then 5
  else 0
/-- An accepted mailbox write (R533). -/
def State.mailWrite (s : State) (bytes : List Byte) (off n : Nat) : State :=
  let first := (off - 0xA200) / 4
  let s := s.modTw fun t =>
    { t with mbox := Vector.ofFn fun k =>
               if first ≤ k.val ∧ k.val < first + n then BitVec.ofNat 32 (getLe bytes (3 + 4 * (k.val - first)) 4) else t.mbox[k]
             mboxLast := first + n - 1 }
  (s.twFlag 4 0x100#32).devEvent 98 [byte (first + n - 1)]
/-- A WRITE frame (R535): its words are written in order after the STOP, each as a BAR0 write in cycle `cyc`. -/
def State.writeFrame (s : State) (svc : Bool) (bytes : List Byte) (stop : Bool) (cyc : Nat) : State :=
  if !s.targetUp then s
  else
    let off := getLe bytes 0 3
    let n := (bytes.length - 4) / 4
    if bytes.length = 3 then s.pointerFrame svc off stop
    else if stop = false ∨ n = 0 ∨ 8 < n ∨ bytes.length ≠ 4 * n + 4 then s.frameResult svc 4 stop
    else
      let res := s.writeResult svc bytes off n
      let s := s.frameResult svc res true
      if res ≠ 0 then s
      else if svc then
        forEach (List.range n) (s.twFlag 5 0x40#32) fun s i =>
          s.regWrite (off + 4 * i) (BitVec.ofNat 32 (getLe bytes (3 + 4 * i) 4)) cyc
      else s.mailWrite bytes off n
def execWriteFrame (svc : Bool) (bytes : List Byte) (stop : Bool) (cyc : Nat) (s : State) : Host.Outcome State Fault Refusal :=
  done (s.writeFrame svc bytes stop cyc)

/-- The word that a port reads at an offset, with the effect of the read (R536, R533, R537, R538). -/
def State.targetRead (s : State) (svc : Bool) (off : Nat) : State × Word :=
  if off % 4 ≠ 0 ∨ 0x3F000 ≤ off then (s, 0)
  else if svc || decide (off < 0x1000 ∨ (0xA000 ≤ off ∧ off < 0xB000)) then s.regRead off
  else (s, 0)
/-- READ_WORD (R536): the STATUS byte first, where the word is the first after the address; then its six bytes; the pointer
advances. -/
def State.readWord (s : State) (svc first : Bool) : State :=
  if !s.targetUp then s
  else
    let t := s.target svc
    let (s, w) := s.targetRead svc t.ptr
    let bs := leBytes 3 t.ptr ++ leBytes 4 w.toNat
    let outs := (if first then [byte (t.frames * 16 + t.result)] else []) ++ byte t.ptr :: leBytes 4 w.toNat ++ [crc8 bs]
    (forEach outs s fun s b => s.send (.svcByte b)).modTarget svc fun t => { t with ptr := (t.ptr + 4) % 2 ^ 24 }
def execReadWord (svc first : Bool) (s : State) : Host.Outcome State Fault Refusal := done (s.readWord svc first)

/-! ### CH_TSENS (R525) -/

/-- CH_TSENS_WRITE (R525). -/
def execChTsensWrite (n : ChanNo) (v : Word) (s : State) : Host.Outcome State Fault Refusal := done (s.bar (s.chTsens n v))

end Sys2Proof.Machine
end

