-- ==== Sys2Proof/Machine/Dispatch.lean ====
section
/-!
DEFINITION. The dispatch of commands to their meanings: one arm per constructor of Instr.
-/
namespace Sys2Proof.Machine

/-- The effect of a command on everything but the queue. -/
def exec (i : Instr) (s : State) : Host.Outcome State Fault Refusal :=
  match i with
  | .sampleAperture raw => Sys2Proof.Machine.execSampleAperture raw s
  | .beatBoundary => Sys2Proof.Machine.execBeatBoundary s
  | .enginePickup e => Sys2Proof.Machine.execEnginePickup e s
  | .beatJob n cycles ctxError => Sys2Proof.Machine.execBeatJob n cycles ctxError s
  | .tenthBeatJob n cycles ctxError => Sys2Proof.Machine.execTenthBeatJob n cycles ctxError s
  | .milliJob n cycles ctxError => Sys2Proof.Machine.execMilliJob n cycles ctxError s
  | .overrunClassify => Sys2Proof.Machine.execOverrunClassify s
  | .residueTrip e => Sys2Proof.Machine.execResidueTrip e s
  | .progressTimeout e => Sys2Proof.Machine.execProgressTimeout e s
  | .jobOvertime e => Sys2Proof.Machine.execJobOvertime e s
  | .budgetWrite g v cyc => Sys2Proof.Machine.execBudgetWrite g v cyc s
  | .beatNumLoRead => Sys2Proof.Machine.execBeatNumLoRead s
  | .beatPeakClear v => Sys2Proof.Machine.execBeatPeakClear v s
  | .upperEdgeCrossing n tick => Sys2Proof.Machine.execUpperEdgeCrossing n tick s
  | .lowerEdgeCrossing n tick => Sys2Proof.Machine.execLowerEdgeCrossing n tick s
  | .deadTimeEnd n tick => Sys2Proof.Machine.execDeadTimeEnd n tick s
  | .minOnTimeEnd n tick => Sys2Proof.Machine.execMinOnTimeEnd n tick s
  | .minOffTimeEnd n tick => Sys2Proof.Machine.execMinOffTimeEnd n tick s
  | .interleaveSlot n tick => Sys2Proof.Machine.execInterleaveSlot n tick s
  | .slotDelayCap n tick => Sys2Proof.Machine.execSlotDelayCap n tick s
  | .phaseStopTimeout n => Sys2Proof.Machine.execPhaseStopTimeout n s
  | .currentWindowCrossing n high => Sys2Proof.Machine.execCurrentWindowCrossing n high s
  | .latchNvWrite => Sys2Proof.Machine.execLatchNvWrite s
  | .phOcClr n v cyc => Sys2Proof.Machine.execPhOcClr n v cyc s
  | .chCommit n v cyc => Sys2Proof.Machine.execChCommit n v cyc s
  | .chClr n v cyc => Sys2Proof.Machine.execChClr n v cyc s
  | .laneSlot clocks frame cyc => Sys2Proof.Machine.execLaneSlot clocks frame cyc s
  | .calibrationSlot g => Sys2Proof.Machine.execCalibrationSlot g s
  | .substitutionTakeover g voltage => Sys2Proof.Machine.execSubstitutionTakeover g voltage s
  | .substitutionVerdict g voltage => Sys2Proof.Machine.execSubstitutionVerdict g voltage s
  | .seriesTestStart g v => Sys2Proof.Machine.execSeriesTestStart g v s
  | .seriesTestDone g reading change => Sys2Proof.Machine.execSeriesTestDone g reading change s
  | .metCtrlGo p v => Sys2Proof.Machine.execMetCtrlGo p v s
  | .metrologyDone p sum => Sys2Proof.Machine.execMetrologyDone p sum s
  | .calZero p => Sys2Proof.Machine.execCalZero p s
  | .calZeroDone p sum sumSq => Sys2Proof.Machine.execCalZeroDone p sum sumSq s
  | .calFull p => Sys2Proof.Machine.execCalFull p s
  | .calFullDone p sum sumSq => Sys2Proof.Machine.execCalFullDone p sum sumSq s
  | .calStore p => Sys2Proof.Machine.execCalStore p s
  | .calAbort p => Sys2Proof.Machine.execCalAbort p s
  | .calAbandonTimeout p => Sys2Proof.Machine.execCalAbandonTimeout p s
  | .ownershipChange p => Sys2Proof.Machine.execOwnershipChange p s
  | .transferDue g => Sys2Proof.Machine.execTransferDue g s
  | .metXferGo v => Sys2Proof.Machine.execMetXferGo v s
  | .transferStart p => Sys2Proof.Machine.execTransferStart p s
  | .transferDone p refv refi => Sys2Proof.Machine.execTransferDone p refv refi s
  | .transferAged g voltage => Sys2Proof.Machine.execTransferAged g voltage s
  | .crossCheckDone p code => Sys2Proof.Machine.execCrossCheckDone p code s
  | .xchkTimeout n => Sys2Proof.Machine.execXchkTimeout n s
  | .voltageTripCrossing n high => Sys2Proof.Machine.execVoltageTripCrossing n high s
  | .windowCrossingEnd n voltage high => Sys2Proof.Machine.execWindowCrossingEnd n voltage high s
  | .mothDecision n shunt cell => Sys2Proof.Machine.execMothDecision n shunt cell s
  | .windowThresholdWrite n w v => Sys2Proof.Machine.execWindowThresholdWrite n w v s
  | .comparatorSettled n => Sys2Proof.Machine.execComparatorSettled n s
  | .tripHoldExpiry n w => Sys2Proof.Machine.execTripHoldExpiry n w s
  | .thresholdReadback g voltage raws => Sys2Proof.Machine.execThresholdReadback g voltage raws s
  | .barrierTimeout n => Sys2Proof.Machine.execBarrierTimeout n s
  | .tempLost n => Sys2Proof.Machine.execTempLost n s
  | .referenceStale n => Sys2Proof.Machine.execReferenceStale n s
  | .forget n v cyc => Sys2Proof.Machine.execForget n v cyc s
  | .lifetimeWrite => Sys2Proof.Machine.execLifetimeWrite s
  | .hsNtcConversion hs ntc v cur vin => Sys2Proof.Machine.execHsNtcConversion hs ntc v cur vin s
  | .hsHistogramTick => Sys2Proof.Machine.execHsHistogramTick s
  | .perstNAssert => Sys2Proof.Machine.execPerstNAssert s
  | .hotReset => Sys2Proof.Machine.execHotReset s
  | .linkDown => Sys2Proof.Machine.execLinkDown s
  | .functionLevelReset => Sys2Proof.Machine.execFunctionLevelReset s
  | .d3hotToD0 => Sys2Proof.Machine.execD3hotToD0 s
  | .busMasterEnableChange on msix mask pci clear => Sys2Proof.Machine.execBusMasterEnableChange on msix mask pci clear s
  | .hrgCmdqCfg v => Sys2Proof.Machine.execHrgCmdqCfg v s
  | .hrgCplqCfg v => Sys2Proof.Machine.execHrgCplqCfg v s
  | .hrgEvtqCfg v => Sys2Proof.Machine.execHrgEvtqCfg v s
  | .hrgDbCmdq v => Sys2Proof.Machine.execHrgDbCmdq v s
  | .hrgDbCplq v => Sys2Proof.Machine.execHrgDbCplq v s
  | .hrgDbEvtq v => Sys2Proof.Machine.execHrgDbEvtq v s
  | .hrgDbTsq k v => Sys2Proof.Machine.execHrgDbTsq k v s
  | .descriptorFetch descs => Sys2Proof.Machine.execDescriptorFetch descs s
  | .fetchError e => Sys2Proof.Machine.execFetchError e s
  | .nop => Sys2Proof.Machine.execNop s
  | .configWrite data cyc => Sys2Proof.Machine.execConfigWrite data cyc s
  | .commit data cyc => Sys2Proof.Machine.execCommit data cyc s
  | .commitAtBeat => Sys2Proof.Machine.execCommitAtBeat s
  | .recipeLoad data => Sys2Proof.Machine.execRecipeLoad data s
  | .recipeStart cyc => Sys2Proof.Machine.execRecipeStart cyc s
  | .channelStop cyc => Sys2Proof.Machine.execChannelStop cyc s
  | .channelResume cyc => Sys2Proof.Machine.execChannelResume cyc s
  | .readState cut => Sys2Proof.Machine.execReadState cut s
  | .logRead cut => Sys2Proof.Machine.execLogRead cut s
  | .streamConfig data cyc => Sys2Proof.Machine.execStreamConfig data cyc s
  | .calSystem => Sys2Proof.Machine.execCalSystem s
  | .trayAuth serial ack => Sys2Proof.Machine.execTrayAuth serial ack s
  | .linkPolicy data => Sys2Proof.Machine.execLinkPolicy data s
  | .budgetSet => Sys2Proof.Machine.execBudgetSet s
  | .timeSet => Sys2Proof.Machine.execTimeSet s
  | .digestQuery cut => Sys2Proof.Machine.execDigestQuery cut s
  | .updateStage data => Sys2Proof.Machine.execUpdateStage data s
  | .updateActivate => Sys2Proof.Machine.execUpdateActivate s
  | .updateConfirm => Sys2Proof.Machine.execUpdateConfirm s
  | .eventRelease => Sys2Proof.Machine.execEventRelease s
  | .interruptHoldoff evt => Sys2Proof.Machine.execInterruptHoldoff evt s
  | .blockWrite => Sys2Proof.Machine.execBlockWrite s
  | .tsqCfg k v cyc => Sys2Proof.Machine.execTsqCfg k v cyc s
  | .linkRetrain speed width => Sys2Proof.Machine.execLinkRetrain speed width s
  | .ringPortChange ring up => Sys2Proof.Machine.execRingPortChange ring up s
  | .trainReceive ring hdr slots f t => Sys2Proof.Machine.execTrainReceive ring hdr slots f t s
  | .alignedEntry => Sys2Proof.Machine.execAlignedEntry s
  | .alignmentLoss => Sys2Proof.Machine.execAlignmentLoss s
  | .ringSwitch => Sys2Proof.Machine.execRingSwitch s
  | .leaderLost => Sys2Proof.Machine.execLeaderLost s
  | .electionWin => Sys2Proof.Machine.execElectionWin s
  | .electionRestart => Sys2Proof.Machine.execElectionRestart s
  | .leaderCompare ring => Sys2Proof.Machine.execLeaderCompare ring s
  | .reepoch => Sys2Proof.Machine.execReepoch s
  | .epoch ring addr strap delta => Sys2Proof.Machine.execEpoch ring addr strap delta s
  | .info ring addr roster rlast lead q => Sys2Proof.Machine.execInfo ring addr roster rlast lead q s
  | .ringRelease ring addr id offset rseq trainBeat => Sys2Proof.Machine.execRingRelease ring addr id offset rseq trainBeat s
  | .activate ring addr tag offset rseq trainBeat => Sys2Proof.Machine.execActivate ring addr tag offset rseq trainBeat s
  | .activateCommit => Sys2Proof.Machine.execActivateCommit s
  | .mismatch ring addr trunc => Sys2Proof.Machine.execMismatch ring addr trunc s
  | .updReset ring addr offset rseq manifest trainBeat => Sys2Proof.Machine.execUpdReset ring addr offset rseq manifest trainBeat s
  | .updResetAction => Sys2Proof.Machine.execUpdResetAction s
  | .status ring addr st flags dly => Sys2Proof.Machine.execStatus ring addr st flags dly s
  | .digest ring addr trunc => Sys2Proof.Machine.execDigest ring addr trunc s
  | .barReport ring addr id ready waiting digest => Sys2Proof.Machine.execBarReport ring addr id ready waiting digest s
  | .staged ring addr tag count => Sys2Proof.Machine.execStaged ring addr tag count s
  | .updStagedMessage ring addr trunc => Sys2Proof.Machine.execUpdStagedMessage ring addr trunc s
  | .ping ring addr seq turn => Sys2Proof.Machine.execPing ring addr seq turn s
  | .pong ring addr seq turn rt => Sys2Proof.Machine.execPong ring addr seq turn rt s
  | .claim ring addr strap serial => Sys2Proof.Machine.execClaim ring addr strap serial s
  | .barrierReleaseIssue id => Sys2Proof.Machine.execBarrierReleaseIssue id s
  | .domBarRel v => Sys2Proof.Machine.execDomBarRel v s
  | .barReportSend id => Sys2Proof.Machine.execBarReportSend id s
  | .digestSend => Sys2Proof.Machine.execDigestSend s
  | .stagedSend => Sys2Proof.Machine.execStagedSend s
  | .updStagedSend => Sys2Proof.Machine.execUpdStagedSend s
  | .pingSend ring => Sys2Proof.Machine.execPingSend ring s
  | .sweepEnd => Sys2Proof.Machine.execSweepEnd s
  | .domStage v => Sys2Proof.Machine.execDomStage v s
  | .domActGo v => Sys2Proof.Machine.execDomActGo v s
  | .domActCancel v => Sys2Proof.Machine.execDomActCancel v s
  | .activationSend => Sys2Proof.Machine.execActivationSend s
  | .activationTimeout => Sys2Proof.Machine.execActivationTimeout s
  | .domCtrlEn v => Sys2Proof.Machine.execDomCtrlEn v s
  | .rlastClr v => Sys2Proof.Machine.execRlastClr v s
  | .digestRecompute => Sys2Proof.Machine.execDigestRecompute s
  | .accReading x mv => Sys2Proof.Machine.execAccReading x mv s
  | .togglePeriod x => Sys2Proof.Machine.execTogglePeriod x s
  | .attachDebounce x => Sys2Proof.Machine.execAttachDebounce x s
  | .detach x => Sys2Proof.Machine.execDetach x s
  | .reversedWithdraw x => Sys2Proof.Machine.execReversedWithdraw x s
  | .reversedReturn x => Sys2Proof.Machine.execReversedReturn x s
  | .packetSend x v cur vlink => Sys2Proof.Machine.execPacketSend x v cur vlink s
  | .offer x hdr objs crc => Sys2Proof.Machine.execOffer x hdr objs crc s
  | .bid x hdr objs crc => Sys2Proof.Machine.execBid x hdr objs crc s
  | .accept x hdr objs crc => Sys2Proof.Machine.execAccept x hdr objs crc s
  | .reject x hdr objs crc => Sys2Proof.Machine.execReject x hdr objs crc s
  | .live x hdr objs crc => Sys2Proof.Machine.execLive x hdr objs crc s
  | .askOffer x hdr objs crc => Sys2Proof.Machine.execAskOffer x hdr objs crc s
  | .swapReq x hdr objs crc => Sys2Proof.Machine.execSwapReq x hdr objs crc s
  | .wait x hdr objs crc => Sys2Proof.Machine.execWait x hdr objs crc s
  | .accordRelease x hdr objs crc => Sys2Proof.Machine.execAccordRelease x hdr objs crc s
  | .unhandled x hdr objs crc => Sys2Proof.Machine.execUnhandled x hdr objs crc s
  | .unknownPacket x hdr objs crc => Sys2Proof.Machine.execUnknownPacket x hdr objs crc s
  | .echo x hdr objs crc => Sys2Proof.Machine.execEcho x hdr objs crc s
  | .hardResetReceived x => Sys2Proof.Machine.execHardResetReceived x s
  | .echoTimeout x => Sys2Proof.Machine.execEchoTimeout x s
  | .answerTimeout x => Sys2Proof.Machine.execAnswerTimeout x s
  | .offerRepeat x => Sys2Proof.Machine.execOfferRepeat x s
  | .drainComplete x v vlink => Sys2Proof.Machine.execDrainComplete x v vlink s
  | .drainTimeout x => Sys2Proof.Machine.execDrainTimeout x s
  | .prechargeDone x v vlink => Sys2Proof.Machine.execPrechargeDone x v vlink s
  | .prechargeTimeout x => Sys2Proof.Machine.execPrechargeTimeout x s
  | .defaultOvercurrent x cur => Sys2Proof.Machine.execDefaultOvercurrent x cur s
  | .settleTimeout x => Sys2Proof.Machine.execSettleTimeout x s
  | .liveTimeout x => Sys2Proof.Machine.execLiveTimeout x s
  | .sinkClose x v vlink => Sys2Proof.Machine.execSinkClose x v vlink s
  | .closeTimeout x => Sys2Proof.Machine.execCloseTimeout x s
  | .windowViolation x v => Sys2Proof.Machine.execWindowViolation x v s
  | .contractOvercurrent x cur => Sys2Proof.Machine.execContractOvercurrent x cur s
  | .reverseFlow x cur => Sys2Proof.Machine.execReverseFlow x cur s
  | .noFlow x cur => Sys2Proof.Machine.execNoFlow x cur s
  | .sourceVlinkFault x vlink => Sys2Proof.Machine.execSourceVlinkFault x vlink s
  | .linkOcpTrip x cur => Sys2Proof.Machine.execLinkOcpTrip x cur s
  | .swapHandover x v => Sys2Proof.Machine.execSwapHandover x v s
  | .swapTimeout x => Sys2Proof.Machine.execSwapTimeout x s
  | .swapBackoffEnd x => Sys2Proof.Machine.execSwapBackoffEnd x s
  | .hardResetRecovery x v => Sys2Proof.Machine.execHardResetRecovery x v s
  | .roleHoldExpiry x => Sys2Proof.Machine.execRoleHoldExpiry x s
  | .exportDesire x on vlink => Sys2Proof.Machine.execExportDesire x on vlink s
  | .importDesire x on vlink => Sys2Proof.Machine.execImportDesire x on vlink s
  | .askOfferRepeat x => Sys2Proof.Machine.execAskOfferRepeat x s
  | .policyApply x => Sys2Proof.Machine.execPolicyApply x s
  | .lnkCtrlEn x v => Sys2Proof.Machine.execLnkCtrlEn x v s
  | .lnkCtrlHrst x v => Sys2Proof.Machine.execLnkCtrlHrst x v s
  | .lnkCtrlSwap x v => Sys2Proof.Machine.execLnkCtrlSwap x v s
  | .lnkCtrlRel x v => Sys2Proof.Machine.execLnkCtrlRel x v s
  | .mainLost byOk => Sys2Proof.Machine.execMainLost byOk s
  | .mainReturned => Sys2Proof.Machine.execMainReturned s
  | .rideThroughEnd => Sys2Proof.Machine.execRideThroughEnd s
  | .vstopReached v => Sys2Proof.Machine.execVstopReached v s
  | .vlinkCollapse v => Sys2Proof.Machine.execVlinkCollapse v s
  | .saveSeal => Sys2Proof.Machine.execSaveSeal s
  | .idealDiodeReverse => Sys2Proof.Machine.execIdealDiodeReverse s
  | .chgEnWrite v => Sys2Proof.Machine.execChgEnWrite v s
  | .chgShortTestEnd vhold => Sys2Proof.Machine.execChgShortTestEnd vhold s
  | .chgPrechargeEnd vhold => Sys2Proof.Machine.execChgPrechargeEnd vhold s
  | .chgPrechargeTimeout => Sys2Proof.Machine.execChgPrechargeTimeout s
  | .chgVregReached vhold => Sys2Proof.Machine.execChgVregReached vhold s
  | .chgTermination cur => Sys2Proof.Machine.execChgTermination cur s
  | .chgSafetyTimer => Sys2Proof.Machine.execChgSafetyTimer s
  | .chgNtcRange st t => Sys2Proof.Machine.execChgNtcRange st t s
  | .chgNtcRecovered t => Sys2Proof.Machine.execChgNtcRecovered t s
  | .chgRecharge v => Sys2Proof.Machine.execChgRecharge v s
  | .presenceTest v0 v2 => Sys2Proof.Machine.execPresenceTest v0 v2 s
  | .learn v => Sys2Proof.Machine.execLearn v s
  | .learnAbort v => Sys2Proof.Machine.execLearnAbort v s
  | .holdupLearnRest => Sys2Proof.Machine.execHoldupLearnRest s
  | .rtcSwitch toVrtc => Sys2Proof.Machine.execRtcSwitch toVrtc s
  | .rtcReset => Sys2Proof.Machine.execRtcReset s
  | .rtcSecond => Sys2Proof.Machine.execRtcSecond s
  | .rtcOscFail => Sys2Proof.Machine.execRtcOscFail s
  | .rtcSubsecRead sub => Sys2Proof.Machine.execRtcSubsecRead sub s
  | .rtcYearRead => Sys2Proof.Machine.execRtcYearRead s
  | .shadowTimeout => Sys2Proof.Machine.execShadowTimeout s
  | .rtcLoad v => Sys2Proof.Machine.execRtcLoad v s
  | .vbackValid crcOk => Sys2Proof.Machine.execVbackValid crcOk s
  | .powerUpStart => Sys2Proof.Machine.execPowerUpStart s
  | .slotOn k t => Sys2Proof.Machine.execSlotOn k t s
  | .pgChange k mv t => Sys2Proof.Machine.execPgChange k mv t s
  | .pgTimeout k t => Sys2Proof.Machine.execPgTimeout k t s
  | .fltExt => Sys2Proof.Machine.execFltExt s
  | .slotOff k t => Sys2Proof.Machine.execSlotOff k t s
  | .offTimeout k t => Sys2Proof.Machine.execOffTimeout k t s
  | .gapEnd => Sys2Proof.Machine.execGapEnd s
  | .retryCountReset => Sys2Proof.Machine.execRetryCountReset s
  | .fltNRise => Sys2Proof.Machine.execFltNRise s
  | .resetRelease j => Sys2Proof.Machine.execResetRelease j s
  | .seqRstHold j v => Sys2Proof.Machine.execSeqRstHold j v s
  | .marginWrite k v => Sys2Proof.Machine.execMarginWrite k v s
  | .marginStep => Sys2Proof.Machine.execMarginStep s
  | .profileStore v ok => Sys2Proof.Machine.execProfileStore v ok s
  | .suppliesValid durUs pins => Sys2Proof.Machine.execSuppliesValid durUs pins s
  | .selftestStepDone r => Sys2Proof.Machine.execSelftestStepDone r s
  | .glbReset v => Sys2Proof.Machine.execGlbReset v s
  | .glbChrysalis v => Sys2Proof.Machine.execGlbChrysalis v s
  | .glbWake v => Sys2Proof.Machine.execGlbWake v s
  | .coreSupplyFault => Sys2Proof.Machine.execCoreSupplyFault s
  | .censusAccept v => Sys2Proof.Machine.execCensusAccept v s
  | .noPulseWrite v => Sys2Proof.Machine.execNoPulseWrite v s
  | .svcDataLoRead err => Sys2Proof.Machine.execSvcDataLoRead err s
  | .svcDataHiRead => Sys2Proof.Machine.execSvcDataHiRead s
  | .holdResponderRead n => Sys2Proof.Machine.execHoldResponderRead n s
  | .supplyMonitorTrip k mv => Sys2Proof.Machine.execSupplyMonitorTrip k mv s
  | .clockMonitorTrip pll refin => Sys2Proof.Machine.execClockMonitorTrip pll refin s
  | .dieOvertemp t => Sys2Proof.Machine.execDieOvertemp t s
  | .fltHitClear j v => Sys2Proof.Machine.execFltHitClear j v s
  | .fltFirstClear v => Sys2Proof.Machine.execFltFirstClear v s
  | .fltSoft v => Sys2Proof.Machine.execFltSoft v s
  | .fltInject v => Sys2Proof.Machine.execFltInject v s
  | .fltTestkey v => Sys2Proof.Machine.execFltTestkey v s
  | .fltSevWrite j v => Sys2Proof.Machine.execFltSevWrite j v s
  | .wbRestart v => Sys2Proof.Machine.execWbRestart v s
  | .wbHold v => Sys2Proof.Machine.execWbHold v s
  | .wingbeatToggle => Sys2Proof.Machine.execWingbeatToggle s
  | .faultNPulseEnd => Sys2Proof.Machine.execFaultNPulseEnd s
  | .configCheck => Sys2Proof.Machine.execConfigCheck s
  | .heartbeat ok => Sys2Proof.Machine.execHeartbeat ok s
  | .icT2Claim => Sys2Proof.Machine.execIcT2Claim s
  | .icT2Complete v => Sys2Proof.Machine.execIcT2Complete v s
  | .icSrcWrite k v => Sys2Proof.Machine.execIcSrcWrite k v s
  | .wdtEn v => Sys2Proof.Machine.execWdtEn v s
  | .wdtKey v => Sys2Proof.Machine.execWdtKey v s
  | .wdtCheckin v => Sys2Proof.Machine.execWdtCheckin v s
  | .wdtOpen => Sys2Proof.Machine.execWdtOpen s
  | .wdtEarly => Sys2Proof.Machine.execWdtEarly s
  | .wdtWindowEnd => Sys2Proof.Machine.execWdtWindowEnd s
  | .wdtKeyTimeout => Sys2Proof.Machine.execWdtKeyTimeout s
  | .wdtDeferredExpiry => Sys2Proof.Machine.execWdtDeferredExpiry s
  | .supervisorRestart => Sys2Proof.Machine.execSupervisorRestart s
  | .otpBurn v => Sys2Proof.Machine.execOtpBurn v s
  | .otpFinalise v => Sys2Proof.Machine.execOtpFinalise v s
  | .otpRead v => Sys2Proof.Machine.execOtpRead v s
  | .otpOperationDone fails => Sys2Proof.Machine.execOtpOperationDone fails s
  | .attest v => Sys2Proof.Machine.execAttest v s
  | .attestDone => Sys2Proof.Machine.execAttestDone s
  | .dbgOpen v => Sys2Proof.Machine.execDbgOpen v s
  | .debugAccess q => Sys2Proof.Machine.execDebugAccess q s
  | .trayMapWrite t j v => Sys2Proof.Machine.execTrayMapWrite t j v s
  | .trayRemoved t => Sys2Proof.Machine.execTrayRemoved t s
  | .trayInserted t serial ack => Sys2Proof.Machine.execTrayInserted t serial ack s
  | .tagResponseRead t resp late => Sys2Proof.Machine.execTagResponseRead t resp late s
  | .twXctlGo b v => Sys2Proof.Machine.execTwXctlGo b v s
  | .twTransferDone b res idx rd => Sys2Proof.Machine.execTwTransferDone b res idx rd s
  | .pollPeriod b => Sys2Proof.Machine.execPollPeriod b s
  | .pollReadDone b rd => Sys2Proof.Machine.execPollReadDone b rd s
  | .sclTimeout b => Sys2Proof.Machine.execSclTimeout b s
  | .sdaTimeout b cleared => Sys2Proof.Machine.execSdaTimeout b cleared s
  | .arbitrationLost => Sys2Proof.Machine.execArbitrationLost s
  | .arbitrationRetry => Sys2Proof.Machine.execArbitrationRetry s
  | .pointerFrame svc off stop => Sys2Proof.Machine.execPointerFrame svc off stop s
  | .writeFrame svc bytes stop cyc => Sys2Proof.Machine.execWriteFrame svc bytes stop cyc s
  | .readWord svc first => Sys2Proof.Machine.execReadWord svc first s
  | .chTsensWrite n v => Sys2Proof.Machine.execChTsensWrite n v s
  | .registerWrite off v cyc width => Sys2Proof.Machine.execRegisterWrite off v cyc width s
  | .pcieLinkUp speed width => Sys2Proof.Machine.execPcieLinkUp speed width s
  | .perstNDeassert => Sys2Proof.Machine.execPerstNDeassert s
  | .d0ToD3hot pme => Sys2Proof.Machine.execD0ToD3hot pme s
  | .vbackLost => Sys2Proof.Machine.execVbackLost s
  | .nvDone ok => Sys2Proof.Machine.execNvDone ok s
  | .dieThermal => Sys2Proof.Machine.execDieThermal s
  | .thermLim on => Sys2Proof.Machine.execThermLim on s
  | .supplyMonitorRecovery k => Sys2Proof.Machine.execSupplyMonitorRecovery k s

end Sys2Proof.Machine
end

