-- ==== Sys2Proof/Safety.lean ====
section
/-!
DEFINITION. The terms in which the statements speak of a command: the parts of State, which of them a command leaves as they
were, the gates of a power stage that may never be on together (R59 of spec/02_phase_control.md), and the interrupt lines
in step with what stands pending (R469, R473 of spec/15_faults_interrupts_watchdog.md).
-/
namespace Sys2Proof.Machine

/-- The parts of State of which a statement can say that a command leaves them as they were. -/
inductive Part where
  | beat | phases | chans | groups | lane | gov | met | store | host | tel | dom | links | hold | saves | rtc | seq | dev
  | flt | ic | wdt | sec | tw | log | queue
deriving DecidableEq, Repr

/-- A part is in `t` as it is in `s`. After every command the interrupt lines and their levels, WAKE_N, vector 0, the latency
reported and a counter raise that waited for READY settle anew (R247, R288, R469 to R473, R512); they count to no part here. -/
def Same (s t : State) : Part → Prop
  | .beat => t.beat = s.beat
  | .phases => t.phases = s.phases
  | .chans => t.chans = s.chans
  | .groups => t.groups = s.groups
  | .lane => t.lane = s.lane
  | .gov => t.gov = s.gov
  | .met => t.met = s.met
  | .store => t.store = s.store
  | .host => { t.host with wakeN := s.host.wakeN, msixPend := s.host.msixPend, ltrSent := s.host.ltrSent } = s.host
  | .tel => t.tel = s.tel
  | .dom => t.dom = s.dom
  | .links => t.links = s.links
  | .hold => t.hold = s.hold
  | .saves => t.saves = s.saves
  | .rtc => t.rtc = s.rtc
  | .seq => t.seq = s.seq
  | .dev => t.dev = s.dev
  | .flt => t.flt = s.flt
  | .ic => { t.ic with src := s.ic.src, irqN := s.ic.irqN, delivered := s.ic.delivered } = s.ic
  | .wdt => t.wdt = s.wdt
  | .sec => { t.sec with otpA := s.sec.otpA, otpB := s.sec.otpB, raiseSvn := s.sec.raiseSvn } = s.sec
  | .tw => t.tw = s.tw
  | .log => t.log = s.log
  | .queue => t.pending = s.pending

/-- Every part but those named is in `t` as it is in `s`. -/
def Frame (s t : State) (changed : List Part) : Prop := ∀ p : Part, p ∉ changed → Same s t p

/-- A short or a background command can start: `d` is the only descriptor fetched, a completion slot is free and its
identity is new, no completion waits, and memory may be written (R250, R262 to R264). -/
def Front (s : State) (d : Desc) : Prop :=
  s.host.fetched = [d] ∧ s.canStart = true ∧ s.host.bme = true ∧ s.host.cplPend = [] ∧
    (∀ c ∈ s.host.running, c.id ≠ s.host.nextId) ∧ s.dev.state ≠ .chrysalis ∧ s.dev.state ≠ .rideThrough

/-- A descriptor whose reserved bits are 0 and that has no data buffer (R259). -/
def Desc.bare (d : Desc) : Prop := d.flags < 2 ∧ d.rsv = 0 ∧ d.len = 0

/-- A descriptor with an aligned data buffer of `n` bytes (R259, R266). -/
def Desc.buffer (d : Desc) (n : Nat) : Prop :=
  d.flags < 2 ∧ d.rsv = 0 ∧ d.len = n ∧ d.addr % 4 = 0 ∧ d.addr + n ≤ 18446744073709551616

/-- The completion of the front descriptor is in host memory at the head of CPLQ, with its CID, OPCODE, STATUS, DETAIL,
VALUE, the CMDQ head and the PHASE of the ring (R261), and the command runs no longer. -/
def Completed (s t : State) (d : Desc) (status detail value : Nat) (background : Bool) : Prop :=
  Out.hostWrite (s.host.cplq.base.toNat + 16 * s.host.cplq.dev)
    (leBytes 2 d.cid ++ [byte d.opcode, byte status] ++ leBytes 4 detail ++ leBytes 4 value ++ leBytes 2 s.host.cmdq.dev ++
      [byte ((if s.host.cplq.phase then 1 else 0) + if background then 2 else 0), 0]) ∈ t.outbox ∧
  t.host.fetched = [] ∧ t.host.running = s.host.running

/-- The front descriptor has started and still runs, under the identity that was next (R262, R264). -/
def Running (s t : State) (d : Desc) (background : Bool) : Prop :=
  t.host.fetched = [] ∧ t.host.running = s.host.running ++
    [{ id := s.host.nextId, cid := d.cid, opcode := d.opcode, background := background, reserved := true, target := d.target }]

/-- A packet of TYPE `typ` with a good CRC reaches an attached port whose protocol runs, is no ECHO and no repeat of the last
one, and completes no swap; Galdor is not restarting (R352, R354, R367, R482). -/
def Heard (s : State) (x : Fin 2) (hdr : Nat) (objs : List Word) (crc : Word) (typ : Nat) : Prop :=
  let p := s.links.port[x]
  p.state.attached = true ∧ s.linksRun = true ∧ p.en = true ∧ packetType hdr objs p.source = typ ∧ hdr % 64 ≠ 1 ∧
    crc = packetCrc hdr objs ∧ p.rxLast ≠ some (hdr / 2048 % 8, crc) ∧ p.swap = none ∧ s.wdt.restarting = false

/-- The packet heard has been answered with an ECHO and is the last one received; nothing but the links and the events
raised has changed (R352). -/
def Echoed (s t : State) (x : Fin 2) (hdr : Nat) (crc : Word) : Prop :=
  let head := hdr / 2048 % 8 * 2048 + 256 + (if (s.links.port[x]).source then 64 else 0) + 1
  Out.linkPacket x.val head [crc] (packetCrc head [crc]) ∈ t.outbox ∧ Frame s t [.links, .host]

/-- An attached port after a hard reset: its switch open, no contract, HARD_RESET or, on the third within 60 s, LOCKOUT
(R369, R370). -/
def Wiped (s t : State) (x : Fin 2) : Prop :=
  (t.links.port[x]).switch = false ∧ (t.links.port[x]).contract = none ∧ (t.links.port[x]).queue = [] ∧
    (t.links.port[x]).hrst = min 0xFFFF ((s.links.port[x]).hrst + 1) ∧
    ((t.links.port[x]).state = .hardReset ∨ (t.links.port[x]).state = .lockout) ∧ Frame s t [.links, .host]

/-- Of a group at most the calibration states, whose ages follow the clock, have changed (R147). -/
def AgesOnly (s t : State) : Prop :=
  ∀ g : GroupNo, t.groups[g] = { s.groups[g] with stateV := (t.groups[g]).stateV, stateI := (t.groups[g]).stateI }

/-- A port that has sent RELEASE: no contract, default power in its role, a sink's switch open (R362). -/
def Released (s t : State) (x : Fin 2) (reason : Nat) : Prop :=
  (t.links.port[x]).contract = none ∧ (t.links.port[x]).agreed = none ∧
    (t.links.port[x]).state = (if (s.links.port[x]).source then .sDefault else .kDefault) ∧
    (t.links.port[x]).switch = ((s.links.port[x]).switch && (s.links.port[x]).source) ∧
    (t.links.port[x]).queue = [{ typ := 10, objs := [BitVec.ofNat 32 reason], swap := false }] ∧ Frame s t [.links, .host]

/-- The core has been reset: POWERUP, no beat, every switch open, the channels as after reset; the latches, the log, the
sequencer, the clock and the queue are kept (R95, R412, R432). -/
def CoreReset (s t : State) : Prop :=
  t.dev.state = .powerup ∧ t.beat.running = false ∧ t.chans = State.reset.chans ∧
    (∀ p : PhaseNo, t.phases[p].gh = false ∧ t.phases[p].gl = false ∧ t.phases[p].latched = s.phases[p].latched) ∧
    (∀ x : Fin 2, (t.links.port[x]).switch = false) ∧ t.log = s.log ∧ t.seq = s.seq ∧ t.rtc.now = s.rtc.now ∧
    t.pending = s.pending

/-- No power stage has both its switches on (R59). -/
def GatesSafe (s : State) : Prop := ∀ p : PhaseNo, ¬(s.phases[p].gh = true ∧ s.phases[p].gl = true)

/-- IRQ_N says whether T2 can be delivered anything (R473, R446), and every source with a level carries it (R469). -/
def LinesSettled (s : State) : Prop :=
  s.ic.irqN = !((s.ic.best 2).isSome || s.dev.state == .cocoon) ∧ s.ic.delivered = (s.ic.best 2).isSome ∧
  ∀ k : Fin 64, ∀ i, s.levelInput k.val = some i → (s.ic.src[k]).input = i

end Sys2Proof.Machine
end

