-- ==== Sys2Proof/Certificates/Slice0/Obligations.lean ====
section
/-!
DEFINITION. The statements for the provers: what each command of the opcode table does to the state, where it completes, and
what it leaves as it was. Each `∃ t, exec c s = .next t ∧ …` says that the command answers a next state, and what that
state holds.
-/
open Sys2Proof Sys2Proof.Machine

/-- One step is one command: the front of the queue is taken off and runs on the rest. An empty queue idles (the model's
choice, log entry 1). -/
def Obligations.StepRunsTheFrontCommand : Prop :=
  (∀ (c : Instr) (s : State) (rest : List Instr),
    step { s with pending := c :: rest } = exec c { s with pending := rest }) ∧
  ∀ s : State, s.pending = [] → step s = .next s

/-- After every command IRQ_N is low exactly while something is deliverable to T2 or the device is in COCOON (R446, R473),
and every source with a level input carries that level (R469, R475). -/
def Obligations.EveryStepSettlesTheInterruptLines : Prop :=
  (∀ s t : State, LinesSettled s → step s = .next t → LinesSettled t) ∧
  ∀ (c : Instr) (rest : List Instr) (s : State), ∃ t, step { s with pending := c :: rest } = .next t ∧ LinesSettled t

/-- The state right after reset: POWERUP, both gates of every phase low, no beat runs, interrupt lines settled. -/
def Obligations.ResetIsSettled : Prop :=
  LinesSettled State.reset ∧ GatesSafe State.reset ∧ State.reset.dev.state = .powerup ∧ State.reset.beat.running = false ∧
    State.reset.pending = []

/-- No command of this block stops: a command whose conditions do not hold changes nothing but the lines (R469, R473). -/
def Obligations.EveryCommandAnswersASettledState : Prop :=
  ∀ (c : Instr) (s : State), ∃ t, exec c s = .next t ∧ LinesSettled t

/-- BEAT_BOUNDARY advances the beat by one (R28); SAMPLE_APERTURE fills the sample set of the beat that opens next (R21, R22). -/
def Obligations.BoundaryAndAperturesAdvanceTheBeat : Prop :=
  (∀ s : State, s.beat.running = true →
    ∃ t, exec .beatBoundary s = .next t ∧ t.beat.running = true ∧ t.beat.uptime = s.beat.uptime + 1 ∧ t.beat.formed = 0 ∧
      (s.dom.reepochDue = false → t.beat.number = s.beat.number + 1)) ∧
  (∀ s : State, s.beat.running = false → ∃ t, exec .beatBoundary s = .next t ∧ Frame s t []) ∧
  (∀ (s : State) (raw : Vector (BitVec 16) 340), s.beat.running = true → s.beat.formed < 2 →
    ∃ t, exec (.sampleAperture raw) s = .next t ∧ t.beat.formed = s.beat.formed + 1 ∧
      (s.beat.formed = 0 → t.beat.forming.beat = s.beat.number + 1) ∧
      (∀ g : GroupNo, t.groups[g] =
        (s.groups[g]).aperture (fun i => raw[(⟨34 * g.val + i.val, by omega⟩ : Fin 340)]) s.beat.number) ∧
      (∀ p : PhaseNo, let i := (t.groups[groupOf p]).posValue false (posOf p.val)
        let v := (t.groups[groupOf p]).posValue true (posOf p.val)
        (s.beat.formed = 0 → (t.beat.forming.cur[p]).a = i.getD 0 ∧ (t.beat.forming.cur[p]).validA = i.isSome ∧
          (t.beat.forming.volt[p]).a = v.getD 0 ∧ (t.beat.forming.volt[p]).validA = v.isSome) ∧
        (s.beat.formed = 1 → (t.beat.forming.cur[p]).b = i.getD 0 ∧ (t.beat.forming.cur[p]).validB = i.isSome ∧
          (t.beat.forming.volt[p]).b = v.getD 0 ∧ (t.beat.forming.volt[p]).validB = v.isSome ∧
          (t.beat.forming.cur[p]).a = (s.beat.forming.cur[p]).a ∧ (t.beat.forming.volt[p]).a = (s.beat.forming.volt[p]).a)) ∧
      Frame s t [.beat, .groups]) ∧
  ∀ (s : State) (raw : Vector (BitVec 16) 340), s.beat.running = false ∨ 2 ≤ s.beat.formed →
    ∃ t, exec (.sampleAperture raw) s = .next t ∧ Frame s t []

/-- ENGINE_PICKUP (R44); RESIDUE_TRIP, PROGRESS_TIMEOUT and JOB_OVERTIME (R53, R54). -/
def Obligations.EnginesClaimOrLeave : Prop :=
  (∀ (s : State) (e : EngineNo) (j : Job) (stolen : Bool), s.beat.running = true → e ∈ s.beat.engines →
    (∀ x ∈ s.beat.lost, x.1 ≠ e) → s.engineBusy e = false → pickJob s.beat.jobs s.beat.engines e = some (j, stolen) →
    ∃ t, exec (.enginePickup e) s = .next t ∧
      t.beat.jobs = setJob s.beat.jobs j (fun k => { k with claim := .claimed e, ran := some e }) ∧
      t.beat.number = s.beat.number ∧ t.beat.lost = s.beat.lost ∧ Frame s t [.beat]) ∧
  (∀ (s : State) (e : EngineNo), e ∈ s.beat.engines → (∀ x ∈ s.beat.lost, x.1 ≠ e) →
    let lost := fun (t : State) (cause : LossCause) => t.beat.lost = s.beat.lost ++ [(e, cause)] ∧
      t.beat.lossEngine = e.val ∧ t.beat.lossCause = cause ∧ t.beat.lossBeat = s.beat.number ∧
      t.beat.jobs = (s.beat.jobs.map fun j => if j.ran = some e then
        { j with claim := .failed, ended := if j.isDone then some j.cls else j.ended } else j) ∧
      (s.flt.active.getLsbD 14 = false → t.flt.hit.getLsbD 14 = true) ∧
      t.groups = s.groups ∧ t.store = s.store ∧ t.rtc = s.rtc
    (∃ t, exec (.residueTrip e) s = .next t ∧ lost t .residue) ∧
    (s.engineBusy e = true → ∃ t, exec (.progressTimeout e) s = .next t ∧ lost t .progress) ∧
    (s.engineBusy e = true → ∃ t, exec (.jobOvertime e) s = .next t ∧ lost t .overtime)) ∧
  ∀ (s : State) (e : EngineNo), (∃ x ∈ s.beat.lost, x.1 = e) →
    (∃ t, exec (.residueTrip e) s = .next t ∧ Frame s t []) ∧ (∃ t, exec (.progressTimeout e) s = .next t ∧ Frame s t []) ∧
      ∃ t, exec (.jobOvertime e) s = .next t ∧ Frame s t []

/-- BEAT_JOB (R26, R101), TENTH_BEAT_JOB and MILLI_JOB (R27): the results wait in their own area until the boundary takes
them; a context that cannot be read trips its channel (R52). -/
def Obligations.JobsWriteTheirOwnArea : Prop :=
  ∀ (s : State) (n : ChanNo) (cycles : Nat) (j : Job) (e : EngineNo),
    let doneJob := fun (t : State) => t.beat.jobs = setJob s.beat.jobs j (fun k => { k with claim := .done }) ∧
      (∀ m : ChanNo, m ≠ n → t.chans[m] = s.chans[m]) ∧ Frame s t [.beat, .chans]
    let tripped := fun (t : State) => (t.chans[n]).ctxTrip = true ∧ t.groups = s.groups ∧
      (s.flt.active.getLsbD 10 = false → t.flt.hit.getLsbD 10 = true)
    (s.claimedJob n JobClass.fast = some (j, e) →
      (j.cls = .beat → ∃ t, exec (.beatJob n cycles false) s = .next t ∧
        (t.chans[n]).half (oddBeat j.beat) = s.beatHalf n j ∧
        (t.chans[n]).half (!oddBeat j.beat) = (s.chans[n]).half (!oddBeat j.beat) ∧ doneJob t) ∧
      ∃ t, exec (.beatJob n cycles true) s = .next t ∧ tripped t) ∧
    (s.claimedJob n (· == .tenth) = some (j, e) →
      (let i := (s.chans[n]).tin
       let x := shedTest i (bandTest i.base i.switching i.edges i.span i.band)
       ∃ t, exec (.tenthBeatJob n cycles false) s = .next t ∧
        (if areaOf j.beat 10 then (t.chans[n]).tenth[1] = x ∧ (t.chans[n]).tenth[0] = (s.chans[n]).tenth[0]
         else (t.chans[n]).tenth[0] = x ∧ (t.chans[n]).tenth[1] = (s.chans[n]).tenth[1]) ∧
        (t.chans[n]).halves = (s.chans[n]).halves ∧ doneJob t) ∧
      ∃ t, exec (.tenthBeatJob n cycles true) s = .next t ∧ tripped t) ∧
    (s.claimedJob n (· == .milli) = some (j, e) →
      (∃ t, exec (.milliJob n cycles false) s = .next t ∧
        (t.chans[n]).estNext = estMilli (s.estIn n (j.beat - 1000)) (s.chans[n]).estCur ∧
        (t.chans[n]).estCur = (s.chans[n]).estCur ∧ (t.chans[n]).halves = (s.chans[n]).halves ∧ doneJob t) ∧
      ∃ t, exec (.milliJob n cycles true) s = .next t ∧ tripped t)

/-- OVERRUN_CLASSIFY (R49), BUDGET_WRITE (R38, R24), BEAT_NUM_LO_READ and BEAT_PEAK_CLEAR (registers of spec/01). -/
def Obligations.OverrunsAndBeatRegisters : Prop :=
  (∀ s : State, (∀ j ∈ s.beat.jobs, j.late = false) →
    ∃ t, exec .overrunClassify s = .next t ∧ t.beat.ovrCount = s.beat.ovrCount ∧
      t.beat.jobs = s.beat.jobs ∧ Frame s t []) ∧
  (∀ (s : State) (j : Job), j ∈ s.beat.jobs → j.late = true → j.claim ≠ .failed →
    ∃ t, exec .overrunClassify s = .next t ∧ (s.flt.active.getLsbD 13 = false → t.flt.hit.getLsbD 13 = true) ∧
      t.beat.ovrCount ≠ 0 ∧ (∀ k ∈ t.beat.jobs, k.late = false) ∧ t.groups = s.groups) ∧
  (∀ (s : State) (g : GroupNo) (v : Word) (cyc : Nat), s.live = true →
    ∃ t, exec (.budgetWrite g v cyc) s = .next t ∧ t.beat.statGroup = g.val ∧ t.beat.statResult = .pending ∧
      (t.beat.writes.filter fun w => w.group == g) =
        [{ group := g, value := fld v 0 14, due := s.beat.number + if cyc < 490 then 1 else 2 }] ∧
      t.beat.budgets = s.beat.budgets ∧ Frame s t [.beat]) ∧
  (∀ s : State, s.reads = true →
    ∃ t, exec .beatNumLoRead s = .next t ∧ t.beat.hiCap = (s.beat.number >>> 32).setWidth 32 ∧
      t.beat.number = s.beat.number ∧ .readReply (s.beat.number.setWidth 32) ∈ t.outbox ∧ Frame s t [.beat]) ∧
  ∀ (s : State) (v : Word), s.live = true →
    ∃ t, exec (.beatPeakClear v) s = .next t ∧ t.beat.peak = (if v.getLsbD 31 then 0 else s.beat.peak) ∧
      t.beat.number = s.beat.number ∧ Frame s t [.beat]

/-- UPPER_EDGE_CROSSING, LOWER_EDGE_CROSSING (R63, R66, R67), DEAD_TIME_END (R68), MIN_ON_TIME_END and MIN_OFF_TIME_END
(R69). `free` says that no slot holds the phase (R77). -/
def Obligations.BandEdgesMoveTheGates : Prop :=
  ∀ (s : State) (n : PhaseNo) (tick : Nat),
    let x := s.phases[n]
    let others := fun (t : State) => Frame s t [.phases] ∧
      ∀ q : PhaseNo, q ≠ n → (t.phases[q]).gh = (s.phases[q]).gh ∧ (t.phases[q]).gl = (s.phases[q]).gl
    let free := x.slotDue = true ∨ s.interleaved n = false
    let rises := fun (t : State) => (t.phases[n]).gh = true ∧ (t.phases[n]).gl = false ∧ (t.phases[n]).swcnt = x.swcnt + 1 ∧
      (t.phases[n]).minOn = true ∧ others t
    (x.switching = true → x.gh = true → x.minOn = false → x.stopping = false →
      ∃ t, exec (.upperEdgeCrossing n tick) s = .next t ∧ (t.phases[n]).gh = false ∧ (t.phases[n]).minOff = true ∧
        (t.phases[n]).gl = (!s.phaseLowcell n && fld x.run.cfg 0 6 == 0) ∧
        (s.phaseLowcell n = false → fld x.run.cfg 0 6 ≠ 0 → (t.phases[n]).dead = .hl) ∧ others t) ∧
    (x.switching = true → x.gh = true → x.minOn = true →
      ∃ t, exec (.upperEdgeCrossing n tick) s = .next t ∧ (t.phases[n]).gh = true ∧ (t.phases[n]).upperPending = true ∧
        others t) ∧
    (x.switching = true → x.stopping = true → (x.gh = true → x.minOn = false) →
      ∃ t, exec (.upperEdgeCrossing n tick) s = .next t ∧ (t.phases[n]).gh = false ∧ (t.phases[n]).gl = false ∧
        (t.phases[n]).switching = false ∧ others t) ∧
    (x.switching = true → x.gh = false → x.riseReady = false → x.dead ≠ .lh → fld x.run.cfg 8 6 ≠ 0 →
      ∃ t, exec (.lowerEdgeCrossing n tick) s = .next t ∧ (t.phases[n]).gh = false ∧ (t.phases[n]).gl = false ∧
        (t.phases[n]).dead = .lh ∧ others t) ∧
    (x.switching = true → x.gh = false → x.riseReady = false → x.dead ≠ .lh → fld x.run.cfg 8 6 = 0 → x.minOff = false →
      free → ∃ t, exec (.lowerEdgeCrossing n tick) s = .next t ∧ rises t) ∧
    (x.dead = .hl → ∃ t, exec (.deadTimeEnd n tick) s = .next t ∧ (t.phases[n]).gl = (!s.phaseLowcell n) ∧
        (t.phases[n]).gh = false ∧ (t.phases[n]).dead = .none ∧ others t) ∧
    (x.dead = .lh → x.switching = true → x.minOff = false → free →
      ∃ t, exec (.deadTimeEnd n tick) s = .next t ∧ rises t) ∧
    (x.dead = .lh → x.minOff = true ∨ ¬free →
      ∃ t, exec (.deadTimeEnd n tick) s = .next t ∧ (t.phases[n]).dead = .none ∧ (t.phases[n]).riseReady = true ∧
        (t.phases[n]).gh = x.gh ∧ others t) ∧
    (x.gh = true → x.minOn = true → x.upperPending = true →
      ∃ t, exec (.minOnTimeEnd n tick) s = .next t ∧ (t.phases[n]).gh = false ∧ (t.phases[n]).minOn = false ∧
        (t.phases[n]).minOff = true ∧ others t) ∧
    (x.upperPending = false →
      ∃ t, exec (.minOnTimeEnd n tick) s = .next t ∧ (t.phases[n]).minOn = false ∧ (t.phases[n]).gh = x.gh ∧
        (t.phases[n]).gl = x.gl ∧ others t) ∧
    (x.switching = true → x.riseReady = true → free →
      ∃ t, exec (.minOffTimeEnd n tick) s = .next t ∧ rises t) ∧
    (x.riseReady = false →
      ∃ t, exec (.minOffTimeEnd n tick) s = .next t ∧ (t.phases[n]).minOff = false ∧ (t.phases[n]).gh = x.gh ∧
        (t.phases[n]).gl = x.gl ∧ others t)

/-- INTERLEAVE_SLOT and SLOT_DELAY_CAP (R77), PHASE_STOP_TIMEOUT (R66). -/
def Obligations.SlotsCapsAndStops : Prop :=
  ∀ (s : State) (n : PhaseNo) (tick : Nat),
    let x := s.phases[n]
    let others := fun (t : State) => Frame s t [.phases] ∧
      ∀ q : PhaseNo, q ≠ n → (t.phases[q]).gh = (s.phases[q]).gh ∧ (t.phases[q]).gl = (s.phases[q]).gl
    (x.switching = true → x.riseReady = true → x.minOff = false →
      ∃ t, exec (.interleaveSlot n tick) s = .next t ∧ (t.phases[n]).gh = true ∧ (t.phases[n]).gl = false ∧
        (t.phases[n]).swcnt = x.swcnt + 1 ∧ others t) ∧
    (x.switching = true → x.riseReady = false →
      ∃ t, exec (.interleaveSlot n tick) s = .next t ∧ (t.phases[n]).slotDue = true ∧ (t.phases[n]).gh = x.gh ∧ others t) ∧
    (x.switching = true → x.gh = false → x.slotDue = false → x.slot ≠ 0 →
      (x.riseReady = true → x.minOff = false → ∃ t, exec (.slotDelayCap n tick) s = .next t ∧ (t.phases[n]).gh = true ∧
        (t.phases[n]).slips = x.slips + 1 ∧ others t) ∧
      (x.riseReady = false → x.dead = .lh → ∃ t, exec (.slotDelayCap n tick) s = .next t ∧ (t.phases[n]).gh = false ∧
        (t.phases[n]).slotDue = true ∧ (t.phases[n]).slips = x.slips + 1 ∧ others t)) ∧
    (x.stopping = true → ∃ t, exec (.phaseStopTimeout n) s = .next t ∧ (t.phases[n]).gh = false ∧
      (t.phases[n]).gl = false ∧ (t.phases[n]).switching = false ∧ others t) ∧
    (x.stopping = false → ∃ t, exec (.phaseStopTimeout n) s = .next t ∧ Frame s t [])

/-- The interlock of R59 through every command of the phase family. -/
def Obligations.PhaseCommandsKeepTheInterlock : Prop :=
  ∀ (s : State) (n : PhaseNo) (tick cyc : Nat) (v : Word) (c : Instr), GatesSafe s →
    c ∈ [.upperEdgeCrossing n tick, .lowerEdgeCrossing n tick, .deadTimeEnd n tick, .minOnTimeEnd n tick,
      .minOffTimeEnd n tick, .interleaveSlot n tick, .slotDelayCap n tick, .phaseStopTimeout n, .latchNvWrite, .phOcClr n v cyc,
      .chCommit n v cyc, .chClr n v cyc] →
    ∃ t, exec c s = .next t ∧ GatesSafe t

/-- CURRENT_WINDOW_CROSSING (R90, R164), LATCH_NV_WRITE (R95), PH_OC_CLR (R92 to R94), CH_CLR (R106). -/
def Obligations.LatchesHoldTheGatesLow : Prop :=
  (∀ (s : State) (n : PhaseNo) (high : Bool), (s.cmpOf n).moth .current = false → (s.cmpOf n).get .current high = false →
    ∃ t, exec (.currentWindowCrossing n high) s = .next t ∧ (t.phases[n]).gh = false ∧ (t.phases[n]).gl = false ∧
      (t.phases[n]).latched = true ∧ (t.cmpOf n).get .current high = true ∧ t.beat = s.beat ∧ t.store = s.store ∧
      t.rtc = s.rtc) ∧
  (∀ s : State, ∃ t, exec .latchNvWrite s = .next t ∧ Frame s t [.phases] ∧
    ∀ p : PhaseNo, t.phases[p] = { s.phases[p] with nvLatch := s.phases[p].latched }) ∧
  (∀ (s : State) (n : PhaseNo) (v : Word) (cyc : Nat), s.live = true → fld v 0 8 = 0xA7 → s.phases[n].latched = true →
    let ok := s.clearOk n = true ∧ s.phases[n].latchNow = false ∧
      ¬(s.phases[n].latchScope = true ∧ (s.ownerOf n).isSome = true)
    (∀ q : PhaseNo, q ≠ n → ∀ t, exec (.phOcClr n v cyc) s = .next t → t.phases[q] = s.phases[q]) ∧
    (ok → ∃ t, exec (.phOcClr n v cyc) s = .next t ∧ (t.phases[n]).latched = false ∧
      (t.phases[n]).ocHi = false ∧ (t.phases[n]).ocLo = false ∧
      (t.phases[n]).rejoin = some (s.beat.number + if cyc < 490 then 1 else 2) ∧ Frame s t [.phases]) ∧
    (¬ok → ∃ t, exec (.phOcClr n v cyc) s = .next t ∧ (t.phases[n]).latched = true ∧
      (t.phases[n]).clrRefused = true ∧ Frame s t [.phases])) ∧
  (∀ (s : State) (n : ChanNo) (v : Word) (cyc : Nat), s.live = true → fld v 0 8 = 0xA7 → s.isRun n = true →
    (s.chans[n].latched = true ∨ ∃ p ∈ s.phasesOf n, s.phases[p].latched = true ∧ s.phases[p].latchScope = true) →
    let ok := fun p : PhaseNo => s.clearOk p = true ∧ s.phases[p].latchNow = false
    ((∀ p ∈ s.phasesOf n, ok p) → s.chans[n].tripNow = false →
      (∀ x ∈ s.chans[n].latchWins, (s.cmpOf x.1).inWin x.2 = false ∧
        (s.groups[groupOf x.1]).dacFailed (x.1.val % 16) x.2 = false) →
      ∃ t, exec (.chClr n v cyc) s = .next t ∧ (t.chans[n]).latchWins = [] ∧
        (t.chans[n]).releaseDue =
          (if s.chans[n].latched then some (s.beat.number + if cyc < 490 then 1 else 2) else none) ∧
        (∀ p ∈ s.phasesOf n, s.phases[p].latchScope = true → (t.phases[p]).latched = false) ∧
        Frame s t [.phases, .chans]) ∧
    (∀ p ∈ s.phasesOf n, ¬ok p →
      ∃ t, exec (.chClr n v cyc) s = .next t ∧ (t.phases[p]).clrRefused = true ∧
        (∀ q : PhaseNo, (t.phases[q]).latched = (s.phases[q]).latched) ∧ Frame s t [.phases])) ∧
  ∀ (s : State) (n : PhaseNo) (v : Word) (cyc : Nat), fld v 0 8 ≠ 0xA7 →
    (∃ t, exec (.phOcClr n v cyc) s = .next t ∧ Frame s t []) ∧ ∃ t, exec (.chClr n v cyc) s = .next t ∧ Frame s t []

/-- CH_COMMIT (R98, R24); a channel that is not configured ignores it (R97). -/
def Obligations.CommitSnapshotsTheStagedWords : Prop :=
  ∀ (s : State) (n : ChanNo) (v : Word) (cyc : Nat),
    (s.live = true → v.getLsbD 0 = true → s.isConf n = true →
      ∃ t x, exec (.chCommit n v cyc) s = .next t ∧ (t.chans[n]).snap = some x ∧ x.chan = s.chans[n].staged ∧
        x.gang = s.phases[n].staged.gang ∧
        (∀ p : PhaseNo, groupOf p = groupOf n → (p, s.phases[p].staged) ∈ x.phases) ∧ x.due = s.beat.number + (if cyc < 490 then 1 else 2) ∧
        (t.chans[n]).commitResult = 2 ∧ (t.chans[n]).run = s.chans[n].run ∧ (∀ m, m ≠ n → t.chans[m] = s.chans[m]) ∧
        Frame s t [.chans]) ∧
    (v.getLsbD 0 = false ∨ s.isConf n = false →
      ∃ t, exec (.chCommit n v cyc) s = .next t ∧ Frame s t [])

/-- LANE_SLOT (R107, R108, R110, R116). -/
def Obligations.LaneSlotTakesAFrame : Prop :=
  ∀ (s : State) (clocks cyc : Nat) (frame : BitVec 48),
    (s.lane.en = true →
      ∃ t, exec (.laneSlot 48 frame cyc) s = .next t ∧
        t.lane.inputs = s.lane.inputs ++ (if (parseFrame frame).chan = 0xFF ∧ (parseFrame frame).crcOk = true then []
          else [(s.beat.number + (if cyc ≤ 480 then 1 else 2), parseFrame frame)]) ∧
        t.lane.queue = s.lane.queue.drop 2 ∧ t.lane.frameErr = s.lane.frameErr ∧
        ((parseFrame frame).crcOk = true → t.lane.frames = s.lane.frames + 1 ∧ t.lane.crcErr = s.lane.crcErr) ∧
        ((parseFrame frame).crcOk = false → t.lane.frames = s.lane.frames ∧ t.lane.crcSeen = true ∧
          (s.lane.crcErr ≠ 0xFFFF#16 → t.lane.crcErr = s.lane.crcErr + 1)) ∧
        .laneWord (s.lane.queue.headD 0) ∈ t.outbox ∧ .laneWord ((s.lane.queue.drop 1).headD 0) ∈ t.outbox ∧ Frame s t [.lane]) ∧
    (s.lane.en = true → clocks ≠ 48 → s.lane.frameErr ≠ 0xFFFF#16 →
      ∃ t, exec (.laneSlot clocks frame cyc) s = .next t ∧ t.lane.frameErr = s.lane.frameErr + 1 ∧
        t.lane.frameSeen = true ∧ t.lane.inputs = s.lane.inputs ∧ t.lane.queue = s.lane.queue ∧ Frame s t [.lane]) ∧
    (s.lane.en = false → ∃ t, exec (.laneSlot clocks frame cyc) s = .next t ∧ Frame s t [])

/-- CALIBRATION_SLOT (R127, R130), SUBSTITUTION_TAKEOVER (R132), SUBSTITUTION_VERDICT (R133), SERIES_TEST_START and
SERIES_TEST_DONE (R135, R136). -/
def Obligations.RotationSubstitutionAndSeries : Prop :=
  (∀ (s : State) (g : GroupNo), s.beat.running = true → s.beat.number.toNat % 256 = 0 →
    (s.groups[g]).slotAt ≠ some s.beat.number →
    ∃ t, exec (.calibrationSlot g) s = .next t ∧ (t.groups[g]).slotAt = some s.beat.number ∧
      (t.groups[g]).calI.active = !(t.groups[g]).pausedI ∧ (t.groups[g]).calV.active = !(t.groups[g]).pausedV ∧
      ((s.groups[g]).rotEn false = false → (t.groups[g]).pausedI = true ∧ (t.groups[g]).frozenI = (s.groups[g]).frozenI + 1) ∧
      (∀ h : GroupNo, h ≠ g → t.groups[h] = s.groups[h]) ∧ t.beat = s.beat ∧ t.met = s.met) ∧
  (∀ (s : State) (g : GroupNo), s.beat.number.toNat % 256 ≠ 0 →
    ∃ t, exec (.calibrationSlot g) s = .next t ∧ Frame s t []) ∧
  (∀ (s : State) (g : GroupNo) (voltage : Bool) (y : Subst),
    ((s.groups[g]).substs.find? fun y => y.voltage == voltage && y.spare != 0x1F && !y.tookOver && !y.spareRail &&
      !y.calTest && decide (y.start + 6 ≤ s.beat.number)) = some y →
    ((s.groups[g]).slice voltage y.spare).railLen < 8 →
    ∃ t, exec (.substitutionTakeover g voltage) s = .next t ∧
      ((t.groups[g]).map voltage)[posOf y.pos] = y.spare ∧ (t.groups[g]).out voltage = y.suspect ∧
      { y with tookOver := true } ∈ (t.groups[g]).substs ∧ (∀ h : GroupNo, h ≠ g → t.groups[h] = s.groups[h]) ∧
      Frame s t [.groups, .chans]) ∧
  (∀ (s : State) (g : GroupNo) (voltage : Bool) (y : Subst),
    ((s.groups[g]).substs.find? fun y => y.voltage == voltage && y.spare != 0x1F && !y.tookOver && !y.spareRail &&
      !y.calTest && decide (y.start + 6 ≤ s.beat.number)) = some y →
    8 ≤ ((s.groups[g]).slice voltage y.spare).railLen →
    ∃ t, exec (.substitutionTakeover g voltage) s = .next t ∧ { y with spareRail := true } ∈ (t.groups[g]).substs ∧
      (t.groups[g]).map voltage = (s.groups[g]).map voltage ∧ (t.groups[g]).out voltage = (s.groups[g]).out voltage ∧
      (∀ h : GroupNo, h ≠ g → t.groups[h] = s.groups[h]) ∧ Frame s t [.groups]) ∧
  (∀ (s : State) (g : GroupNo) (voltage : Bool) (y : Subst),
    ((s.groups[g]).substs.find? fun y => y.voltage == voltage && decide (y.testAt + 6 ≤ s.beat.number) &&
      (y.tookOver || y.spareRail || y.calTest || y.spare == 0x1F)) = some y →
    y.tookOver = true → y.calTest = false → y.spareRail = false →
    (directOk voltage y.sums = true →
      ∃ t, exec (.substitutionVerdict g voltage) s = .next t ∧ y ∉ (t.groups[g]).substs ∧
        (t.groups[g]).map voltage = (s.groups[g]).map voltage ∧
        (t.groups[g]).out voltage = (s.groups[g]).out voltage ∧ t.flt = s.flt ∧ t.chans = s.chans) ∧
    (directOk voltage y.sums = false → y.suspect < 17 →
      ∃ t, exec (.substitutionVerdict g voltage) s = .next t ∧ y ∉ (t.groups[g]).substs ∧
        (t.groups[g]).out voltage = 0x1F ∧
        (if voltage then (t.groups[g]).failV else (t.groups[g]).failI).getLsbD y.suspect = true ∧
        (s.flt.active.getLsbD 16 = false → t.flt.hit.getLsbD 16 = true))) ∧
  (∀ (s : State) (g : GroupNo) (v : Word), s.live = true → (s.groups[g]).diagRun = false → v.getLsbD 31 = true →
    let rests := ∀ n : ChanNo, s.ownerOf (posPhase g (posOf (fld v 0 4))) = some n → s.chans[n].state = .off
    ∃ t, exec (.seriesTestStart g v) s = .next t ∧ (t.groups[g]).diagCtrl = v &&& 0x10F#32 ∧
      (rests → s.dacBusy g = false → (t.groups[g]).diagRun = true ∧ (t.groups[g]).diagRes = 1) ∧
      (¬rests → (t.groups[g]).diagRun = false ∧ (t.groups[g]).diagRes = 6) ∧
      (rests → s.dacBusy g = true → (t.groups[g]).diagRun = false ∧ (t.groups[g]).diagRes = 7) ∧
      (∀ h : GroupNo, h ≠ g → t.groups[h] = s.groups[h]) ∧ Frame s t [.groups]) ∧
  ∀ (s : State) (g : GroupNo) (reading change : Int), (s.groups[g]).diagRun = true →
    ∃ t, exec (.seriesTestDone g reading change) s = .next t ∧ (t.groups[g]).diagRun = false ∧
      (let voltage := (s.groups[g]).diagCtrl.getLsbD 8
       let d : Int := if voltage then 200000 else 10000
       (t.groups[g]).diagRes =
         if change * 1000 < d then (if voltage = true ∧ reading.natAbs < 2000 then 5 else 2)
         else if change * 2 ≤ d then 3 else 4) ∧
      (∀ h : GroupNo, h ≠ g → t.groups[h] = s.groups[h]) ∧ Frame s t [.groups]

/-- MET_CTRL_GO and METROLOGY_DONE (R138, R139), CAL_ZERO, CAL_FULL, CAL_STORE, CAL_ABORT and their ends (R141 to R143),
OWNERSHIP_CHANGE (R140). `stays`: a port that becomes idle is taken by no cross-check that waits. -/
def Obligations.MetrologyPortsWorkInOrder : Prop :=
  ∀ (s : State) (p : Fin 4) (v : Word) (sum : Int) (sumSq : Nat),
    let x := s.met.ports[p]
    let host := s.portOwned p = false
    let stays := s.met.checks = [] ∨ s.met.ownReg.getLsbD p.val = false
    let coefs := fun (t : State) => (t.met.ports[p]).vGain = x.vGain ∧ (t.met.ports[p]).vOfs = x.vOfs ∧
      (t.met.ports[p]).mGain = x.mGain ∧ (t.met.ports[p]).mOfs = x.mOfs
    let ends := fun (t : State) (r : Nat) => (t.met.ports[p]).state = .idle ∧ (t.met.ports[p]).job = .none ∧
      (t.met.ports[p]).result = r ∧ coefs t
    (s.live = true → v.getLsbD 31 = true →
      let c := v &&& 0x47FF13FF#32
      ∃ t, exec (.metCtrlGo p v) s = .next t ∧ coefs t ∧ Frame s t [.met] ∧
        (s.portOwned p = true → (t.met.ports[p]).result = 2 ∧ (t.met.ports[p]).state = x.state) ∧
        (host → x.free = false → (t.met.ports[p]).result = 3 ∧ (t.met.ports[p]).state = x.state) ∧
        (host → x.free = true → nodeExists c = false ∨ s.nodeTaken p c = true → (t.met.ports[p]).result = 4 ∧
          (t.met.ports[p]).state = x.state) ∧
        (host → x.free = true → nodeExists c = true → s.nodeTaken p c = false →
          (fld v 0 8 = 0 → (t.met.ports[p]).result = 1 ∧ (t.met.ports[p]).value = x.value) ∧
          (fld v 0 8 ≠ 0 → (t.met.ports[p]).state = .busy ∧ (t.met.ports[p]).job = .host c ∧
            (t.met.ports[p]).result = 0))) ∧
    (∀ c : Word, x.job = .host c → stays →
      let y := x.value256 (c.getLsbD 12) sum (fld c 0 8 : Nat)
      let volt := fld c 24 3 == 3
      let checks := c.getLsbD 30 = true ∧ (fld c 24 3 = 3 ∨ fld c 24 3 = 4)
      ∃ t, exec (.metrologyDone p sum) s = .next t ∧ (t.met.ports[p]).value = wordOf y ∧
        (¬checks → ends t 1 ∧ Frame s t [.met]) ∧
        (checks → s.xchkPass volt (phaseOf (fld c 16 8)) y = true → ends t 10 ∧ Frame s t [.met]) ∧
        (checks → s.xchkPass volt (phaseOf (fld c 16 8)) y = false → ends t 11)) ∧
    (s.live = true →
      ∃ t, exec (.calZero p) s = .next t ∧ coefs t ∧ Frame s t [.met] ∧
        (host → x.free = true → (t.met.ports[p]).job = .zero ∧ (t.met.ports[p]).state = .busy ∧
          (t.met.ports[p]).calRange = x.ctrl.getLsbD 12) ∧
        (host → x.free = false → (t.met.ports[p]).result = 3 ∧ (t.met.ports[p]).state = x.state) ∧
        (s.portOwned p = true → (t.met.ports[p]).result = 2 ∧ (t.met.ports[p]).state = x.state)) ∧
    (x.job = .zero → sum.natAbs ≤ 8388 * 256 → noisy sum sumSq = false →
      ∃ t, exec (.calZeroDone p sum sumSq) s = .next t ∧ (t.met.ports[p]).state = .zeroHeld ∧
        (t.met.ports[p]).zeroMean = sum ∧ coefs t) ∧
    (x.job = .zero → stays → 8388 * 256 < sum.natAbs → ∃ t, exec (.calZeroDone p sum sumSq) s = .next t ∧ ends t 5) ∧
    (x.job = .zero → stays → sum.natAbs ≤ 8388 * 256 → noisy sum sumSq = true →
      ∃ t, exec (.calZeroDone p sum sumSq) s = .next t ∧ ends t 8) ∧
    (s.live = true → x.state = .zeroHeld →
      ∃ t, exec (.calFull p) s = .next t ∧ (t.met.ports[p]).job = .full ∧ (t.met.ports[p]).state = .busy ∧ coefs t ∧
        Frame s t [.met]) ∧
    (s.live = true → x.state = .busy →
      ∃ t, exec (.calFull p) s = .next t ∧ (t.met.ports[p]).result = 3 ∧ (t.met.ports[p]).state = .busy ∧ coefs t ∧
        Frame s t [.met]) ∧
    (x.job = .full → stays →
      let (lo, hi) : Nat × Nat := if x.calRange then (65536, 131072) else (3276800, 6553600)
      let (ln, ld) : Int × Int := if x.calRange then (1, 64) else (25, 32)
      let cert := sword x.calVal
      ∃ t, exec (.calFullDone p sum sumSq) s = .next t ∧ coefs t ∧
        (cert.natAbs < lo ∨ hi < cert.natAbs → ends t 6) ∧
        (lo ≤ cert.natAbs → cert.natAbs ≤ hi →
          ends t 7 ∨ ends t 8 ∧ noisy sum sumSq = true ∨
          (t.met.ports[p]).state = .ready ∧ noisy sum sumSq = false ∧ (t.met.ports[p]).newOfs = x.zeroMean ∧
            (t.met.ports[p]).newGain = divRound (cert * 256 * ld * 1073741824) ((sum - x.zeroMean) * ln))) ∧
    (s.live = true → x.state = .ready → stays →
      ∃ t, exec (.calStore p) s = .next t ∧ (t.met.ports[p]).state = .idle ∧ (t.met.ports[p]).result = 1 ∧
        (x.calRange = false → (t.met.ports[p]).vGain = x.newGain ∧ (t.met.ports[p]).vOfs = x.newOfs ∧
          (t.met.ports[p]).vValid = true ∧ (t.met.ports[p]).mGain = x.mGain ∧ (t.met.ports[p]).mOfs = x.mOfs) ∧
        (x.calRange = true → (t.met.ports[p]).mGain = x.newGain ∧ (t.met.ports[p]).mOfs = x.newOfs ∧
          (t.met.ports[p]).mValid = true ∧ (t.met.ports[p]).vGain = x.vGain ∧ (t.met.ports[p]).vOfs = x.vOfs) ∧
        Frame s t [.met]) ∧
    (s.live = true → x.state = .zeroHeld ∨ x.state = .ready ∨ x.job = .zero ∨ x.job = .full → stays →
      ∃ t, exec (.calAbort p) s = .next t ∧ (t.met.ports[p]).state = .idle ∧ (t.met.ports[p]).job = .none ∧ coefs t) ∧
    (x.state = .zeroHeld ∨ x.state = .ready → stays →
      ∃ t, exec (.calAbandonTimeout p) s = .next t ∧ ends t 9 ∧ Frame s t [.met]) ∧
    (x.free = true →
      ∃ t, exec (.ownershipChange p) s = .next t ∧ t.met.own.getLsbD p.val = s.met.ownReg.getLsbD p.val ∧
        (∀ q : Fin 4, q ≠ p → t.met.own.getLsbD q.val = s.met.own.getLsbD q.val) ∧ coefs t ∧ Frame s t [.met]) ∧
    (x.free = false → ∃ t, exec (.ownershipChange p) s = .next t ∧ Frame s t [])

/-- TRANSFER_DUE and MET_XFER_GO (R144), TRANSFER_START and TRANSFER_DONE (R145, R146), TRANSFER_AGED (R147),
CROSS_CHECK_DONE (R148), XCHK_TIMEOUT (R149). -/
def Obligations.TransfersAndCrossChecks : Prop :=
  (∀ (s : State) (g : GroupNo) (d : Nat), s.ageSecs (s.groups[g]).xferTime = some d → fld s.met.xferCfg 0 5 ≠ 0 →
    fld s.met.xferCfg 0 5 * 86400 ≤ d → (s.groups[g]).xferV.isSome = true ∨ (s.groups[g]).xferI.isSome = true → (s.groups[g]).xfer = false → g ∉ s.met.queue →
    ∃ t, exec (.transferDue g) s = .next t ∧ t.met.queue = s.met.queue ++ [g] ∧ Frame s t [.met]) ∧
  (∀ (s : State) (v : Word), s.live = true →
    ∃ t, exec (.metXferGo v) s = .next t ∧ t.met.xferMask = v &&& 0x3FF#32 ∧
      (v.getLsbD 31 = true → ∀ g : GroupNo, v.getLsbD g.val = true → (s.groups[g]).xfer = false → g ∈ t.met.queue) ∧
      (v.getLsbD 31 = false → t.met.queue = s.met.queue) ∧ Frame s t [.met]) ∧
  (∀ (s : State) (p : Fin 4) (g : GroupNo), s.portOwned p = true → (s.met.ports[p]).free = true → s.met.checks = [] →
    s.beat.number.toNat % 256 = 0 → s.dev.state ≠ .chrysalis → s.met.queue.contains g = true →
    let free := fun h : GroupNo => (s.groups[h]).substituting false = false ∧ (s.groups[h]).substituting true = false
    free g → (∀ h : GroupNo, h < g → s.met.queue.contains h = true → ¬free h) →
    ∃ t, exec (.transferStart p) s = .next t ∧ (t.met.ports[p]).state = .busy ∧ (t.met.ports[p]).job = .transfer g ∧
      t.met.queue = s.met.queue.erase g ∧ (t.groups[g]).xfer = true ∧ (t.groups[g]).pausedI = true ∧
      (t.groups[g]).pausedV = true ∧ (∀ h : GroupNo, h ≠ g → t.groups[h] = s.groups[h]) ∧ Frame s t [.met, .groups]) ∧
  (∀ (s : State) (p : Fin 4), s.beat.number.toNat % 256 ≠ 0 → ∃ t, exec (.transferStart p) s = .next t ∧ Frame s t []) ∧
  (∀ (s : State) (p : Fin 4) (g : GroupNo) (refv refi : Vector Int 17), (s.met.ports[p]).job = .transfer g →
    s.met.checks = [] ∨ s.met.ownReg.getLsbD p.val = false →
    let coefs := refvCoefs s.met.ports[p] fun j => refv.toList.getD j 0
    ∃ t, exec (.transferDone p refv refi) s = .next t ∧ (t.met.ports[p]).state = .idle ∧ (t.met.ports[p]).job = .none ∧
      (t.groups[g]).xfer = false ∧ t.met.statGroup = g.val ∧ t.met.statPort = p.val ∧
      (s.partValid p false = false → t.met.statRefv = 3 ∧ (t.groups[g]).xferV = (s.groups[g]).xferV) ∧
      (s.partValid p true = false → t.met.statRefi = 3 ∧ (t.groups[g]).xferI = (s.groups[g]).xferI) ∧
      (s.partValid p false = true →
        t.met.statRefv = 1 ∧ (t.groups[g]).xferV = some coefs.1 ∧ (t.groups[g]).xferTimeV = s.logTime ∨
        t.met.statRefv = 2 ∧ (t.groups[g]).xferV = (s.groups[g]).xferV ∧
          (s.flt.active.getLsbD 17 = false → t.flt.hit.getLsbD 17 = true)) ∧
      (∀ h : GroupNo, h ≠ g → t.groups[h] =
        { s.groups[h] with stateV := (t.groups[h]).stateV, stateI := (t.groups[h]).stateI }) ∧ t.beat = s.beat) ∧
  (∀ (s : State) (g : GroupNo),
    (s.transferOld g true = true → (s.groups[g]).xferV.isSome = true →
      ∃ t, exec (.transferAged g true) s = .next t ∧ (t.groups[g]).stateV = 2 ∧
        (t.groups[g]).stateI = (s.groups[g]).stateI ∧ Frame s t [.groups]) ∧
    (s.transferOld g false = true → (s.groups[g]).xferI.isSome = true →
      ∃ t, exec (.transferAged g false) s = .next t ∧ (t.groups[g]).stateI = 2 ∧
        (t.groups[g]).stateV = (s.groups[g]).stateV ∧ Frame s t [.groups])) ∧
  (∀ (s : State) (p : Fin 4) (n : ChanNo) (ph : PhaseNo) (code : Int), (s.met.ports[p]).job = .check n ph →
    s.met.checks = [] ∨ s.met.ownReg.getLsbD p.val = false →
    s.xchkPass false ph ((s.met.ports[p]).value256 true code 1) = true →
    ∃ t, exec (.crossCheckDone p code) s = .next t ∧ (t.met.ports[p]).state = .idle ∧ (t.met.ports[p]).job = .none ∧
      Frame s t [.met, .chans]) ∧
  ∀ (s : State) (n : ChanNo),
    ∃ t, exec (.xchkTimeout n) s = .next t ∧ t.met.checks = (s.met.checks.filter fun x => x.1 != n) ∧
      (∀ m : ChanNo, m ≠ n → t.chans[m] = s.chans[m]) ∧ Frame s t [.met, .chans]

/-- VOLTAGE_TRIP_CROSSING (R164 to R167), WINDOW_CROSSING_END (R157), MOTH_DECISION (R161), TRIP_HOLD_EXPIRY (R168). -/
def Obligations.WindowsCrossActAndEnd : Prop :=
  (∀ (s : State) (n : PhaseNo) (high : Bool), (s.cmpOf n).moth .vtrip = false → s.isRun n = true →
    (s.cmpOf n).get .vtrip high = false → (s.cmpOf n).inV = false →
    let opened := fun (t : State) => (t.cmpOf n).get .vtrip high = true ∧ (t.cmpOf n).inV = true ∧
      (t.groups[groupOf n]).whitV.getLsbD (n.val % 16 + if high then 0 else 16) = true
    ((s.groups[groupOf n]).action (posOf n.val) .vtrip = 0 →
      ∃ t, exec (.voltageTripCrossing n high) s = .next t ∧ opened t ∧ Frame s t [.groups, .host]) ∧
    ((s.groups[groupOf n]).action (posOf n.val) .vtrip = 1 → s.flt.sevOf 19 ≤ 1 → s.chans[n].state ≠ .off →
      ∃ t, exec (.voltageTripCrossing n high) s = .next t ∧ opened t ∧ .window n .vtrip ∈ (t.chans[n]).trips ∧
        (∀ p ∈ s.phasesOf n, (t.phases[p]).gh = false ∧ (t.phases[p]).gl = false) ∧ t.store = s.store)) ∧
  (∀ (s : State) (n : PhaseNo) (high : Bool), s.isRun n = false →
    ∃ t, exec (.voltageTripCrossing n high) s = .next t ∧ Frame s t []) ∧
  (∀ (s : State) (n : PhaseNo) (voltage high : Bool),
    let w := if voltage then Win.vtrip else Win.current
    let g := s.groups[groupOf n]
    (s.cmpOf n).moth w = false → (s.cmpOf n).get w (!high) = false → g.dacBad (posOf n.val) w true = false →
    g.dacBad (posOf n.val) w false = false →
    ∃ t, exec (.windowCrossingEnd n voltage high) s = .next t ∧ (t.cmpOf n).get w high = false ∧
      (t.cmpOf n).inWin w = false ∧ (∀ h : GroupNo, h ≠ groupOf n → t.groups[h] = s.groups[h]) ∧ Frame s t [.groups]) ∧
  (∀ (s : State) (n : PhaseNo) (voltage high : Bool),
    let w := if voltage then Win.vtrip else Win.current
    (s.cmpOf n).moth w = false → (s.cmpOf n).get w (!high) = true →
    ∃ t, exec (.windowCrossingEnd n voltage high) s = .next t ∧ (t.cmpOf n).get w high = false ∧
      (t.cmpOf n).inWin w = (s.cmpOf n).inWin w ∧ Frame s t [.groups]) ∧
  (∀ (s : State) (n : PhaseNo) (shunt cell : Int),
    let due := s.beat.running = true ∧
      (s.beat.number.toNat + n.val % 16) % mothN (s.groups[groupOf n]).wcfg[posOf n.val] = 0
    (¬due → ∃ t, exec (.mothDecision n shunt cell) s = .next t ∧ Frame s t []) ∧
    (due → (s.cmpOf n).moth .current = true → (s.cmpOf n).moth .vtrip = false → (s.cmpOf n).hi = false →
      winLevel .current (winCodes .current (s.groups[groupOf n]).iwin[posOf n.val]).1 < shunt →
      ∃ t, exec (.mothDecision n shunt cell) s = .next t ∧ (t.cmpOf n).hi = true ∧ (t.phases[n]).latched = true ∧
        (t.phases[n]).gh = false ∧ (t.phases[n]).gl = false)) ∧
  ∀ (s : State) (n : PhaseNo) (w : Fin 3),
    ((s.cmpOf n).inWin (winOf w) = false →
      ∃ t, exec (.tripHoldExpiry n w) s = .next t ∧ t.cmpOf n = (s.cmpOf n).setHold (winOf w) ∧
        (∀ h : GroupNo, h ≠ groupOf n → t.groups[h] = s.groups[h]) ∧ Frame s t [.groups]) ∧
    ((s.cmpOf n).inWin (winOf w) = true → ∃ t, exec (.tripHoldExpiry n w) s = .next t ∧ Frame s t [])

/-- WINDOW_THRESHOLD_WRITE (R158), COMPARATOR_SETTLED (R162), THRESHOLD_READBACK (R171, R172). -/
def Obligations.ThresholdsAndReadback : Prop :=
  (∀ (s : State) (n : PhaseNo) (w : Fin 3) (v : Word), s.live = true →
    let x := v &&& 0x0FFF0FFF#32
    let g := s.groups[groupOf n]
    let accepted := (winCodes (winOf w) x).2 < (winCodes (winOf w) x).1
    ∃ t, exec (.windowThresholdWrite n w v) s = .next t ∧
      (accepted → (t.groups[groupOf n]).winWord (posOf n.val) (winOf w) = x ∧
        (t.groups[groupOf n]).wRefused = g.wRefused ∧
        ∀ (q : Fin 16) (u : Win), q ≠ posOf n.val ∨ u ≠ winOf w →
          (t.groups[groupOf n]).winWord q u = g.winWord q u) ∧
      (¬accepted → (t.groups[groupOf n]).wRefused = true ∧ (t.groups[groupOf n]).wPos = n.val % 16 ∧
        (t.groups[groupOf n]).wWord = w.val ∧
        ∀ (q : Fin 16) (u : Win), (t.groups[groupOf n]).winWord q u = g.winWord q u) ∧
      (∀ h : GroupNo, h ≠ groupOf n → t.groups[h] = s.groups[h]) ∧ t.flt.hit = s.flt.hit ∧ Frame s t [.groups, .flt]) ∧
  (∀ (s : State) (n : PhaseNo), (s.cmpOf n).settling = true →
    ∃ t, exec (.comparatorSettled n) s = .next t ∧ (t.cmpOf n).modeI = (s.cmpOf n).nextI ∧
      (t.cmpOf n).modeV = (s.cmpOf n).nextV ∧ (t.cmpOf n).inI = (s.cmpOf n).inI ∧ (∀ q : PhaseNo, q ≠ n → t.cmpOf q = s.cmpOf q) ∧ Frame s t [.groups]) ∧
  (∀ (s : State) (n : PhaseNo), (s.cmpOf n).settling = false →
    ∃ t, exec (.comparatorSettled n) s = .next t ∧ Frame s t []) ∧
  ∀ (s : State) (g : GroupNo) (voltage : Bool) (raws : Vector (BitVec 16) 12),
    let x := s.groups[g]
    let b := s.beat.number.toNat % 256
    let visit := s.beat.running = true ∧ (x.cal voltage).active = true ∧ x.out voltage ≠ 0x1F ∧ b ∈ [216, 224, 232, 240]
    let dac := (if voltage then x.rbNextV else x.rbNextI) % 32
    let fresh := (if voltage then x.rbWrV else x.rbWrI).getLsbD dac = true ∧
      s.beat.number ≤ (if voltage then x.wrBeatV else x.wrBeatI)[posOf (dac / 2)] + 8
    let off := decide ((4 * 12 * winLsb (if voltage then .vtrip else .current)).natAbs < x.readbackOff voltage dac raws)
    (¬visit → ∃ t, exec (.thresholdReadback g voltage raws) s = .next t ∧ Frame s t []) ∧
    (visit → ∃ t, exec (.thresholdReadback g voltage raws) s = .next t ∧
      (if voltage then (t.groups[g]).rbNextV else (t.groups[g]).rbNextI) = (dac + 1) % 32 ∧
      (fresh → (t.groups[g]).rbBad voltage = x.rbBad voltage ∧ Frame s t [.groups]) ∧
      (¬fresh → ((t.groups[g]).rbBad voltage).getLsbD dac = off) ∧
      (¬fresh → off = true → (x.rbBad voltage).getLsbD dac = false → s.flt.active.getLsbD 18 = false →
        t.flt.hit.getLsbD 18 = true))

/-- BARRIER_TIMEOUT (R198), TEMP_LOST (R188), REFERENCE_STALE (R235), FORGET (R214), LIFETIME_WRITE (R244),
HS_NTC_CONVERSION and HS_HISTOGRAM_TICK (R245). -/
def Obligations.RecipesEstimatesAndLifetime : Prop :=
  (∀ (s : State) (n : ChanNo), s.barrierExpired n = true →
    ∃ t, exec (.barrierTimeout n) s = .next t ∧ (t.chans[n]).cur.step.base = .run ∧ (t.chans[n]).cur.step.mode = .rest ∧
      (t.chans[n]).cur.step.running = false ∧
      (∃ i, (t.chans[n]).cur.step.intr = some i ∧ i.reason = .barrierTimeout) ∧
      (∀ m : ChanNo, m ≠ n → t.chans[m] = s.chans[m]) ∧ t.phases = s.phases ∧ t.groups = s.groups) ∧
  (∀ (s : State) (n : ChanNo),
    (s.barrierExpired n = false → ∃ t, exec (.barrierTimeout n) s = .next t ∧ Frame s t []) ∧
    (s.tempLost n = false → ∃ t, exec (.tempLost n) s = .next t ∧ Frame s t [])) ∧
  (∀ (s : State) (n : ChanNo), s.tempLost n = true →
    ∃ t, exec (.tempLost n) s = .next t ∧ (t.chans[n]).cur.step.running = false ∧
      (∃ i, (t.chans[n]).cur.step.intr = some i ∧ i.reason = .tempLost) ∧
      (∀ m : ChanNo, m ≠ n → t.chans[m] = s.chans[m]) ∧ t.phases = s.phases) ∧
  (∀ (s : State) (n : ChanNo), s.refTooOld n = true →
    ∃ t, exec (.referenceStale n) s = .next t ∧ (t.chans[n]).estCur.stale = true ∧ 300 ≤ (t.chans[n]).estCur.unc ∧
      (t.chans[n]).halves = (s.chans[n]).halves ∧ (∀ m : ChanNo, m ≠ n → t.chans[m] = s.chans[m]) ∧
      Frame s t [.chans, .host]) ∧
  (∀ (s : State) (n : ChanNo), s.refTooOld n = false → ∃ t, exec (.referenceStale n) s = .next t ∧ Frame s t []) ∧
  (∀ (s : State) (n : ChanNo) (v : Word) (cyc : Nat), s.live = true → v.getLsbD 0 = true → s.isConf n = true →
    let due := s.beat.number + if cyc < 490 then 1 else 2
    ∃ t, exec (.forget n v cyc) s = .next t ∧
      (t.chans[n]).estCur.forget = some ((s.chans[n]).estCur.forget.getD due) ∧
      (t.chans[n]).estNext.forget = some ((s.chans[n]).estNext.forget.getD due) ∧
      (t.chans[n]).halves = (s.chans[n]).halves ∧ (∀ m : ChanNo, m ≠ n → t.chans[m] = s.chans[m]) ∧ Frame s t [.chans]) ∧
  (∀ s : State, s.dev.lifetimeDue = true →
    ∃ t x, exec .lifetimeWrite s = .next t ∧ t.store.lifeSeq = s.store.lifeSeq + 1 ∧ t.dev.lifetimeDue = false ∧
      t.store.lifeSlots.toList[(s.store.lifeSeq + 1) % 4]? = some (some x) ∧ x.seq = s.store.lifeSeq + 1 ∧
      x.phases = (s.phases.toList.map fun p => p.life) ∧ Frame s t [.store, .dev]) ∧
  (∀ s : State, s.dev.lifetimeDue = false → ∃ t, exec .lifetimeWrite s = .next t ∧ Frame s t []) ∧
  (∀ (s : State) (hs : Vector Nat 8) (ntc : Nat) (v cur vin : Int),
    ∃ t, exec (.hsNtcConversion hs ntc v cur vin) s = .next t ∧
      (∀ k : Fin 8, t.store.hs[k] = (s.store.hs[k]).convert (s.store.hsCfg.getLsbD k.val) s.store.hsCfg hs[k]) ∧
      t.hold.v = v ∧ t.hold.i = cur ∧ t.hold.vin = vin ∧ t.groups = s.groups ∧ t.beat = s.beat) ∧
  ∀ s : State, ∃ t, exec .hsHistogramTick s = .next t ∧ (∀ k : Fin 8, t.store.hs[k] = (s.store.hs[k]).tick) ∧ Frame s t [.store]

/-- PERST_N_ASSERT, HOT_RESET, LINK_DOWN, FUNCTION_LEVEL_RESET, D3HOT_TO_D0 (R251), D0_TO_D3HOT (R247), PCIE_LINK_UP
(R436), PERST_N_DEASSERT (R561), BUS_MASTER_ENABLE_CHANGE (R249, R290). -/
def Obligations.HostLinkResets : Prop :=
  (∀ s : State,
    let reset := fun (t : State) => t.host.bme = false ∧ t.host.msixEn = false ∧ t.host.cmdq = Ring.reset ∧
      t.host.cplq = Ring.reset ∧ t.host.evtq = Ring.reset ∧ t.host.fetchErr = false ∧ t.host.dbErr = false ∧
      t.host.cfgErr = false ∧ t.host.cplPend = [] ∧ t.host.pci = pcieReset ∧ t.host.evtSeq = s.host.evtSeq ∧ t.host.heldEvents = s.host.heldEvents ∧
      t.host.fetched = s.host.fetched ∧ (∀ k : Fin 8, (t.tel.streams[k]).run = none) ∧ Frame s t [.host, .tel]
    (∃ t, exec .perstNAssert s = .next t ∧ reset t ∧ t.host.perstN = false ∧ t.host.linkUp = false) ∧
    (∃ t, exec .hotReset s = .next t ∧ reset t ∧ t.host.linkUp = false) ∧
    (∃ t, exec .linkDown s = .next t ∧ reset t ∧ t.host.linkUp = false) ∧
    (∃ t, exec .functionLevelReset s = .next t ∧ reset t ∧ t.host.linkUp = s.host.linkUp)) ∧
  (∀ s : State, (∃ t, exec .d3hotToD0 s = .next t ∧ t.host.d3 = false ∧ t.host.cmdq = s.host.cmdq ∧
      t.host.bme = s.host.bme ∧ Frame s t [.host]) ∧
    ∃ t, exec .perstNDeassert s = .next t ∧ t.host.perstN = true ∧ t.host.linkUp = s.host.linkUp ∧ Frame s t [.host]) ∧
  (∀ (s : State) (pme : Bool),
    (s.host.linkUp = true → ∃ t, exec (.d0ToD3hot pme) s = .next t ∧ t.host.d3 = true ∧ t.host.pmeEn = pme ∧
      t.host.cmdq = s.host.cmdq ∧ Frame s t [.host]) ∧
    (s.host.linkUp = false → ∃ t, exec (.d0ToD3hot pme) s = .next t ∧ Frame s t [])) ∧
  (∀ (s : State) (speed width : Nat), 1 ≤ speed → speed ≤ 4 → 1 ≤ width → width ≤ 2 → s.host.linkUp = false →
    (s.mayTrain = true → ∃ t, exec (.pcieLinkUp speed width) s = .next t ∧ t.host.linkUp = true ∧ t.host.speed = speed ∧
      t.host.width = width ∧ Frame s t [.host]) ∧
    (s.mayTrain = false → ∃ t, exec (.pcieLinkUp speed width) s = .next t ∧ Frame s t [])) ∧
  ∀ (s : State) (msix mask : Bool) (pci : PcieCfg) (clear : BitVec 48),
    let taken := fun (t : State) => t.host.msixEn = msix ∧ t.host.msixMaskAll = mask ∧ t.host.pci = pcieTaken pci ∧
      t.host.aer = s.host.aer &&& ~~~clear.setWidth 32
    (∃ t, exec (.busMasterEnableChange false msix mask pci clear) s = .next t ∧ t.host.bme = false ∧ taken t ∧
      t.host.cplPend = s.host.cplPend ∧ t.host.dataPend = s.host.dataPend ∧ Frame s t [.host]) ∧
    (s.host.fetched = [] → s.host.cplPend = [] → s.host.heldEvents = [] → s.host.dropped = 0 →
      ∃ t, exec (.busMasterEnableChange true msix mask pci clear) s = .next t ∧ t.host.bme = true ∧ taken t ∧
        Frame s t [.host])

/-- HRG_CMDQ_CFG, HRG_CPLQ_CFG, HRG_EVTQ_CFG (R254), HRG_DB_CMDQ, HRG_DB_CPLQ, HRG_DB_EVTQ and DESCRIPTOR_FETCH (R257),
FETCH_ERROR (R290), EVENT_RELEASE (R286), INTERRUPT_HOLDOFF (R289). -/
def Obligations.RingsFollowTheirRules : Prop :=
  (∀ (s : State) (v : Word), s.live = true → s.host.fetched = [] → s.host.heldEvents = [] → s.host.dropped = 0 →
    let on := fun (r r' : Ring) => r'.size = fld v 0 5 ∧ r'.dev = 0 ∧ r'.host = 0 ∧ r'.phase = true ∧ r'.base = r.baseReg
    let good := fun (r : Ring) => 4 ≤ fld v 0 5 ∧ fld v 0 5 ≤ 16 ∧ r.size = 0 ∧ fld (r.baseReg.setWidth 32) 0 6 = 0
    let mod := fun (r' : Ring) => r'.modUs = fld v 16 16 ∧ r'.modCnt = fld v 8 8
    let kept := fun (r : Ring) => fld v 0 5 = 0 ∨ good r ∨ 4 ≤ fld v 0 5 ∧ fld v 0 5 ≤ 16 ∧ r.size = fld v 0 5
    let bad := fun (r : Ring) => fld v 0 5 ≠ 0 ∧ r.size ≠ fld v 0 5 ∧ ¬(good r)
    (∃ t, exec (.hrgCmdqCfg v) s = .next t ∧ (good s.host.cmdq → on s.host.cmdq t.host.cmdq) ∧
      (fld v 0 5 = 0 → t.host.cmdq.size = 0) ∧ (bad s.host.cmdq → t.host.cfgErr = true ∧ t.host.cmdq = s.host.cmdq) ∧
      t.host.cplq = s.host.cplq ∧ t.host.evtq = s.host.evtq ∧ Frame s t [.host]) ∧
    (∃ t, exec (.hrgCplqCfg v) s = .next t ∧ (good s.host.cplq → on s.host.cplq t.host.cplq) ∧
      (fld v 0 5 = 0 → t.host.cplq.size = 0) ∧ (kept s.host.cplq → mod t.host.cplq) ∧ (bad s.host.cplq → t.host.cfgErr = true ∧ t.host.cplq = s.host.cplq) ∧
      t.host.cmdq = s.host.cmdq ∧ t.host.evtq = s.host.evtq ∧ Frame s t [.host]) ∧
    (∃ t, exec (.hrgEvtqCfg v) s = .next t ∧ (good s.host.evtq → on s.host.evtq t.host.evtq) ∧
      (fld v 0 5 = 0 → t.host.evtq.size = 0) ∧ (kept s.host.evtq → mod t.host.evtq) ∧ (bad s.host.evtq → t.host.cfgErr = true ∧ t.host.evtq = s.host.evtq) ∧
      t.host.cmdq = s.host.cmdq ∧ t.host.cplq = s.host.cplq ∧ Frame s t [.host])) ∧
  (∀ (s : State) (v : Word), s.live = true → s.host.fetched = [] → s.host.heldEvents = [] → s.host.dropped = 0 →
    let moved := fun (r r' : Ring) (err : Bool) =>
      (r.size ≠ 0 ∧ v.toNat < r.entries → r' = { r with host := v.toNat }) ∧
      (r.size = 0 ∨ r.entries ≤ v.toNat → r' = r ∧ err = true)
    (∃ t, exec (.hrgDbCmdq v) s = .next t ∧ moved s.host.cmdq t.host.cmdq t.host.dbErr ∧ Frame s t [.host]) ∧
    (∃ t, exec (.hrgDbCplq v) s = .next t ∧ moved s.host.cplq t.host.cplq t.host.dbErr ∧ Frame s t [.host]) ∧
    (∃ t, exec (.hrgDbEvtq v) s = .next t ∧ moved s.host.evtq t.host.evtq t.host.dbErr ∧ Frame s t [.host])) ∧
  (∀ (s : State) (l : List (List Byte)), s.mayFetch = true →
    (∀ d ∈ s.host.fetched ++ l.map parseDesc, opcodeKnown d.opcode = true) →
    let taken := l.take (min s.host.batch s.host.cmdq.waiting)
    ∃ t, exec (.descriptorFetch l) s = .next t ∧ t.host.fetched = s.host.fetched ++ taken.map parseDesc ∧
      t.host.cmdq.dev = (s.host.cmdq.dev + taken.length) % s.host.cmdq.entries ∧ t.host.cplq = s.host.cplq ∧
      Frame s t [.host]) ∧
  (∀ (s : State) (l : List (List Byte)), s.mayFetch = false →
    ∃ t, exec (.descriptorFetch l) s = .next t ∧ Frame s t []) ∧
  (∀ (s : State) (e : ReadErr), s.mayFetch = true → ∃ t, exec (.fetchError e) s = .next t ∧ t.host.fetchErr = true ∧
    t.host.fetchStop = true ∧ t.host.aer = (s.host.logErr e).aer ∧ t.host.pciErr = (s.host.logErr e).pciErr ∧
    t.host.fetched = s.host.fetched ∧ Frame s t [.host]) ∧
  (∀ (s : State) (e : Event), s.mayWrite = true → s.host.evtq.room ≠ 0 → s.host.heldEvents = [e] → s.host.dropped = 0 →
    ∃ t, exec .eventRelease s = .next t ∧ t.host.heldEvents = [] ∧
      .hostWrite (s.host.evtq.base.toNat + 32 * s.host.evtq.dev) (e.bytes s.host.evtq.phase) ∈ t.outbox ∧
      t.host.evtq.dev = (s.host.evtq.advance).dev ∧ Frame s t [.host, .ic]) ∧
  (∀ s : State, s.mayWrite = false → ∃ t, exec .eventRelease s = .next t ∧ Frame s t []) ∧
  ∀ s : State, s.host.msixEn = true → s.host.msixMaskAll = false → s.host.bme = true →
    (s.host.cplq.since ≠ 0 → s.host.cplq.modUs ≠ 0 → s.host.cplq.size ≠ 0 → s.host.msixMask.getLsbD 1 = false →
      ∃ t, exec (.interruptHoldoff false) s = .next t ∧ t.host.cplq.since = 0 ∧ .msix 1 ∈ t.outbox ∧
        t.host.evtq = s.host.evtq ∧ Frame s t [.host]) ∧
    (s.host.evtq.since ≠ 0 → s.host.evtq.modUs ≠ 0 → s.host.evtq.size ≠ 0 → s.host.msixMask.getLsbD 2 = false →
      ∃ t, exec (.interruptHoldoff true) s = .next t ∧ t.host.evtq.since = 0 ∧ .msix 2 ∈ t.outbox ∧
        t.host.cplq = s.host.cplq ∧ Frame s t [.host])

/-- NOP, BUDGET_SET and TIME_SET (R281), CONFIG_WRITE (R269), READ_STATE (R275), LOG_READ (R277), DIGEST_QUERY (R282); the
order of the checks is that of R259. -/
def Obligations.ShortCommandsComplete : Prop :=
  (∀ (s : State) (d : Desc), Front s d → d.opcode = 0x00 → d.target = 0 → d.arg0 = 0 → d.arg1 = 0 →
    (d.bare → ∃ t, exec .nop s = .next t ∧ Completed s t d 0 0 0 false ∧ Frame s t [.host, .ic]) ∧
    (d.rsv ≠ 0 → ∃ t, exec .nop s = .next t ∧ Completed s t d 2 0 0 false ∧ Frame s t [.host, .ic])) ∧
  (∀ (s : State) (d : Desc), Front s d → d.opcode = 0x0D → d.bare → d.target = 0 → d.arg1 = 0 →
    ∃ t, exec .budgetSet s = .next t ∧ t.gov.budget = BitVec.ofNat 32 d.arg0 ∧ t.gov.k = s.gov.k ∧
      Completed s t d 0 0 s.gov.budget.toNat false ∧ Frame s t [.host, .ic, .gov]) ∧
  (∀ (s : State) (d : Desc), Front s d → d.opcode = 0x0E → d.bare → d.target = 0 →
    (d.arg1 < 6311433600 → d.arg0 < 32768 → ∃ t, exec .timeSet s = .next t ∧ t.rtc.now = calOf d.arg1 d.arg0 ∧
      t.rtc.valid = true ∧ Completed s t d 0 0 0 false ∧ AgesOnly s t ∧
      Frame s t [.host, .ic, .rtc, .groups]) ∧
    (6311433600 ≤ d.arg1 ∨ 32768 ≤ d.arg0 → ∃ t, exec .timeSet s = .next t ∧ Completed s t d 14 0 0 false ∧
      Frame s t [.host, .ic])) ∧
  (∀ (s : State) (d : Desc) (bs : List Byte) (cyc : Nat), Front s d → d.opcode = 0x01 → d.buffer bs.length →
    d.target = 0 → d.arg1 = 0 →
    (d.arg0 = 0 → bs.length % 8 = 0 → bs ≠ [] → bs.length ≤ 4096 →
      (∀ b : Word, s.live = true → bs = leBytes 4 0x400 ++ leBytes 4 b.toNat →
        ∃ t, exec (.configWrite (.bytes bs) cyc) s = .next t ∧ t.gov.budget = b ∧
          Completed s t d 0 0 1 false ∧ Frame s t [.host, .ic, .gov]) ∧
      (∀ i, ((pairsIn bs).findIdx? fun p => !pairOk p.1) = some i →
        ∃ t, exec (.configWrite (.bytes bs) cyc) s = .next t ∧ Completed s t d 11 i 0 false ∧ Frame s t [.host, .ic]) ∧
      ∀ e : ReadErr, ∃ t, exec (.configWrite (.error e) cyc) s = .next t ∧ Completed s t d 5 0 0 false ∧
        Frame s t [.host, .ic]) ∧
    (d.arg0 = 1 → bs.length = 100 →
      (ocvCheck bs = 0 → ∀ k : Fin 4, getLe bs 3 1 = k.val → ∃ t, exec (.configWrite (.bytes bs) cyc) s = .next t ∧
        Running s t d false ∧ t.host.nvOps = s.host.nvOps ++ [.ocv s.host.nextId k (parseOcv bs)] ∧ Frame s t [.host]) ∧
      (ocvCheck bs ≠ 0 → ∃ t, exec (.configWrite (.bytes bs) cyc) s = .next t ∧
        Completed s t d (ocvCheck bs) 0 0 false ∧ Frame s t [.host, .ic]))) ∧
  (∀ (s : State) (d : Desc) (cut : Option Nat) (m : Nat), Front s d → d.opcode = 0x07 → d.arg1 = 0 → 1 ≤ m →
    d.buffer m →
    let n := d.arg0 % 256
    let kind := d.arg0 / 256 % 8
    (n * recordSize kind ≤ m → n ≠ 0 → d.target + n ≤ 160 → kind ≤ 4 →
      ∃ t, exec (.readState cut) s = .next t ∧ Running s t d false ∧
        t.host.waiters = s.host.waiters ++ [.read s.host.nextId d.target n kind d.addr cut] ∧ Frame s t [.host]) ∧
    (4 < kind ∨ n * recordSize kind ≤ m ∧ (n = 0 ∨ 160 < d.target + n) →
      ∃ t, exec (.readState cut) s = .next t ∧ Completed s t d 14 0 0 false ∧ Frame s t [.host, .ic]) ∧
    (kind ≤ 4 → m < n * recordSize kind →
      ∃ t, exec (.readState cut) s = .next t ∧ Completed s t d 3 0 0 false ∧ Frame s t [.host, .ic])) ∧
  (∀ (s : State) (d : Desc) (k : Nat), Front s d → d.opcode = 0x08 → d.target = 0 → d.arg1 = 0 →
    d.buffer (32 * k) → 1 ≤ k → k ≤ 2048 →
    let l := s.log.recs.filter fun r => d.arg0 ≤ r.seq.toNat
    let next := ((l.drop k).head?.map fun r => r.seq).getD s.log.nextSeq
    (∃ t, exec (.logRead none) s = .next t ∧ Completed s t d 0 (min k l.length) next.toNat false ∧
      (∀ w ∈ s.host.requests (d.addr, (l.take k).flatMap LogRec.bytes), .hostWrite w.1 w.2 ∈ t.outbox) ∧
      Frame s t [.host, .ic]) ∧
    ∀ n : Nat, ∃ t, exec (.logRead (some n)) s = .next t ∧ Completed s t d 5 0 0 false ∧ Frame s t [.host, .ic]) ∧
  ∀ (s : State) (d : Desc) (n : Nat), Front s d → d.opcode = 0x0F → d.buffer n → d.target = 0 → d.arg1 = 0 →
    (d.arg0 = 0 → 72 ≤ n → ∃ t, exec (.digestQuery none) s = .next t ∧ Completed s t d 0 0 0 false ∧
      (∀ w ∈ s.host.requests (d.addr, s.digestBytes), .hostWrite w.1 w.2 ∈ t.outbox) ∧ Frame s t [.host, .ic]) ∧
    (d.arg0 = 1 → 32 ≤ n → (∀ c ∈ s.host.running, c.opcode ≠ 0x0F) →
      (s.dom.state = .leading → ∃ t, exec (.digestQuery none) s = .next t ∧ Running s t d true ∧
        t.dom.dig.queries = s.dom.dig.queries ++ [(s.host.nextId, s.now / 10000 + 1, d.addr, n, none)] ∧
        Frame s t [.host, .dom]) ∧
      (s.dom.state ≠ .leading → ∃ t, exec (.digestQuery none) s = .next t ∧ Completed s t d 14 1 0 true ∧
        Frame s t [.host, .ic]))

/-- COMMIT and COMMIT_AT_BEAT (R270), RECIPE_LOAD (R271), RECIPE_START (R272), CHANNEL_STOP (R273), CHANNEL_RESUME
(R274). `due`: the boundary of R24. -/
def Obligations.ChannelCommands : Prop :=
  (∀ (s : State) (d : Desc) (bs : List Byte) (cyc : Nat), Front s d → d.opcode = 0x02 → d.buffer 20 → d.target = 0 →
    d.arg0 = 0 → bs.length = 20 →
    let l := selectedBy bs
    let waits := fun (t : State) (written : Bool) => Running s t d false ∧
      t.host.waiters = s.host.waiters ++ [.commit s.host.nextId l (BitVec.ofNat 64 d.arg1) written]
    (∀ n : ChanNo, (l.find? fun n => !s.isConf n) = some n →
      ∃ t, exec (.commit (.bytes bs) cyc) s = .next t ∧ Completed s t d 8 n.val 0 false ∧ Frame s t [.host, .ic]) ∧
    ((∀ n ∈ l, s.isConf n = true) → l ≠ [] →
      (d.arg1 = 0 → ∃ t, exec (.commit (.bytes bs) cyc) s = .next t ∧ waits t true ∧
        (∀ n ∈ l, ∃ x, (t.chans[n]).snap = some x ∧ x.due = (s.beat.number + if cyc < 490 then 1 else 2) ∧
          x.chan = s.chans[n].staged) ∧
        (∀ n, n ∉ l → t.chans[n] = s.chans[n]) ∧ Frame s t [.host, .chans]) ∧
      (d.arg1 ≠ 0 → d.arg1 < s.now + 100 → ∃ t, exec (.commit (.bytes bs) cyc) s = .next t ∧
        Completed s t d 10 0 0 false ∧ Frame s t [.host, .ic]) ∧
      (s.now + 4294967296 < d.arg1 → ∃ t, exec (.commit (.bytes bs) cyc) s = .next t ∧
        Completed s t d 14 0 0 false ∧ Frame s t [.host, .ic]) ∧
      (s.now + 100 ≤ d.arg1 → d.arg1 ≤ s.now + 4294967296 →
        ∃ t, exec (.commit (.bytes bs) cyc) s = .next t ∧ waits t false ∧ Frame s t [.host]))) ∧
  (∀ (s : State) (id : Nat) (l : List ChanNo), s.host.waiters = [.commit id l (s.beat.number + 1) false] →
    (∀ n ∈ l, s.isConf n = true) →
    ∃ t, exec .commitAtBeat s = .next t ∧ t.host.waiters = [.commit id l (s.beat.number + 1) true] ∧
      (∀ n ∈ l, ∃ x, (t.chans[n]).snap = some x ∧ x.due = s.beat.number + 1 ∧ x.chan = s.chans[n].staged) ∧
      (∀ n, n ∉ l → t.chans[n] = s.chans[n]) ∧ Frame s t [.host, .chans]) ∧
  (∀ (s : State) (d : Desc), Front s d → d.opcode = 0x03 → d.target = 0 → d.arg1 = 0 →
    (∀ (bs : List Byte), d.buffer bs.length → d.arg0 < 256 → bs.length % 64 = 0 → 128 ≤ bs.length → bs.length ≤ 16448 →
      (s.recipeCheck d.arg0 bs = none → ∃ t, exec (.recipeLoad (.bytes bs)) s = .next t ∧ Running s t d false ∧
        t.host.nvOps = s.host.nvOps ++ [.recipe s.host.nextId d.arg0 (some (parseRecipe bs))] ∧ t.store = s.store ∧
        Frame s t [.host]) ∧
      (∀ st det, s.recipeCheck d.arg0 bs = some (st, det) → ∃ t, exec (.recipeLoad (.bytes bs)) s = .next t ∧
        Completed s t d st det 0 false ∧ Frame s t [.host, .ic]) ∧
      ∀ e : ReadErr, ∃ t, exec (.recipeLoad (.error e)) s = .next t ∧ Completed s t d 5 0 0 false ∧
        Frame s t [.host, .ic]) ∧
    (∀ (k : Nat) (data : HostData), d.bare → k < 256 → d.arg0 = 256 + k →
      (s.recipeInUse k = true → ∃ t, exec (.recipeLoad data) s = .next t ∧ Completed s t d 18 0 0 false ∧
        Frame s t [.host, .ic]) ∧
      (s.recipeInUse k = false → s.recipeNo k = none → ∃ t, exec (.recipeLoad data) s = .next t ∧
        Completed s t d 32 0 0 false ∧ Frame s t [.host, .ic]) ∧
      (s.recipeInUse k = false → (s.recipeNo k).isSome = true → ∃ t, exec (.recipeLoad data) s = .next t ∧
        Running s t d false ∧ t.host.nvOps = s.host.nvOps ++ [.recipe s.host.nextId k none] ∧ Frame s t [.host]))) ∧
  (∀ (s : State) (d : Desc) (cyc : Nat), Front s d → d.bare → d.arg1 = 0 → s.chanOf d = none →
    (d.opcode = 0x04 → ∃ t, exec (.recipeStart cyc) s = .next t ∧ Completed s t d 8 0 0 false ∧ Frame s t [.host, .ic]) ∧
    (d.opcode = 0x05 → d.target ≠ 0xFFFF →
      ∃ t, exec (.channelStop cyc) s = .next t ∧ Completed s t d 8 0 0 false ∧ Frame s t [.host, .ic]) ∧
    (d.opcode = 0x06 → ∃ t, exec (.channelResume cyc) s = .next t ∧ Completed s t d 8 0 0 false ∧
      Frame s t [.host, .ic])) ∧
  (∀ (s : State) (d : Desc) (n : ChanNo) (cyc : Nat), Front s d → d.bare → d.arg1 = 0 → s.chanOf d = some n →
    let asks := fun (t : State) (r : Request) => Running s t d false ∧
      (t.chans[n]).requests = s.chans[n].requests ++
        [{ req := r, due := s.beat.number + (if cyc < 490 then 1 else 2), cmd := some s.host.nextId }] ∧
      (∀ m, m ≠ n → t.chans[m] = s.chans[m]) ∧ Frame s t [.host, .chans]
    let answers := fun (t : State) (st : Nat) => Completed s t d st 0 0 false ∧ Frame s t [.host, .ic]
    (d.opcode = 0x04 →
      (s.startCheck n (d.arg0 % 256) = 0 →
        ∃ t, exec (.recipeStart cyc) s = .next t ∧ asks t (.start (d.arg0 % 256))) ∧
      (s.startCheck n (d.arg0 % 256) ≠ 0 →
        ∃ t, exec (.recipeStart cyc) s = .next t ∧ answers t (s.startCheck n (d.arg0 % 256)))) ∧
    (d.opcode = 0x05 →
      let rests := s.chans[n].state ≠ .tripped ∧ s.chans[n].state ≠ .latched
      let target := stopTargetOf d.arg0
      (d.arg0 % 4 = 3 → ∃ t, exec (.channelStop cyc) s = .next t ∧ answers t 14) ∧
      (d.arg0 % 4 ≠ 3 → ¬rests → ∃ t, exec (.channelStop cyc) s = .next t ∧ answers t 33) ∧
      (d.arg0 % 4 ≠ 3 → rests → s.alreadyThere n target = true →
        ∃ t, exec (.channelStop cyc) s = .next t ∧ answers t 0) ∧
      (d.arg0 % 4 ≠ 3 → rests → s.alreadyThere n target = false →
        ∃ t, exec (.channelStop cyc) s = .next t ∧ asks t (.stop target .hostStop false))) ∧
    (d.opcode = 0x06 →
      (s.resumePre n = 0 → ∃ t, exec (.channelResume cyc) s = .next t ∧ asks t (.resume (d.arg0 % 2 == 1) false)) ∧
      (s.resumePre n ≠ 0 → ∃ t, exec (.channelResume cyc) s = .next t ∧ answers t (s.resumePre n)))) ∧
  ∀ (s : State) (d : Desc) (cyc : Nat), Front s d → d.opcode = 0x05 → d.bare → d.arg1 = 0 → d.target = 0xFFFF →
    d.arg0 % 4 ≠ 3 →
    let asked := fun n : ChanNo => s.isConf n = true ∧ s.chans[n].state ≠ .tripped ∧ s.chans[n].state ≠ .latched ∧
      s.alreadyThere n (stopTargetOf d.arg0) = false
    ∃ t l, exec (.channelStop cyc) s = .next t ∧ Running s t d false ∧
      t.host.waiters = s.host.waiters ++ [.stop s.host.nextId l] ∧ (∀ n, n ∈ l ↔ asked n) ∧
      (∀ n, asked n → (t.chans[n]).requests = s.chans[n].requests ++
        [{ req := .stop (stopTargetOf d.arg0) .hostStop false
           due := s.beat.number + (if cyc < 490 then 1 else 2), cmd := none }]) ∧
      (∀ n, ¬asked n → t.chans[n] = s.chans[n]) ∧ Frame s t [.host, .chans]

/-- STREAM_CONFIG (R308), LINK_POLICY (R372), CAL_SYSTEM (R279), TRAY_AUTH (R280, R497), UPDATE_STAGE (R504), UPDATE_ACTIVATE
(R508), UPDATE_CONFIRM (R512). -/
def Obligations.StreamLinkCalTrayAndUpdateCommands : Prop :=
  (∀ (s : State) (d : Desc) (k : Fin 8) (bs : List Byte) (cyc : Nat), Front s d → d.opcode = 0x09 → d.buffer 64 →
    d.target = k.val → d.arg0 = 0 → d.arg1 = 0 → bs.length = 64 →
    let x := s.tel.streams[k]
    let y := x.put bs
    let r := y.config (s.dueAt cyc)
    (streamMagic bs = false → ∃ t, exec (.streamConfig (.bytes bs) cyc) s = .next t ∧ Completed s t d 15 1 0 false ∧
      Frame s t [.host, .ic]) ∧
    (streamMagic bs = true → getLe bs 4 1 = 0 →
      ∃ t, exec (.streamConfig (.bytes bs) cyc) s = .next t ∧ (t.tel.streams[k]).run = none ∧
        (s.stagedOf k = false → Completed s t d 0 0 0 false) ∧
        (s.stagedOf k = true → Running s t d false ∧ t.tel.disableCmds = s.tel.disableCmds ++ [(s.host.nextId, k)]) ∧
        Frame s t [.host, .ic, .tel]) ∧
    (streamMagic bs = true → getLe bs 4 1 ≠ 0 →
      (x.run.isSome = true → ∃ t, exec (.streamConfig (.bytes bs) cyc) s = .next t ∧ Completed s t d 6 0 0 false ∧
        Frame s t [.host, .ic]) ∧
      (x.run = none → s.blockCheck bs r ≠ 0 → ∃ t, exec (.streamConfig (.bytes bs) cyc) s = .next t ∧
        Completed s t d 15 (s.blockCheck bs r) 0 false ∧ Frame s t [.host, .ic]) ∧
      (x.run = none → s.blockCheck bs r = 0 → ∃ t, exec (.streamConfig (.bytes bs) cyc) s = .next t ∧
        (t.tel.streams[k]).run = some r ∧ (∀ j : Fin 8, j ≠ k → t.tel.streams[j] = s.tel.streams[j]) ∧
        Completed s t d 0 0 r.units false ∧ Frame s t [.host, .ic, .tel]))) ∧
  (∀ (s : State) (d : Desc) (x : Fin 2) (bs : List Byte), Front s d → d.opcode = 0x0C → d.buffer 64 → d.target = x.val →
    d.arg0 = 0 → d.arg1 = 0 → bs.length = 64 →
    (policyCheck x bs = 0 → ∃ t, exec (.linkPolicy (.bytes bs)) s = .next t ∧ Running s t d false ∧
      (t.links.port[x]).next = some (parsePolicy bs, some s.host.nextId) ∧ t.chans = s.chans ∧ t.hold = s.hold) ∧
    (policyCheck x bs ≠ 0 → ∃ t, exec (.linkPolicy (.bytes bs)) s = .next t ∧
      Completed s t d 13 (policyCheck x bs) 0 false ∧ (t.links.port[x]).next = (s.links.port[x]).next ∧
      t.chans = s.chans)) ∧
  (∀ (s : State) (d : Desc) (p : Fin 4), Front s d → d.opcode = 0x0A → d.bare → d.target = p.val → d.arg0 = 1 →
    d.arg1 = 0 → (s.met.ports[p]).calCmd = none →
    (s.portOwned p = false → (s.met.ports[p]).free = true →
      ∃ t, exec .calSystem s = .next t ∧ Running s t d true ∧ (t.met.ports[p]).job = .zero ∧
        (t.met.ports[p]).state = .busy ∧ (t.met.ports[p]).calRange = false ∧
        (t.met.ports[p]).calCmd = some s.host.nextId ∧ Frame s t [.host, .met]) ∧
    (s.portOwned p = true → ∃ t, exec .calSystem s = .next t ∧ Completed s t d 98 0 0 true ∧
      (t.met.ports[p]).job = (s.met.ports[p]).job ∧ Frame s t [.host, .ic, .met])) ∧
  (∀ (s : State) (d : Desc) (k : Fin 4) (serial : Option (List Byte)) (ack : Bool), Front s d → d.opcode = 0x0B → d.bare →
    d.target = k.val → d.arg0 = 0 → d.arg1 = 0 → s.twin d s.host.nextId = false →
    let answers := fun (st : Nat) (into : TrayState) => ∃ t, exec (.trayAuth serial ack) s = .next t ∧
      (t.sec.trays[k]).state = into ∧ Completed s t d st 0 0 true ∧ t.chans = s.chans
    let owned := s.finalised 3 = true ∧ (s.traySecret.all fun b => b == 0) = false
    ((s.sec.trays[k]).exch.isSome = true → answers 6 (s.sec.trays[k]).state) ∧
    ((s.sec.trays[k]).exch = none →
      (¬owned → answers 115 .failed) ∧
      (owned → (s.sec.trays[k]).here = false → answers 112 .absent) ∧
      (owned → (s.sec.trays[k]).here = true → serial = none ∨ ack = false → answers 113 .failed) ∧
      (owned → (s.sec.trays[k]).here = true → ack = true → ∀ id, serial = some id →
        ∃ t ch, exec (.trayAuth serial ack) s = .next t ∧ Running s t d true ∧
          (t.sec.trays[k]).state = .authenticating ∧
          (t.sec.trays[k]).exch = some { serial := padTo 8 id, challenge := ch, cmd := some s.host.nextId } ∧
          .twWrite k.val 0x3A ([0x10] ++ ch ++ s.serialBytes) ∈ t.outbox ∧ Frame s t [.host, .sec]))) ∧
  (∀ (s : State) (d : Desc) (bs : List Byte), Front s d → d.opcode = 0x10 → d.buffer bs.length → d.target = 0 →
    d.arg0 = 0 → 1 ≤ bs.length → bs.length ≤ 65536 → s.twin d s.host.nextId = false →
    let answers := fun (st value : Nat) => ∃ t, exec (.updateStage (.bytes bs)) s = .next t ∧
      Completed s t d st 0 value true ∧ t.sec.banks = s.sec.banks ∧ t.sec.staging = s.sec.staging
    (∀ st, s.updRefused = some st → answers st 0) ∧
    (s.updRefused = none → s.trialRuns = true → answers 137 0xFFFFFFFF) ∧
    (s.updRefused = none → s.trialRuns = false → d.arg1 ≠ 0 → d.arg1 ≠ s.journal → answers 137 s.journal) ∧
    (s.updRefused = none → s.trialRuns = false → ∀ g, s.sec.staging = some g → d.arg1 = g.image.length → d.arg1 ≠ 0 →
      let img := g.image ++ bs
      img.length ≤ imgLength img → imageStatus img s.baseBank.parts = 0 →
      ∃ t, exec (.updateStage (.bytes bs)) s = .next t ∧ Running s t d true ∧
        t.host.nvOps = s.host.nvOps ++ [.chunk s.host.nextId bs] ∧ t.sec.staging = s.sec.staging ∧
        Frame s t [.host, .sec])) ∧
  (∀ (s : State) (d : Desc), Front s d → d.opcode = 0x11 → d.bare → d.target = 0 → d.arg0 = 0 → d.arg1 = 0 →
    let answers := fun (st : Nat) => ∃ t, exec .updateActivate s = .next t ∧ Completed s t d st 0 0 false ∧
      t.sec.banks = s.sec.banks
    (∀ st, s.updRefused = some st → answers st) ∧
    (s.updRefused = none → s.armable = false → answers 138) ∧
    (s.updRefused = none → s.stagedBank.state = .staged →
      ∃ t, exec .updateActivate s = .next t ∧ Completed s t d 0 0 0 false ∧ (t.sec.banks[s.inactive]).state = .pending ∧
        t.chans = s.chans)) ∧
  ∀ (s : State) (d : Desc), Front s d → d.opcode = 0x12 → d.bare → d.target = 0 → d.arg0 = 0 → d.arg1 = 0 →
    ((s.sec.banks[s.sec.running]).state = .trial → ∃ t, exec .updateConfirm s = .next t ∧ Running s t d false ∧
      t.host.nvOps = s.host.nvOps ++ [.confirm s.host.nextId] ∧ Frame s t [.host]) ∧
    ((s.sec.banks[s.sec.running]).state ≠ .trial → ∃ t, exec .updateConfirm s = .next t ∧
      Completed s t d 140 0 0 false ∧ t.sec.banks = s.sec.banks)

/-- NV_DONE (R271, R269, R283); `other`: the command that the operation ends is none of the updates. -/
def Obligations.NvOperationsEnd : Prop :=
  (∀ (s : State) (ok : Bool), s.host.nvOps = [] → ∃ t, exec (.nvDone ok) s = .next t ∧ Frame s t []) ∧
  ∀ (s : State) (ok : Bool) (op : NvOp) (rest : List NvOp), s.host.nvOps = op :: rest → s.host.fetched = [] →
    let other := fun (id : Nat) => ∀ c ∈ s.host.running, c.id = id → c.opcode < 0x10
    ∃ t, exec (.nvDone ok) s = .next t ∧ t.host.nvOps = rest ∧
      (∀ id k r, op = .recipe id k (some r) → other id → r ∈ t.store.recipes ∧
        (∀ x ∈ s.store.recipes, x.number ≠ k → x ∈ t.store.recipes) ∧ Frame s t [.host, .ic, .store]) ∧
      (∀ id k, op = .recipe id k none → other id →
        t.store.recipes = (s.store.recipes.filter fun x => x.number != k) ∧ Frame s t [.host, .ic, .store]) ∧
      (∀ id k x, op = .ocv id k x → other id → t.store.ocvNext = s.store.ocvNext ++ [(k, x)] ∧
        Frame s t [.host, .ic, .store]) ∧
      (∀ id k x, op = .grade id k x → other id → t.store.grade = s.store.grade.set k (some x) ∧
        Frame s t [.host, .ic, .store]) ∧
      (∀ id data g, op = .chunk id data → ok = true → s.sec.staging = some g →
        let img := g.image ++ data
        let whole := imgLength img ≤ img.length
        (whole → t.sec.staging = none ∧ (t.sec.banks[s.inactive]).state = .staged) ∧
        (¬whole → t.sec.staging = some { image := img } ∧ (t.sec.banks[s.inactive]).state = .staging) ∧
        t.chans = s.chans) ∧
      (∀ id data b g len mf, op = .chunk id data → ok = false → s.sec.undo = some (b, g, len, mf) →
        t.sec.staging = g ∧ t.sec.updLength = len ∧ t.chans = s.chans) ∧
      (∀ id, op = .confirm id → ok = true → (s.sec.banks[s.sec.running]).state = .trial →
        (t.sec.banks[s.sec.running]).state = .confirmed ∧
        (∀ o : Fin 2, o ≠ s.sec.running → (t.sec.banks[o]).state = .retired) ∧ t.chans = s.chans)

/-- TSQ_CFG (R305), BLOCK_WRITE (R297, R302), HRG_DB_TSQ (R300), LINK_RETRAIN (R306). -/
def Obligations.StreamsRunAndWrite : Prop :=
  (∀ (s : State) (k : Fin 8) (v : Word) (cyc : Nat), s.live = true →
    let w := v &&& 0xFFFF1FFF#32
    let x := s.tel.streams[k]
    (fld w 0 5 = 0 → ∃ t, exec (.tsqCfg k v cyc) s = .next t ∧ (t.tel.streams[k]).run = none ∧
      (∀ j : Fin 8, j ≠ k → t.tel.streams[j] = s.tel.streams[j]) ∧ Frame s t [.tel]) ∧
    (fld w 0 5 ≠ 0 → fld x.cfg 0 5 = 0 →
      let r := Stream.config { x with cfg := w } (s.dueAt cyc)
      (s.streamCheck r = 0 → ∃ t, exec (.tsqCfg k v cyc) s = .next t ∧ (t.tel.streams[k]).run = some r ∧
        (t.tel.streams[k]).write = 0 ∧ (t.tel.streams[k]).phase = true ∧
        (∀ j : Fin 8, j ≠ k → t.tel.streams[j] = s.tel.streams[j]) ∧ Frame s t [.tel]) ∧
      (s.streamCheck r ≠ 0 → ∃ t, exec (.tsqCfg k v cyc) s = .next t ∧ (t.tel.streams[k]).run = x.run ∧
        (t.tel.streams[k]).reason = s.streamCheck r ∧ t.host.cfgErr = true ∧ Frame s t [.tel, .host])) ∧
    (fld w 0 5 ≠ 0 → fld w 0 5 = fld x.cfg 0 5 → ∃ t, exec (.tsqCfg k v cyc) s = .next t ∧
      (t.tel.streams[k]).cfg = w ∧ (t.tel.streams[k]).run = x.run ∧ Frame s t [.tel]) ∧
    (fld w 0 5 ≠ 0 → fld x.cfg 0 5 ≠ 0 → fld w 0 5 ≠ fld x.cfg 0 5 →
      ∃ t, exec (.tsqCfg k v cyc) s = .next t ∧ t.host.cfgErr = true ∧ Frame s t [.host])) ∧
  (∀ (s : State) (b : Block) (rest : List Block), s.tel.staged = b :: rest →
    (s.mayWrite = true → s.tel.disableCmds = [] → ∃ t, exec .blockWrite s = .next t ∧ t.tel.staged = rest ∧
      (∀ w ∈ s.host.requests (b.addr + 16, b.body), .hostWrite w.1 w.2 ∈ t.outbox) ∧
      (∀ w ∈ s.host.requests (b.addr, b.header), .hostWrite w.1 w.2 ∈ t.outbox) ∧
      ((s.tel.streams[b.stream]).gen = b.gen → (t.tel.streams[b.stream]).write = b.nextAt ∧
        (t.tel.streams[b.stream]).phase = b.nextPhase ∧ (t.tel.streams[b.stream]).seq = b.seq) ∧ Frame s t [.tel]) ∧
    (s.mayWrite = false → ∃ t, exec .blockWrite s = .next t ∧ Frame s t [])) ∧
  (∀ (s : State) (k : Fin 8) (v : Word), s.live = true →
    (∀ r, (s.tel.streams[k]).run = some r → v.toNat < 2 ^ r.size →
      ∃ t, exec (.hrgDbTsq k v) s = .next t ∧ (t.tel.streams[k]).read = v.toNat ∧ t.host.dbErr = s.host.dbErr ∧
        Frame s t [.tel]) ∧
    (∀ r, (s.tel.streams[k]).run = some r → 2 ^ r.size ≤ v.toNat →
      ∃ t, exec (.hrgDbTsq k v) s = .next t ∧ t.host.dbErr = true ∧ Frame s t [.host]) ∧
    ((s.tel.streams[k]).run = none → ∃ t, exec (.hrgDbTsq k v) s = .next t ∧ t.host.dbErr = true ∧ Frame s t [.host])) ∧
  ∀ (s : State) (speed width : Nat), 1 ≤ speed → speed ≤ 4 → 1 ≤ width → width ≤ 2 →
    (s.host.linkUp = true → ∃ t, exec (.linkRetrain speed width) s = .next t ∧ t.host.speed = speed ∧
      t.host.width = width ∧ t.host.linkUp = true ∧ Frame s t [.host]) ∧
    (s.host.linkUp = false → ∃ t, exec (.linkRetrain speed width) s = .next t ∧ Frame s t [])

/-- RING_PORT_CHANGE (R310), TRAIN_RECEIVE (R313, R314, R320, R322), PING, PONG, PING_SEND (R319), RING_SWITCH (R320). -/
def Obligations.RingPortsCarryTrains : Prop :=
  (∀ (s : State) (ring up : Bool),
    ((s.dom.port ring).up = up → ∃ t, exec (.ringPortChange ring up) s = .next t ∧ Frame s t []) ∧
    ((s.dom.port ring).up ≠ up → ∃ t, exec (.ringPortChange ring up) s = .next t ∧ (t.dom.port ring).up = up ∧
      (t.dom.port ring).trains = false ∧ (t.dom.port ring).hs = (s.dom.port ring).hs ∧ t.dom.port (!ring) = s.dom.port (!ring) ∧
      (∃ e ∈ t.host.openEvents, e.kind = .device ∧ e.typ = 32) ∧ Frame s t [.dom, .host, .ic])) ∧
  (∀ (s : State) (ring : Bool) (hdr : List Byte) (slots : List (List Byte)) (f : Nat) (x : Int),
    let p := s.dom.port ring
    let e := exec (.trainReceive ring hdr slots f x) s
    let acc := getLe hdr 4 3
    let lead := getLe hdr 7 2
    let d' := x + ((acc + p.hop : Nat) : Int)
    (p.up = false → ∃ t, e = .next t ∧ Frame s t []) ∧
    (p.up = true → s.beat.running = true → s.dom.originating = false →
      (crc8 (hdr.take 9) ≠ hdr.getD 9 0 → ∃ t, e = .next t ∧ t.dom.hdrErr = min 0xFFFF (s.dom.hdrErr + 1) ∧
        (∃ l, .ringTrain ring (hdr.take 9 ++ [~~~(hdr.getD 9 0)]) l ∈ t.outbox) ∧ t.dom.trim = s.dom.trim ∧
        t.dom.port (!ring) = s.dom.port (!ring) ∧ Frame s t [.dom, .ic]) ∧
      (crc8 (hdr.take 9) = hdr.getD 9 0 →
        let h := hdr.take 4 ++ leBytes 3 (acc + p.hop + f) ++ slice hdr 7 2
        ∃ t, e = .next t ∧ t.dom.hdrErr = s.dom.hdrErr ∧ (∃ l, .ringTrain ring (h ++ [crc8 h]) l ∈ t.outbox) ∧
          (t.dom.port ring).quiet = 0 ∧ t.dom.port (!ring) = s.dom.port (!ring) ∧
          (lead / 2048 % 2 = 0 → s.dom.state.member = true → lead % 1024 = s.dom.leader →
            (t.dom.port ring).dly = acc + p.hop ∧ (t.dom.port ring).missing = 0 ∧
            (s.dom.state = .aligned → ring = s.dom.ringUsed → t.dom.err = d' ∧
              (-400000 < s.dom.trim → s.dom.trim < 400000 → t.dom.servo = s.dom.servo + d' ∧
                t.dom.trim = clampInt (-400000) 400000 (-(100 * d' + (s.dom.servo + d')))))) ∧
          Frame s t [.dom, .ic]))) ∧
  (∀ (s : State) (ring : Bool) (addr seq turn rt : Nat),
    let takes := s.dom.state.member = true ∨ s.dom.state.originates = true
    (takes → ∃ t, exec (.ping ring addr seq turn) s = .next t ∧ (t.dom.port (!ring)).queue =
      (s.dom.port (!ring)).queue ++ [slotBytes 0x21 s.dom.addr ([byte seq] ++ leBytes 3 turn)] ∧
      t.dom.port ring = s.dom.port ring ∧ Frame s t [.dom]) ∧
    ((s.dom.port ring).up = true → ∃ t, exec (.pong ring addr seq turn rt) s = .next t ∧
      (t.dom.port ring).hs = (((rt : Int) - turn) :: (s.dom.port ring).hs).take 16 ∧
      t.dom.port (!ring) = s.dom.port (!ring) ∧ Frame s t [.dom]) ∧
    (takes → (s.dom.port ring).up = true → ∀ a, (s.dom.port ring).pingAt = some a → a + 1000 ≤ s.beat.uptime →
      ∃ t, exec (.pingSend ring) s = .next t ∧ (t.dom.port ring).pingAt = some s.beat.uptime ∧
        (t.dom.port (!ring)).queue = (s.dom.port (!ring)).queue ++ [slotBytes 0x20 s.dom.addr [byte (s.dom.port ring).pingSeq]] ∧
        Frame s t [.dom])) ∧
  ∀ s : State, s.dom.state.member = true →
    (1000 ≤ s.dom.gain → ∃ t, exec .ringSwitch s = .next t ∧ t.dom.ringUsed = (!s.dom.ringUsed) ∧ t.dom.gain = 0 ∧
      Frame s t [.dom]) ∧
    (4 ≤ (s.dom.port s.dom.ringUsed).missing → (s.dom.port (!s.dom.ringUsed)).usable = true →
      ∃ t, exec .ringSwitch s = .next t ∧ t.dom.ringUsed = (!s.dom.ringUsed) ∧ t.dom.state = s.dom.state ∧ Frame s t [.dom]) ∧
    (s.dom.gain < 1000 → (s.dom.port s.dom.ringUsed).missing < 4 ∨ (s.dom.port (!s.dom.ringUsed)).usable = false → ∃ t, exec .ringSwitch s = .next t ∧ Frame s t [])

/-- DOM_CTRL_EN (R317, R324), RLAST_CLR (R336), CLAIM, ELECTION_WIN, ELECTION_RESTART (R316 to R318), ALIGNED_ENTRY,
ALIGNMENT_LOSS (R322), LEADER_LOST (R338), LEADER_COMPARE, REEPOCH (R339), EPOCH (R321), INFO (R315, R336). -/
def Obligations.DomainStatesFollowTheirRules : Prop :=
  (∀ (s : State) (v : Word), s.live = true →
    (bit v 0 = true → s.dom.state = .off → ∃ t, exec (.domCtrlEn v) s = .next t ∧ t.dom.state = .search ∧
      t.dom.best = some s.ownKey ∧ t.dom.en = true ∧ Frame s t [.dom, .host, .ic]) ∧
    (bit v 0 = false → s.dom.state ≠ .leading →
      ∃ t, exec (.domCtrlEn v) s = .next t ∧ t.dom.state = .off ∧ t.dom.en = false ∧ t.dom.holdover = false ∧
        t.dom.best = none ∧ Frame s t [.dom, .host, .ic, .flt]) ∧
    (bit v 0 = true → bit v 2 = true → s.dom.state = .leading → ∃ t, exec (.rlastClr v) s = .next t ∧
      t.dom.rlast = s.rosterSize ∧ t.dom.state = .leading ∧ Frame s t [.dom])) ∧
  (∀ (s : State) (ring : Bool) (addr serial : Nat) (strap : Bool),
    (s.dom.state ∉ [.off, .conflict, .leading] → addr = s.dom.addr → serial ≠ s.serial → ∃ t, exec (.claim ring addr strap serial) s = .next t ∧
      t.dom.state = .conflict ∧ t.dom.addrConflict = true ∧ Frame s t [.dom, .host, .ic]) ∧
    (s.dom.state = .search → addr ≠ s.dom.addr → strap = true → s.dom.strapped = true →
      ∃ t, exec (.claim ring addr strap serial) s = .next t ∧ t.dom.strapConflict = true ∧ t.dom.state = .search ∧
        Frame s t [.dom, .host]) ∧
    (s.dom.state = .search → addr ≠ s.dom.addr → strap = false ∨ s.dom.strapped = false → ∀ k, s.dom.best = some k →
      let key : DomKey := { strap := strap, addr := addr, serial := serial }
      (key.better k = true → ∃ t, exec (.claim ring addr strap serial) s = .next t ∧ t.dom.best = some key ∧
        t.dom.still = 0 ∧ Frame s t [.dom]) ∧
      (key.better k = false → ∃ t, exec (.claim ring addr strap serial) s = .next t ∧ Frame s t []))) ∧
  (∀ s : State, s.dom.state = .search →
    (s.dom.best = some s.ownKey → 2000 ≤ s.dom.still → ∃ t, exec .electionWin s = .next t ∧
      t.dom.state = .leading ∧ t.dom.leader = s.dom.addr ∧ t.dom.roster = 1 ∧ t.dom.holdover = false ∧
      Frame s t [.dom, .host, .ic, .flt]) ∧
    (s.dom.still < 2000 → ∃ t, exec .electionWin s = .next t ∧ Frame s t []) ∧
    (s.dom.best ≠ some s.ownKey → 4000 ≤ s.dom.still → s.dom.heardBest = false → ∃ t, exec .electionRestart s = .next t ∧
      t.dom.best = some s.ownKey ∧ t.dom.still = 0 ∧ Frame s t [.dom]) ∧
    (s.dom.still < 4000 ∨ s.dom.heardBest = true → ∃ t, exec .electionRestart s = .next t ∧ Frame s t [])) ∧
  (∀ s : State,
    (s.dom.state = .acquire → 1000 ≤ s.dom.ok → ∃ t, exec .alignedEntry s = .next t ∧ t.dom.state = .aligned ∧
      t.dom.trim = s.dom.trim ∧ Frame s t [.dom, .host, .ic]) ∧
    (s.dom.state = .aligned → 16 ≤ s.dom.bad → ∃ t, exec .alignmentLoss s = .next t ∧ t.dom.state = .acquire ∧
      t.dom.trim = s.dom.trim ∧ Frame s t [.dom, .host, .ic]) ∧
    (s.dom.state.member = true → (∀ p ∈ s.dom.ports.toList, 16 ≤ p.missing) →
      ∃ t, exec .leaderLost s = .next t ∧ t.dom.state = .search ∧ t.dom.holdover = true ∧ t.dom.trim = s.dom.trim ∧
        t.beat = s.beat ∧ (s.dom.holdover = true → Frame s t [.dom, .host, .ic]) ∧
        (s.dom.holdover = false → s.flt.active.getLsbD 24 = false → t.flt.hit.getLsbD 24 = true)) ∧
    (s.dom.state.member = true → (∃ p ∈ s.dom.ports.toList, p.missing < 16) → ∃ t, exec .leaderLost s = .next t ∧ Frame s t [])) ∧
  (∀ (s : State) (ring strap : Bool) (addr : Nat) (delta : Int), addr ≠ s.dom.addr →
    (∀ k : DomKey, s.dom.state = .search → s.dom.best = some k → k.addr = addr →
      (delta.natAbs ≤ 500 → ∃ t, exec (.epoch ring addr strap delta) s = .next t ∧ t.dom.state = .acquire ∧
        t.dom.leader = addr ∧ t.dom.reepochDue = s.dom.reepochDue ∧ t.dom.holdover = false ∧
        Frame s t [.dom, .host, .ic, .flt]) ∧
      (500 < delta.natAbs → s.reepochOk = false → ∃ t, exec (.epoch ring addr strap delta) s = .next t ∧
        t.dom.state = .outOfStep ∧ t.dom.leader = addr ∧ Frame s t [.dom, .host, .ic])) ∧
    (s.dom.state.member = true → addr = s.dom.leader → s.dom.joining = false →
      ∃ t, exec (.epoch ring addr strap delta) s = .next t ∧
        t.dom.delta = delta ∧ t.dom.state = s.dom.state ∧ Frame s t [.dom])) ∧
  (∀ s : State, s.dom.state = .outOfStep →
    (s.reepochOk = true → ∃ t, exec .reepoch s = .next t ∧ t.dom.reepochDue = true ∧
      t.dom.state = .acquire ∧ t.dom.holdover = false ∧ Frame s t [.dom, .host, .ic, .flt]) ∧
    (s.reepochOk = false → ∃ t, exec .reepoch s = .next t ∧ Frame s t [])) ∧
  ∀ (s : State) (ring : Bool) (addr roster rlast lead q : Nat), s.dom.state.member = true →
    (addr = s.dom.leader → ∃ t, exec (.info ring addr roster rlast lead q) s = .next t ∧ t.dom.roster = roster ∧
      t.dom.rlast = rlast ∧ t.dom.leadUse = lead ∧ t.dom.qUse = q ∧ Frame s t [.dom]) ∧
    (addr ≠ s.dom.leader → ∃ t, exec (.info ring addr roster rlast lead q) s = .next t ∧
      t.dom.otherInfo = some (addr, roster) ∧ t.dom.roster = s.dom.roster ∧ Frame s t [.dom]) ∧
    (s.dom.otherInfo = some (addr, roster) → (s.dom.port ring).otherAddr = addr → 16 ≤ (s.dom.port ring).others →
      (s.dom.port ring).otherStrap = false → s.dom.leaderStrap = false →
      (s.dom.roster < roster → ∃ t, exec (.leaderCompare ring) s = .next t ∧ t.dom.joining = true ∧ Frame s t [.dom]) ∧
      (roster < s.dom.roster → ∃ t, exec (.leaderCompare ring) s = .next t ∧ Frame s t []))


/-- BARRIER_RELEASE_ISSUE (R327, R329), DOM_BAR_REL (R328), RING_RELEASE (R330), DOM_STAGE (R334), DOM_ACT_GO,
DOM_ACT_CANCEL, ACTIVATION_SEND, ACTIVATION_TIMEOUT (R335), ACTIVATE, ACTIVATE_COMMIT (R337). -/
def Obligations.ReleasesAndActivationsFollowTheirConditions : Prop :=
  (∀ (s : State) (x : Nat), s.dom.state = .off → s.dom.act.order = none → someWaits (s.freshReports x) = true →
    allReady (s.freshReports x) = true → s.roomForRelease x = true →
    ∃ t, exec (.barrierReleaseIssue x) s = .next t ∧
      t.dom.releases = s.dom.releases ++ [{ id := x, beat := s.beat.number + 257, rseq := s.dom.rseq }] ∧
      t.dom.outq = s.dom.outq ∧ Frame s t [.dom, .host]) ∧
  (∀ (s : State) (x : Nat), s.live = true → 0 < x → x < 4294967296 →
    let refused := fun (r : Nat) => ∃ t, exec (.domBarRel (BitVec.ofNat 32 x)) s = .next t ∧ t.dom.barResult = r ∧
      t.dom.releases = s.dom.releases ∧ Frame s t [.dom]
    (s.dom.state ≠ .leading → refused 2) ∧
    (s.dom.state = .leading →
      (s.dom.barMode = false → refused 3) ∧
      (s.dom.barMode = true →
        (s.quorumOk = false → refused 4) ∧
        (s.quorumOk = true → s.noneAcquiring = false → refused 5) ∧
        (s.quorumOk = true → s.noneAcquiring = true → oneDigest (s.freshReports x) = false → refused 6) ∧
        (s.quorumOk = true → s.noneAcquiring = true → oneDigest (s.freshReports x) = true →
          s.roomForRelease x = false → refused 7)))) ∧
  (∀ (s : State) (x : Nat), s.dom.state = .leading → s.dom.act.order = none →
    let n := s.beat.number + BitVec.ofNat 64 s.leadInUse
    let issued := fun (t : State) =>
      t.dom.releases = s.dom.releases ++ [{ id := x, beat := n, rseq := s.dom.rseq }] ∧
      t.dom.outq = s.dom.outq ++ [(.release x n s.dom.rseq, 3)] ∧ t.dom.rseq = (s.dom.rseq + 1) % 256
    let fine := s.quorumOk = true ∧ s.noneAcquiring = true ∧ oneDigest (s.freshReports x) = true ∧ s.roomForRelease x = true
    (s.dom.barMode = false → s.dom.joining = false → someWaits (s.freshReports x) = true → allReady (s.freshReports x) = true →
      (fine → ∃ t, exec (.barrierReleaseIssue x) s = .next t ∧ issued t ∧ Frame s t [.dom, .host]) ∧
      (s.quorumOk = false → (x, 1) ∉ s.dom.blocked → ∃ t, exec (.barrierReleaseIssue x) s = .next t ∧
        t.dom.releases = s.dom.releases ∧ (x, 1) ∈ t.dom.blocked ∧ Frame s t [.dom, .host, .ic])) ∧
    (s.dom.barMode = true → ∃ t, exec (.barrierReleaseIssue x) s = .next t ∧ Frame s t []) ∧
    (s.live = true → 0 < x → x < 4294967296 → s.dom.barMode = true → fine →
      ∃ t, exec (.domBarRel (BitVec.ofNat 32 x)) s = .next t ∧ issued t ∧
        t.dom.barResult = 1 ∧ Frame s t [.dom, .host])) ∧
  (∀ (s : State) (v : Word), s.live = true →
    (∃ t, exec (.domStage v) s = .next t ∧ t.dom.stage.tag = fld v 0 16 ∧ t.dom.stage.actAt = none ∧
      (t.dom.stage.state = .armed ↔ bit v 31 = true ∧ fld v 0 16 ≠ 0) ∧ t.dom.stage.mask = s.dom.stage.mask ∧ Frame s t [.dom]) ∧
    (bit v 31 = true → s.dom.state = .leading → ∃ t, exec (.domActGo v) s = .next t ∧ t.dom.act.result = 1 ∧
      (∃ o, t.dom.act.order = some o ∧ o.tag = fld v 0 16 ∧ o.since = s.now ∧ (o.bar.isSome ↔ bit v 28 = true) ∧ o.all = bit v 29) ∧
      Frame s t [.dom]) ∧
    (bit v 31 = true → s.dom.state ≠ .leading → ∃ t, exec (.domActGo v) s = .next t ∧ t.dom.act.result = 5 ∧ Frame s t [.dom]) ∧
    (bit v 31 = false → bit v 30 = true → s.dom.act.order ≠ none → ∃ t, exec (.domActCancel v) s = .next t ∧
      t.dom.act.result = 4 ∧ t.dom.act.order = none ∧ Frame s t [.dom])) ∧
  (∀ (s : State) (o : ActOrder), s.dom.act.order = some o → o.bar = none →
    (s.dom.state = .leading → s.quorumOk = true → s.noneAcquiring = true → s.stagedOk o = true →
      ∃ t, exec .activationSend s = .next t ∧ t.dom.act.result = 2 ∧ t.dom.act.order = none ∧
        t.dom.act.n = s.beat.number + BitVec.ofNat 64 s.leadInUse ∧
        t.dom.outq = s.dom.outq ++ [(.activate o.tag t.dom.act.n s.dom.rseq, 3)] ∧ Frame s t [.dom]) ∧
    (s.stagedOk o = false → ∃ t, exec .activationSend s = .next t ∧ Frame s t []) ∧
    (o.since + 100000 ≤ s.now → ∃ t, exec .activationTimeout s = .next t ∧ t.dom.act.result = 3 ∧ t.dom.act.order = none ∧
      Frame s t [.dom]) ∧
    (s.now < o.since + 100000 → ∃ t, exec .activationTimeout s = .next t ∧ Frame s t [])) ∧
  (∀ (s : State) (ring : Bool) (id tag offset rseq b : Nat), s.dom.state = .acquire ∨ s.dom.state = .aligned →
    let n := beatNear s.beat.number (b + offset)
    (rseq ∈ s.dom.seenRel → ∃ t, exec (.ringRelease ring s.dom.leader id offset rseq b) s = .next t ∧ Frame s t []) ∧
    (rseq ∉ s.dom.seenRel → s.beat.number + 1 < n →
      ∃ t, exec (.ringRelease ring s.dom.leader id offset rseq b) s = .next t ∧
        t.dom.releases = s.dom.releases ++ [{ id := id, beat := n, rseq := rseq }] ∧ rseq ∈ t.dom.seenRel ∧
        Frame s t [.dom, .host]) ∧
    (rseq ∉ s.dom.seenRel → n ≤ s.beat.number + 1 →
      ∃ t, exec (.ringRelease ring s.dom.leader id offset rseq b) s = .next t ∧ t.dom.releases = s.dom.releases ∧
        (∃ e ∈ t.host.openEvents, e.kind = .device ∧ e.typ = 41) ∧ Frame s t [.dom, .host, .ic]) ∧
    (rseq ∉ s.dom.seenAct → s.dom.stage.state = .armed → s.dom.stage.tag = tag →
      ∃ t, exec (.activate ring s.dom.leader tag offset rseq b) s = .next t ∧ t.dom.stage.actAt = some n ∧ Frame s t [.dom])) ∧
  ∀ (s : State) (n : Beat), s.dom.stage.actAt = some n →
    let cs := ((maskChans s.dom.stage.mask).filterMap (finOf 160)).filter s.isConf
    (s.beat.number + 1 = n → ∃ t, exec .activateCommit s = .next t ∧ t.dom.stage.state = .done ∧ t.dom.stage.actAt = none ∧
      (∀ c ∈ cs, ∃ x, (t.chans[c]).snap = some x ∧ x.due = n) ∧ (∀ c, c ∉ cs → t.chans[c] = s.chans[c]) ∧
      (∃ e ∈ t.host.openEvents, e.kind = .device ∧ e.typ = 38) ∧ Frame s t [.dom, .host, .chans]) ∧
    (s.beat.number + 1 ≠ n → ∃ t, exec .activateCommit s = .next t ∧ Frame s t [])

/-- STATUS (R327), DIGEST (R332), BAR_REPORT, BAR_REPORT_SEND (R326), STAGED, STAGED_SEND (R334), UPD_STAGED (R337),
MISMATCH, DIGEST_SEND, SWEEP_END (R332), DIGEST_RECOMPUTE (R331). -/
def Obligations.MembersReportAndDigestsCompare : Prop :=
  (∀ (s : State) (ring : Bool) (addr st flags dly tag count id : Nat) (trunc dg : List Byte) (ready waiting : Bool),
    (s.dom.state = .leading → addr ≠ s.dom.addr →
      (∃ t, exec (.status ring addr st flags dly) s = .next t ∧
        (∃ m ∈ t.dom.members, m.addr = addr ∧ m.state = st ∧ m.flags = flags ∧ m.dly = dly ∧ m.at_ = s.now) ∧
        (∀ m ∈ s.dom.members, m.addr ≠ addr → m ∈ t.dom.members) ∧ Frame s t [.dom]) ∧
      (∃ t, exec (.digest ring addr trunc) s = .next t ∧
        (∀ m ∈ t.dom.members, m.addr = addr → m.digest = some (padTo 8 trunc, s.now / 10000)) ∧
        t.dom.roster = s.dom.roster ∧ Frame s t [.dom]) ∧
      (∃ t, exec (.staged ring addr tag count) s = .next t ∧
        (∀ m ∈ t.dom.members, m.addr = addr → m.staged = some (tag, s.now)) ∧ Frame s t [.dom]) ∧
      (∃ t, exec (.updStagedMessage ring addr trunc) s = .next t ∧
        (∀ m ∈ t.dom.members, m.addr = addr → m.upd = some (padTo 8 trunc, s.now)) ∧ Frame s t [.dom]) ∧
      ∃ t, exec (.barReport ring addr id ready waiting dg) s = .next t ∧
        { addr := addr, id := id, digest := dg, ready := ready, waiting := waiting, at_ := s.now } ∈ t.dom.reports ∧
        t.dom.members = s.dom.members ∧ Frame s t [.dom]) ∧
    (s.dom.state ≠ .leading → (∃ t, exec (.status ring addr st flags dly) s = .next t ∧ Frame s t []) ∧
      (∃ t, exec (.digest ring addr trunc) s = .next t ∧ Frame s t []) ∧
      (∃ t, exec (.staged ring addr tag count) s = .next t ∧ Frame s t []) ∧
      (∃ t, exec (.updStagedMessage ring addr trunc) s = .next t ∧ Frame s t []) ∧
      ∃ t, exec (.barReport ring addr id ready waiting dg) s = .next t ∧ Frame s t []) ∧
    (s.dom.state.member = true → (∃ t, exec (.mismatch ring s.dom.addr trunc) s = .next t ∧ t.dom.dig.misValid = true ∧
        t.dom.dig.misAddr = s.dom.leader ∧ t.dom.dig.misCount = satInc 0xFFFF s.dom.dig.misCount ∧
        (s.flt.active.getLsbD 23 = false → t.flt.hit.getLsbD 23 = true)) ∧
      (addr ≠ s.dom.addr → ∃ t, exec (.mismatch ring addr trunc) s = .next t ∧ Frame s t []))) ∧
  (∀ (s : State) (x : Nat), s.dom.state.member = true →
    (s.ownReports x ≠ [] → (∀ b ∈ s.dom.barSent, b.id ≠ x) → ∃ t, exec (.barReportSend x) s = .next t ∧
      { id := x, reports := s.ownReports x, sentAt := s.beat.uptime } ∈ t.dom.barSent ∧ Frame s t [.dom]) ∧
    (s.ownReports x = [] → ∃ t, exec (.barReportSend x) s = .next t ∧
      t.dom.barSent = (s.dom.barSent.filter fun b => b.id != x) ∧ Frame s t [.dom]) ∧
    (s.dom.state = .aligned → 8 * s.dom.addr ≤ s.now % 10000 → s.dom.dig.sweepSent ≠ some (s.now / 10000) → (s.dom.port false).up = true →
      (s.dom.port true).up = false → ∃ t, exec .digestSend s = .next t ∧ t.dom.dig.sweepSent = some (s.now / 10000) ∧
        (t.dom.port false).queue = (s.dom.port false).queue ++ [slotBytes 0x11 s.dom.addr (s.dom.dig.shared.take 8)] ∧
        t.dom.port true = s.dom.port true ∧ Frame s t [.dom]) ∧
    (s.now % 10000 < 8 * s.dom.addr → ∃ t, exec .digestSend s = .next t ∧ Frame s t []) ∧
    (s.dom.stage.state = .armed → s.dom.stage.sentAt = none → ∃ t, exec .stagedSend s = .next t ∧
      t.dom.stage.sentAt = some s.beat.uptime ∧ t.dom.stage.state = .armed ∧ Frame s t [.dom]) ∧
    (s.dom.stage.state ≠ .armed → ∃ t, exec .stagedSend s = .next t ∧ Frame s t [])) ∧
  (∀ s : State, s.dom.state = .leading → 10000 ≤ s.now → s.dom.dig.sweepDone ≠ some (s.now / 10000 - 1) →
    s.dom.dig.queries = [] →
    (∀ m ∈ s.rosterMembers, ∀ x q, m.digest = some (x, q) → q = s.now / 10000 - 1 → x = s.dom.dig.shared.take 8) →
    ∃ t, exec .sweepEnd s = .next t ∧ t.dom.dig.sweepDone = some (s.now / 10000 - 1) ∧ t.dom.outq = s.dom.outq ∧
      t.dom.dig.misCount = s.dom.dig.misCount ∧ Frame s t [.dom]) ∧
  (∀ (s : State) (m : Member) (x : List Byte), s.dom.state = .leading → 10000 ≤ s.now →
    s.dom.dig.sweepDone ≠ some (s.now / 10000 - 1) → s.dom.dig.queries = [] → s.rosterMembers = [m] →
    m.digest = some (x, s.now / 10000 - 1) → x ≠ s.dom.dig.shared.take 8 → m.differs ≠ some x →
    ∃ t, exec .sweepEnd s = .next t ∧ t.dom.dig.sweepDone = some (s.now / 10000 - 1) ∧
      t.dom.outq = s.dom.outq ++ [(.mismatch m.addr (s.dom.dig.shared.take 8), 1)] ∧
      t.dom.dig.misCount = satInc 0xFFFF s.dom.dig.misCount ∧ t.dom.dig.misAddr = m.addr ∧
      (s.flt.active.getLsbD 23 = false → t.flt.hit.getLsbD 23 = true)) ∧
  ∀ s : State, ∃ t, exec .digestRecompute s = .next t ∧ t.dom.dig.shared = sha256 (s.digObjects true) ∧
    t.dom.dig.priv = sha256 (s.digObjects false ++ s.digConfig) ∧ t.dom.dig.beat = s.beat.number ∧ Frame s t [.dom]


/-- ACC_READING, TOGGLE_PERIOD (R345, R346), ATTACH_DEBOUNCE, DETACH (R347), REVERSED_WITHDRAW, REVERSED_RETURN (R348),
DRAIN_COMPLETE, DRAIN_TIMEOUT, PRECHARGE_DONE, PRECHARGE_TIMEOUT, DEFAULT_OVERCURRENT (R358), LINK_OCP_TRIP (R344),
CONTRACT_OVERCURRENT, SOURCE_VLINK_FAULT (R361), HARD_RESET_RECEIVED, HARD_RESET_RECOVERY, ROLE_HOLD_EXPIRY (R370). A port
that sees its partner while unattached leaves that state in the same command (R346). -/
def Obligations.LinkPortsAttachAndPower : Prop :=
  (∀ (s : State) (x : Fin 2), s.wdt.restarting = false →
    let p := s.links.port[x]
    let apart := fun (t : State) => (t.links.port[1 - x]).switch = (s.links.port[1 - x]).switch ∧
      (t.links.port[1 - x]).contract = (s.links.port[1 - x]).contract
    (∀ mv : Int, ∃ t, exec (.accReading x mv) s = .next t ∧ (t.links.port[x]).acc = p.presents.reads mv ∧
      (s.linksRun = true → p.en = true → p.state = .sUnatt → p.presents.reads mv = .sinkSeen →
        (t.links.port[x]).state = .sAttachWait ∧ (t.links.port[x]).source = true) ∧
      (s.linksRun = true → p.en = true → p.state = .kUnatt → p.presents.reads mv = .sourceSeen →
        (t.links.port[x]).state = .kAttachWait ∧ (t.links.port[x]).source = false) ∧
      (p.state = .sAttachWait → p.source = true → p.presents.reads mv ≠ .sinkSeen →
        (t.links.port[x]).state = if p.roleHold then .sUnatt else p.unatt) ∧
      (p.state = .kAttachWait → p.source = false → p.presents.reads mv ≠ .sourceSeen → p.presents.reads mv ≠ .reversed →
        (t.links.port[x]).state = if p.roleHold then .kUnatt else p.unatt) ∧
      (p.presents.reads mv = .short → p.acc ≠ .short →
        ∃ e ∈ t.host.openEvents, e.kind = .port ∧ e.subject = x.val ∧ e.typ = 56 ∧ e.data = padTo 12 [6]) ∧
      (t.links.port[x]).switch = p.switch ∧ (t.links.port[x]).contract = p.contract ∧ apart t ∧ Frame s t [.links, .host]) ∧
    (p.state = .toggle → ∃ t, exec (.togglePeriod x) s = .next t ∧ (t.links.port[x]).part = (!p.part) ∧
      (p.acc ≠ .sinkSeen → p.acc ≠ .sourceSeen → (t.links.port[x]).state = .toggle) ∧ apart t ∧ Frame s t [.links]) ∧
    (p.state = .sAttachWait → p.acc = .sinkSeen → ∃ t, exec (.attachDebounce x) s = .next t ∧
      (t.links.port[x]).state = .sDrainWait ∧ (t.links.port[x]).source = true ∧ (t.links.port[x]).txId = 0 ∧
      (∃ e ∈ t.host.openEvents, e.kind = .port ∧ e.subject = x.val ∧ e.typ = 48 ∧ e.data = padTo 12 [1]) ∧ apart t ∧
      Frame s t [.links, .host]) ∧
    (p.state = .kAttachWait → p.acc = .sourceSeen → ∃ t, exec (.attachDebounce x) s = .next t ∧
      (t.links.port[x]).state = .kDefault ∧ (t.links.port[x]).source = false ∧
      (∃ e ∈ t.host.openEvents, e.kind = .port ∧ e.subject = x.val ∧ e.typ = 48 ∧ e.data = padTo 12 [0]) ∧ apart t ∧
      Frame s t [.links, .host]) ∧
    (p.state.attached = true → p.acc = (if p.source then .opened else .none) → ∃ t, exec (.detach x) s = .next t ∧
      (t.links.port[x]).switch = false ∧ (t.links.port[x]).contract = none ∧ (t.links.port[x]).state = p.unatt ∧
      (∃ e ∈ t.host.openEvents, e.kind = .port ∧ e.subject = x.val ∧ e.typ = 49) ∧ apart t ∧ Frame s t [.links, .host]) ∧
    (p.state.attached = false ∨ p.acc ≠ (if p.source then .opened else .none) → ∃ t, exec (.detach x) s = .next t ∧
      (t.links.port[x]).switch = p.switch ∧ (t.links.port[x]).contract = p.contract ∧ apart t ∧ Frame s t [.links]) ∧
    (p.state = .kUnatt ∨ p.state = .kAttachWait → p.acc = .reversed → ∃ t, exec (.reversedWithdraw x) s = .next t ∧
      (t.links.port[x]).state = .reversed ∧ (∃ e ∈ t.host.openEvents, e.kind = .port ∧ e.subject = x.val ∧ e.typ = 55) ∧
      apart t ∧ Frame s t [.links, .host]) ∧
    (p.state = .reversed → (p.acc = .none → ∃ t, exec (.reversedReturn x) s = .next t ∧ (t.links.port[x]).state = p.unatt ∧
        (t.links.port[x]).part = false ∧ apart t ∧ Frame s t [.links]) ∧
      (p.acc ≠ .none → ∃ t, exec (.reversedReturn x) s = .next t ∧ (t.links.port[x]).state = .reversed ∧ apart t ∧
        Frame s t [.links]))) ∧
  (∀ (s : State) (x : Fin 2) (v vlink : Int), s.wdt.restarting = false →
    let p := s.links.port[x]
    (p.state = .sDrainWait → v < 2000000 → 12000000 ≤ vlink → vlink ≤ 60000000 →
      ∃ t, exec (.drainComplete x v vlink) s = .next t ∧ (t.links.port[x]).state = .sPrecharge ∧
        (t.links.port[x]).switch = true ∧ t.store.closures[x] = s.store.closures[x] + (if p.switch then 0 else 1) ∧
        (t.links.port[x]).v = v ∧ t.links.vlink = vlink ∧ Frame s t [.links, .store]) ∧
    (p.state = .sDrainWait → 2000000 ≤ v ∨ vlink < 12000000 ∨ 60000000 < vlink →
      ∃ t, exec (.drainComplete x v vlink) s = .next t ∧ (t.links.port[x]).state = .sDrainWait ∧
        (t.links.port[x]).switch = p.switch ∧ Frame s t [.links]) ∧
    (p.state = .sDrainWait ∨ p.state = .hardReset → p.drained = false → ∃ t, exec (.drainTimeout x) s = .next t ∧
      (s.flt.active.getLsbD 25 = false → t.flt.hit.getLsbD 25 = true)) ∧
    (p.state = .sDrainWait ∨ p.state = .hardReset → p.drained = true → ∃ t, exec (.drainTimeout x) s = .next t ∧
      (t.links.port[x]).state = p.state ∧ (t.links.port[x]).switch = p.switch ∧ Frame s t [.links]) ∧
    (p.state = .sPrecharge → (v - vlink).natAbs ≤ 1000000 →
      (s.linksRun = false → ∃ t, exec (.prechargeDone x v vlink) s = .next t ∧ (t.links.port[x]).state = .sDefault ∧
        (t.links.port[x]).offerDue = true ∧ (t.links.port[x]).switch = p.switch ∧ Frame s t [.links]) ∧
      (s.linksRun = true → p.en = true → p.idle = true → ∃ t, exec (.prechargeDone x v vlink) s = .next t ∧
        (t.links.port[x]).state = .sNegotiate ∧ (∃ m, (t.links.port[x]).queue = [m] ∧ m.typ = 2) ∧
        (t.links.port[x]).switch = p.switch ∧ Frame s t [.links])) ∧
    (p.state = .sPrecharge → 1000000 < (v - vlink).natAbs → ∃ t, exec (.prechargeDone x v vlink) s = .next t ∧
      (t.links.port[x]).state = .sPrecharge ∧ (t.links.port[x]).switch = p.switch ∧ Frame s t [.links])) ∧
  (∀ (s : State) (x : Fin 2) (i vlink : Int),
    let p := s.links.port[x]
    let opens := fun (t : State) => (t.links.port[x]).switch = false ∧ (s.flt.active.getLsbD 27 = false → t.flt.hit.getLsbD 27 = true)
    let kept := fun (t : State) => (t.links.port[x]).switch = p.switch ∧ (t.links.port[x]).contract = p.contract ∧ Frame s t [.links]
    (s.wdt.restarting = false →
      (p.state = .sPrecharge → ∃ t, exec (.prechargeTimeout x) s = .next t ∧ (t.links.port[x]).switch = false ∧
        (t.links.port[x]).contract = none ∧ (s.flt.active.getLsbD 26 = false → t.flt.hit.getLsbD 26 = true)) ∧
      (p.state ≠ .sPrecharge → ∃ t, exec (.prechargeTimeout x) s = .next t ∧ kept t) ∧
      (p.state.attached = true → p.contract = none → 2200000 < i.natAbs →
        ∃ t, exec (.defaultOvercurrent x i) s = .next t ∧ opens t ∧ (t.links.port[x]).contract = none) ∧
      (p.state.attached = false ∨ p.contract ≠ none ∨ i.natAbs ≤ 2200000 →
        ∃ t, exec (.defaultOvercurrent x i) s = .next t ∧ kept t) ∧
      (∀ c, p.contract = some c →
        ((11 * c.2 : Int) < 10 * (if p.source then i else -i) → ∃ t, exec (.contractOvercurrent x i) s = .next t ∧ opens t) ∧
        (10 * (if p.source then i else -i) ≤ (11 * c.2 : Int) → ∃ t, exec (.contractOvercurrent x i) s = .next t ∧ kept t)) ∧
      (p.state.attached = true → p.source = true → p.contract ≠ none →
        (vlink < 12000000 ∨ 60000000 < vlink → ∃ t, exec (.sourceVlinkFault x vlink) s = .next t ∧ Wiped s t x) ∧
        (12000000 ≤ vlink → vlink ≤ 60000000 → ∃ t, exec (.sourceVlinkFault x vlink) s = .next t ∧ kept t))) ∧
    (max 10 p.ocp * 1000000 < i.natAbs → ∃ t, exec (.linkOcpTrip x i) s = .next t ∧ opens t ∧
      (s.wdt.restarting = true → (t.links.port[x]).ocpHit = true)) ∧
    (i.natAbs ≤ max 10 p.ocp * 1000000 → ∃ t, exec (.linkOcpTrip x i) s = .next t ∧ (t.links.port[x]).i = i ∧ kept t)) ∧
  ∀ (s : State) (x : Fin 2) (v : Int), s.wdt.restarting = false →
    let p := s.links.port[x]
    (p.state.attached = true → s.linksRun = true → ∃ t, exec (.hardResetReceived x) s = .next t ∧ Wiped s t x ∧
      (∃ e ∈ t.host.openEvents, e.kind = .port ∧ e.subject = x.val ∧ e.typ = 53)) ∧
    (s.linksRun = false → ∃ t, exec (.hardResetReceived x) s = .next t ∧ Frame s t []) ∧
    (p.state = .hardReset → v < 2000000 → ∃ t, exec (.hardResetRecovery x v) s = .next t ∧
      (t.links.port[x]).roleHold = (p.role == 3) ∧ (t.links.port[x]).switch = p.switch ∧
      (p.acc ≠ .sinkSeen → p.acc ≠ .sourceSeen → (t.links.port[x]).state =
        (match p.role with | 1 => .sUnatt | 2 => .kUnatt | 3 => if p.source then .sUnatt else .kUnatt | _ => .off)) ∧
      Frame s t [.links]) ∧
    (p.state = .hardReset → 2000000 ≤ v → ∃ t, exec (.hardResetRecovery x v) s = .next t ∧
      (t.links.port[x]).state = .hardReset ∧ (t.links.port[x]).switch = p.switch ∧ Frame s t [.links]) ∧
    (p.state = .sUnatt ∨ p.state = .kUnatt → p.roleHold = true → ∃ t, exec (.roleHoldExpiry x) s = .next t ∧
      (t.links.port[x]).roleHold = false ∧ (t.links.port[x]).part = p.source ∧ (t.links.port[x]).switch = p.switch ∧
      (p.acc ≠ .sinkSeen → p.acc ≠ .sourceSeen → (t.links.port[x]).state = p.unatt) ∧ Frame s t [.links]) ∧
    (p.roleHold = false → ∃ t, exec (.roleHoldExpiry x) s = .next t ∧ (t.links.port[x]).switch = p.switch ∧
      (t.links.port[x]).contract = p.contract ∧ Frame s t [.links])

/-- OFFER, BID, ACCEPT, REJECT, LIVE (R360, R364, R365), ASK_OFFER, SWAP_REQ, WAIT (R366, R368), RELEASE (R362), UNHANDLED,
UNKNOWN_PACKET (R354), ECHO, ECHO_TIMEOUT, OFFER_REPEAT (R352), ANSWER_TIMEOUT, PACKET_SEND (R353). -/
def Obligations.PacketsAreEchoedAndActedOn : Prop :=
  (∀ (s : State) (x : Fin 2) (hdr : Nat) (objs : List Word) (crc : Word),
    let p := s.links.port[x]
    let w := objs.headD 0
    let back : LinkState := if p.contract.isSome then .sContract else .sDefault
    let backK : LinkState := if p.contract.isSome then .kContract else .kDefault
    (Heard s x hdr objs crc 2 → p.state = .kDefault ∨ p.state = .kContract →
      ∃ t, exec (.offer x hdr objs crc) s = .next t ∧ Echoed s t x hdr crc ∧
        (t.links.port[x]).state = .kNegotiate ∧ (t.links.port[x]).offered = objs ∧ (t.links.port[x]).switch = p.switch ∧
        ∃ b : Word, (t.links.port[x]).queue = p.queue ++ [{ typ := 3, objs := [b], swap := false }] ∧
          (p.imports = false ∨ s.dev.state = .rideThrough → b = 0) ∧
          ∀ k, (List.range objs.length).find? (fun k => inWindow (objs.getD k 0) s.links.vlink) = some k →
            p.imports = true → s.dev.state ≠ .rideThrough →
            0 < min (fld (objs.getD k 0) 0 10) (s.links.alloc x false / 100000) →
            b = at_ (k + 1) 10 ||| at_ (min (fld (objs.getD k 0) 0 10) (s.links.alloc x false / 100000)) 0) ∧
    (Heard s x hdr objs crc 3 → p.state = .sNegotiate →
      let k := fld w 10 3
      let o := p.offered.getD (k - 1) 0
      let answer := fun (st : LinkState) (typ : Nat) (os : List Word) => ∃ t, exec (.bid x hdr objs crc) s = .next t ∧
        Echoed s t x hdr crc ∧ (t.links.port[x]).state = st ∧ (t.links.port[x]).contract = p.contract ∧
        (t.links.port[x]).queue = p.queue ++ [{ typ := typ, objs := os, swap := false }] ∧
        (st = .sTransition → (t.links.port[x]).agreed = some (o, fld w 0 10 * 100000))
      (1 ≤ k → k ≤ p.offered.length → 1 ≤ fld w 0 10 → fld w 0 10 ≤ fld o 0 10 → answer .sTransition 4 []) ∧
      (k = 0 → answer .sDefault 4 []) ∧
      (p.offered.length < k → answer back 5 [1]) ∧
      (1 ≤ k → k ≤ p.offered.length → fld w 0 10 = 0 ∨ fld o 0 10 < fld w 0 10 → answer back 5 [2])) ∧
    (Heard s x hdr objs crc 4 → p.await = some 3 → p.state = .kNegotiate → ∀ idx cur, p.bid = some (idx, cur) →
      ∃ t, exec (.accept x hdr objs crc) s = .next t ∧ Echoed s t x hdr crc ∧ (t.links.port[x]).await = none ∧
        (idx = 0 → (t.links.port[x]).state = backK) ∧
        (0 < idx → (t.links.port[x]).state = .kTransition ∧
          (t.links.port[x]).agreed = some (p.offered.getD (idx - 1) 0, cur * 100000))) ∧
    (Heard s x hdr objs crc 4 → p.await = some 8 → ∃ t, exec (.accept x hdr objs crc) s = .next t ∧ Echoed s t x hdr crc ∧
      (t.links.port[x]).state = .swapDischarge ∧ (t.links.port[x]).switch = false ∧ (t.links.port[x]).contract = none) ∧
    (Heard s x hdr objs crc 5 → p.await = some 3 → ∃ t, exec (.reject x hdr objs crc) s = .next t ∧
      Echoed s t x hdr crc ∧ (t.links.port[x]).state = backK ∧ (t.links.port[x]).bid = none ∧
      (t.links.port[x]).await = none ∧ (t.links.port[x]).contract = p.contract) ∧
    (Heard s x hdr objs crc 6 → p.state = .kTransition →
      (p.switch = false → ∃ t, exec (.live x hdr objs crc) s = .next t ∧ Echoed s t x hdr crc ∧
        (t.links.port[x]).state = .kCloseWait ∧ (t.links.port[x]).live = fld w 0 16 ∧ (t.links.port[x]).switch = false) ∧
      (∀ c, p.switch = true → p.agreed = some c → ∃ t, exec (.live x hdr objs crc) s = .next t ∧ Echoed s t x hdr crc ∧
        (t.links.port[x]).state = .kContract ∧ (t.links.port[x]).contract = some c ∧ (t.links.port[x]).switch = true)) ∧
    (Heard s x hdr objs crc 7 → p.state = .sDefault ∨ p.state = .sContract →
      (p.idle = true → ∃ t, exec (.askOffer x hdr objs crc) s = .next t ∧ Echoed s t x hdr crc ∧
        (t.links.port[x]).state = .sNegotiate ∧ (∃ m, (t.links.port[x]).queue = [m] ∧ m.typ = 2)) ∧
      (p.idle = false → ∃ t, exec (.askOffer x hdr objs crc) s = .next t ∧ Echoed s t x hdr crc ∧
        (t.links.port[x]).state = p.state ∧ (t.links.port[x]).offerDue = true)) ∧
    (Heard s x hdr objs crc 8 → p.await ≠ some 8 → (∀ b, p.tx = some b → b.msg.typ ≠ 8) →
      (p.role ≠ 3 → ∃ t, exec (.swapReq x hdr objs crc) s = .next t ∧ Echoed s t x hdr crc ∧
        (t.links.port[x]).queue = p.queue ++ [{ typ := 5, objs := [4], swap := false }] ∧ (t.links.port[x]).state = p.state) ∧
      (p.role = 3 → p.policy.any Policy.acceptSwap = true → p.state ∈ [.sDefault, .sContract, .kDefault, .kContract] →
        p.idle = true → (if p.source then p.wantExport else p.wantImport) = false →
        ∃ t, exec (.swapReq x hdr objs crc) s = .next t ∧ Echoed s t x hdr crc ∧
          (t.links.port[x]).queue = [{ typ := 4, objs := [], swap := true }] ∧ (t.links.port[x]).state = p.state)) ∧
    (Heard s x hdr objs crc 9 → p.await = some 8 → p.collided = false → ∃ t, exec (.wait x hdr objs crc) s = .next t ∧
      Echoed s t x hdr crc ∧ (t.links.port[x]).backoff = true ∧ (t.links.port[x]).await = none ∧
      (t.links.port[x]).switch = p.switch) ∧
    (Heard s x hdr objs crc 10 → ∃ t, exec (.accordRelease x hdr objs crc) s = .next t ∧
      Echoed s t x hdr crc ∧ (t.links.port[x]).queue = [{ typ := 4, objs := [], swap := false }] ∧ (t.links.port[x]).tx = none ∧
      (p.dealing = true → (t.links.port[x]).state = (if p.source then .sDefault else .kDefault) ∧
        (t.links.port[x]).contract = none ∧ (t.links.port[x]).switch = (p.switch && p.source)) ∧
      (p.dealing = false → (t.links.port[x]).state = p.state ∧ (t.links.port[x]).switch = p.switch)) ∧
    (Heard s x hdr objs crc 11 → ∃ t, exec (.unhandled x hdr objs crc) s = .next t ∧ Echoed s t x hdr crc ∧
      (t.links.port[x]).switch = p.switch ∧ (t.links.port[x]).contract = p.contract ∧
      (p.idle = false → t.links.port[x] = { p with rxLast := some (hdr / 2048 % 8, crc) })) ∧
    (Heard s x hdr objs crc 0 → ∃ t, exec (.unknownPacket x hdr objs crc) s = .next t ∧ Echoed s t x hdr crc ∧
      (t.links.port[x]).queue = p.queue ++ [{ typ := 11, objs := [], swap := false }] ∧ (t.links.port[x]).state = p.state) ∧
    (p.state.attached = true → s.linksRun = true → p.en = true → packetType hdr objs p.source = 10 → crc = packetCrc hdr objs →
      p.rxLast = some (hdr / 2048 % 8, crc) → ∃ t, exec (.accordRelease x hdr objs crc) s = .next t ∧
        Echoed s t x hdr crc ∧ (t.links.port[x]).contract = p.contract ∧ (t.links.port[x]).switch = p.switch) ∧
    (crc ≠ packetCrc hdr objs → ∃ t, exec (.accordRelease x hdr objs crc) s = .next t ∧
      (t.links.port[x]).contract = p.contract ∧ (t.links.port[x]).switch = p.switch ∧ Frame s t [.links])) ∧
  (∀ (s : State) (x : Fin 2) (b : LinkTx), s.wdt.restarting = false →
    let p := s.links.port[x]
    p.tx = some b →
    (∀ hdr, hdr % 64 = 1 → hdr / 2048 % 8 = b.hdr / 2048 % 8 → p.swap = none →
      let objs := [packetCrc b.hdr b.msg.objs]
      (b.msg.swap = false → ∃ t, exec (.echo x hdr objs (packetCrc hdr objs)) s = .next t ∧ (t.links.port[x]).tx = none ∧
        (t.links.port[x]).txId = (p.txId + 1) % 8 ∧ (t.links.port[x]).acked = true ∧ (t.links.port[x]).await =
          (if needsAnswer b.msg.typ then some b.msg.typ else p.await) ∧ Frame s t [.links]) ∧
      (b.msg.swap = true → ∃ t, exec (.echo x hdr objs (packetCrc hdr objs)) s = .next t ∧
        (t.links.port[x]).state = .swapDischarge ∧ (t.links.port[x]).switch = false ∧ (t.links.port[x]).contract = none ∧
        Frame s t [.links, .host])) ∧
    (∀ hdr objs crc, crc ≠ packetCrc hdr objs ∨ hdr / 2048 % 8 ≠ b.hdr / 2048 % 8 ∨ objs ≠ [packetCrc b.hdr b.msg.objs] →
      ∃ t, exec (.echo x hdr objs crc) s = .next t ∧
        (t.links.port[x]).tx = some b ∧ (t.links.port[x]).txId = p.txId ∧ (t.links.port[x]).await = p.await ∧ Frame s t [.links]) ∧
    (b.due = false → b.retries < 2 → ∃ t, exec (.echoTimeout x) s = .next t ∧
      (t.links.port[x]).tx = some { b with retries := b.retries + 1, due := true } ∧ Frame s t [.links]) ∧
    (b.due = false → 2 ≤ b.retries → b.msg.typ ≠ 2 ∨ p.acked = true → p.state.attached = true →
      ∃ t, exec (.echoTimeout x) s = .next t ∧ Wiped s t x ∧ (t.links.port[x]).err = min 0xFFFF (p.err + 1) ∧
        ∃ e ∈ t.host.openEvents, e.kind = .port ∧ e.subject = x.val ∧ e.typ = 54 ∧ e.data = padTo 12 [byte b.msg.typ]) ∧
    (b.due = false → 2 ≤ b.retries → b.msg.typ = 2 → p.acked = false → ∃ t, exec (.echoTimeout x) s = .next t ∧
      (t.links.port[x]).tx = none ∧ (t.links.port[x]).repeatOffer = true ∧ (t.links.port[x]).err = p.err ∧ Frame s t [.links]) ∧
    ∀ v i vlink : Int, b.due = true → p.state.attached = true → s.linksRun = true →
      ∃ t, exec (.packetSend x v i vlink) s = .next t ∧ (t.links.port[x]).tx = some { b with due := false } ∧
        .linkPacket x.val b.hdr b.msg.objs (packetCrc b.hdr b.msg.objs) ∈ t.outbox ∧ (t.links.port[x]).v = v ∧
        (t.links.port[x]).i = i ∧ t.links.vlink = vlink ∧ Frame s t [.links]) ∧
  ∀ (s : State) (x : Fin 2),
    let p := s.links.port[x]
    let hdr := fun (m : LinkMsg) => p.txId * 2048 + m.objs.length * 256 + (if p.source then 64 else 0) + m.typ
    let sent := fun (t : State) (m : LinkMsg) => (t.links.port[x]).tx = some { msg := m, hdr := hdr m, retries := 0, due := false } ∧
      .linkPacket x.val (hdr m) m.objs (packetCrc (hdr m) m.objs) ∈ t.outbox
    (s.wdt.restarting = false →
      (p.repeatOffer = true → p.state = .sNegotiate → ∃ t, exec (.offerRepeat x) s = .next t ∧
        (t.links.port[x]).repeatOffer = false ∧ (t.links.port[x]).state = .sNegotiate ∧
        (∃ m, (t.links.port[x]).queue = p.queue ++ [m] ∧ m.typ = 2) ∧ Frame s t [.links]) ∧
      (p.await ≠ none → p.state.attached = true → ∃ t, exec (.answerTimeout x) s = .next t ∧ Wiped s t x) ∧
      (p.await = none → ∃ t, exec (.answerTimeout x) s = .next t ∧ (t.links.port[x]).switch = p.switch ∧
        (t.links.port[x]).contract = p.contract ∧ Frame s t [.links])) ∧
    ∀ v i vlink : Int, p.state.attached = true → s.linksRun = true → p.tx = none →
      (∀ m ms, p.queue = m :: ms → ∃ t, exec (.packetSend x v i vlink) s = .next t ∧ sent t m ∧
        (t.links.port[x]).queue = ms ∧ Frame s t [.links]) ∧
      ∀ c cur, p.state = .sTransition → p.idle = true → p.agreed = some (c, cur) → inWindow c v = true →
        inWindow c vlink = true → 10 * i.natAbs ≤ 11 * cur → ∃ t, exec (.packetSend x v i vlink) s = .next t ∧
          (∃ m, m.typ = 6 ∧ sent t m) ∧ (t.links.port[x]).state = .sContract ∧ (t.links.port[x]).contract = some (c, cur) ∧
          (∃ e ∈ t.host.openEvents, e.kind = .port ∧ e.subject = x.val ∧ e.typ = 50) ∧ Frame s t [.links, .host]

/-- SINK_CLOSE, SETTLE_TIMEOUT (R360), LIVE_TIMEOUT, CLOSE_TIMEOUT (R365), WINDOW_VIOLATION, REVERSE_FLOW, NO_FLOW (R361,
R362), SWAP_HANDOVER, SWAP_TIMEOUT (R367), SWAP_BACKOFF_END (R366), EXPORT_DESIRE, IMPORT_DESIRE, ASK_OFFER_REPEAT
(R374), POLICY_APPLY (R373), LNK_CTRL_EN (R376), LNK_CTRL_HRST (R369), LNK_CTRL_SWAP, LNK_CTRL_REL (R374). A port that sees
its partner while unattached leaves that state in the same command (R346). -/
def Obligations.ContractsSwapsAndPolicies : Prop :=
  (∀ (s : State) (x : Fin 2) (v i vlink : Int), s.wdt.restarting = false →
    let p := s.links.port[x]
    let forward := if p.source then i else -i
    let kept := fun (t : State) => (t.links.port[x]).switch = p.switch ∧ (t.links.port[x]).contract = p.contract ∧ Frame s t [.links]
    (∀ c : Word × Nat, p.state = .kCloseWait → p.agreed = some c →
      let agrees := (v - 10000 * p.live).natAbs ≤ 600000 ∧ (v - vlink).natAbs ≤ 1000000 ∧ inWindow c.1 vlink = true
      (agrees → ∃ t, exec (.sinkClose x v vlink) s = .next t ∧ (t.links.port[x]).state = .kContract ∧
        (t.links.port[x]).switch = true ∧ (t.links.port[x]).contract = some c ∧
        t.store.closures[x] = s.store.closures[x] + (if p.switch then 0 else 1) ∧
        (∃ e ∈ t.host.openEvents, e.kind = .port ∧ e.subject = x.val ∧ e.typ = 50) ∧ Frame s t [.links, .host, .store]) ∧
      (¬agrees → ∃ t, exec (.sinkClose x v vlink) s = .next t ∧ (t.links.port[x]).state = .kCloseWait ∧ kept t)) ∧
    (∀ c : Word × Nat, p.state.attached = true → p.contract = some c →
      (inWindow c.1 v = false → ∃ t, exec (.windowViolation x v) s = .next t ∧ Released s t x 3) ∧
      (inWindow c.1 v = true → ∃ t, exec (.windowViolation x v) s = .next t ∧ kept t) ∧
      (forward < -2000000 → ∃ t, exec (.reverseFlow x i) s = .next t ∧ Released s t x 5) ∧
      (-2000000 ≤ forward → ∃ t, exec (.reverseFlow x i) s = .next t ∧ kept t) ∧
      (forward < 2000000 → ∃ t, exec (.noFlow x i) s = .next t ∧ Released s t x 6) ∧
      (2000000 ≤ forward → ∃ t, exec (.noFlow x i) s = .next t ∧ kept t)) ∧
    (p.state = .sTransition → ∃ t, exec (.settleTimeout x) s = .next t ∧ Released s t x 3) ∧
    (p.state = .kCloseWait → ∃ t, exec (.closeTimeout x) s = .next t ∧ Released s t x 3) ∧
    (p.state = .kTransition → ∃ t, exec (.liveTimeout x) s = .next t ∧ Wiped s t x) ∧
    (p.state ≠ .sTransition → ∃ t, exec (.settleTimeout x) s = .next t ∧ kept t) ∧
    (p.state ≠ .kCloseWait → ∃ t, exec (.closeTimeout x) s = .next t ∧ kept t) ∧
    (p.state ≠ .kTransition → ∃ t, exec (.liveTimeout x) s = .next t ∧ kept t) ∧
    (∀ w, p.state = .swapDischarge → p.swap = some w →
      (w.exchanged = false → v < 2000000 → ∃ t, exec (.swapHandover x v) s = .next t ∧
        (t.links.port[x]).source = (!p.source) ∧ (t.links.port[x]).txId = 0 ∧
        (t.links.port[x]).swap = some { w with exchanged := true } ∧ kept t) ∧
      (w.exchanged = true ∨ 2000000 ≤ v → ∃ t, exec (.swapHandover x v) s = .next t ∧
        (t.links.port[x]).source = p.source ∧ (t.links.port[x]).swap = some w ∧ kept t) ∧
      (w.exchanged = true → ∃ t, exec (.swapTimeout x) s = .next t ∧ (t.links.port[x]).source = w.before ∧ Wiped s t x) ∧
      (w.exchanged = false → ∃ t, exec (.swapTimeout x) s = .next t ∧ (t.links.port[x]).switch = false ∧
        (t.links.port[x]).contract = none ∧ (s.flt.active.getLsbD 25 = false → t.flt.hit.getLsbD 25 = true))) ∧
    (∃ t, exec (.swapBackoffEnd x) s = .next t ∧ (t.links.port[x]).backoff = false ∧ kept t)) ∧
  (∀ (s : State) (x : Fin 2) (q : Policy) (vlink : Int), s.wdt.restarting = false → (s.links.port[x]).policy = some q →
    let p := s.links.port[x]
    let export_ := fun (on b : Bool) => ∃ t, exec (.exportDesire x on vlink) s = .next t ∧
      (t.links.port[x]).wantExport = b ∧ (t.links.port[x]).switch = p.switch ∧ t.links.vlink = vlink ∧ Frame s t [.links]
    let import_ := fun (on b : Bool) => ∃ t, exec (.importDesire x on vlink) s = .next t ∧
      (t.links.port[x]).wantImport = b ∧ (t.links.port[x]).switch = p.switch ∧ t.links.vlink = vlink ∧ Frame s t [.links]
    (q.autoExport = true → q.vExport < vlink → export_ true true) ∧
    (q.autoExport = false ∨ vlink ≤ q.vExport → export_ true p.wantExport) ∧
    (vlink < q.vExport - q.vHyst → export_ false false) ∧
    (q.vExport - q.vHyst ≤ vlink → export_ false p.wantExport) ∧
    (q.autoImport = true → vlink < q.vImport → import_ true true) ∧
    (q.autoImport = false ∨ q.vImport ≤ vlink → import_ true p.wantImport) ∧
    (q.vImport + q.vHyst < vlink → import_ false false) ∧
    (vlink ≤ q.vImport + q.vHyst → import_ false p.wantImport) ∧
    (p.state = .kDefault → s.linksRun = true → p.en = true → p.idle = true →
      (q.autoImport = true → vlink < q.vImport → p.wantImport = false → ∃ t, exec (.importDesire x true vlink) s = .next t ∧
        (t.links.port[x]).queue = [{ typ := 7, objs := [], swap := false }]) ∧
      (p.wantImport = true → ∃ t, exec (.askOfferRepeat x) s = .next t ∧
        (t.links.port[x]).queue = [{ typ := 7, objs := [], swap := false }] ∧ (t.links.port[x]).state = .kDefault ∧
        Frame s t [.links])) ∧
    (p.state = .kDefault → p.idle = false → p.wantImport = true → ∃ t, exec (.askOfferRepeat x) s = .next t ∧
      (t.links.port[x]).queue = p.queue ∧ (t.links.port[x]).askDue = true ∧ Frame s t [.links])) ∧
  (∀ (s : State) (x : Fin 2) (q : Policy) (cmd : Option Nat), s.wdt.restarting = false →
    let p := s.links.port[x]
    p.next = some (q, cmd) →
    let applied := fun (t : State) => (t.links.port[x]).policy = some q ∧ (t.links.port[x]).next = none ∧
      Frame s t [.links, .host, .ic]
    (p.idle = true → s.host.fetched = [] →
      (p.en = false → ∃ t, exec (.policyApply x) s = .next t ∧ (t.links.port[x]).state = p.state ∧ applied t) ∧
      (p.en = true → s.linksRun = true → p.state.attached = true →
        (q.admits p.source = false → ∃ t, exec (.policyApply x) s = .next t ∧ (t.links.port[x]).switch = false ∧
          (t.links.port[x]).contract = none ∧ (t.links.port[x]).hrst = min 0xFFFF (p.hrst + 1) ∧ applied t) ∧
        (q.admits p.source = true → ∃ t, exec (.policyApply x) s = .next t ∧ (t.links.port[x]).switch = p.switch ∧
          (t.links.port[x]).contract = p.contract ∧ applied t)) ∧
      (p.en = true → s.linksRun = true → p.state ∈ [.off, .toggle, .sUnatt, .kUnatt] → p.acc ≠ .sinkSeen →
        p.acc ≠ .sourceSeen → ∃ t, exec (.policyApply x) s = .next t ∧ (t.links.port[x]).state = q.unattached ∧ applied t)) ∧
    (p.idle = false → ∃ t, exec (.policyApply x) s = .next t ∧ (t.links.port[x]).policy = p.policy ∧
      (t.links.port[x]).next = p.next ∧ Frame s t [.links])) ∧
  ∀ (s : State) (x : Fin 2) (v : Word), s.live = true →
    let p := s.links.port[x]
    (bit v 0 = false → p.en = true → ∃ t, exec (.lnkCtrlEn x v) s = .next t ∧ (t.links.port[x]).en = false ∧
      (t.links.port[x]).state = .fixed ∧ (t.links.port[x]).switch = false ∧ (t.links.port[x]).contract = none ∧
      Frame s t [.links]) ∧
    (fld v 0 4 = 1 → p.en = false → s.linksRun = true → ∀ q, p.policy = some q →
      (p.acc ≠ .sourceSeen → p.acc ≠ .sinkSeen → ∃ t, exec (.lnkCtrlEn x v) s = .next t ∧ (t.links.port[x]).en = true ∧
        (t.links.port[x]).state = q.unattached ∧ (t.links.port[x]).switch = false ∧ Frame s t [.links]) ∧
      (p.acc = .sourceSeen → p.state = .fixed → ∃ t, exec (.lnkCtrlEn x v) s = .next t ∧ (t.links.port[x]).en = true ∧
        (t.links.port[x]).state = .kAttachWait ∧ (t.links.port[x]).switch = false ∧ Frame s t [.links])) ∧
    (p.en = true → s.linksRun = true → p.state.attached = true →
      (fld v 0 4 = 3 → ∃ t, exec (.lnkCtrlHrst x v) s = .next t ∧ Wiped s t x) ∧
      (fld v 0 4 = 5 → s.maySwap x = true → ∃ t, exec (.lnkCtrlSwap x v) s = .next t ∧
        (∃ m, (t.links.port[x]).queue = [m] ∧ m.typ = 8) ∧ (t.links.port[x]).switch = p.switch ∧ Frame s t [.links]) ∧
      (fld v 0 4 = 5 → p.idle = false → ∃ t, exec (.lnkCtrlSwap x v) s = .next t ∧ (t.links.port[x]).queue = p.queue ∧
        (t.links.port[x]).swapDue = true ∧ (t.links.port[x]).switch = p.switch ∧ Frame s t [.links]) ∧
      (fld v 0 4 = 9 → p.dealing = true → ∃ t, exec (.lnkCtrlRel x v) s = .next t ∧ Released s t x 7))

/-- CHG_EN_WRITE … CHG_RECHARGE (R385), CHG_SAFETY_TIMER (R389), CHG_NTC_RANGE, CHG_NTC_RECOVERED, THERM_LIM (R388),
PRESENCE_TEST (R386), IDEAL_DIODE_REVERSE (R382), LEARN, LEARN_ABORT, HOLDUP_LEARN_REST (R391). -/
def Obligations.ChargerFollowsItsStates : Prop :=
  (∀ (s : State) (v : Word) (vhold i : Int),
    let go := fun (t : State) (st : Chg) => t.hold.state = st ∧ t.hold.main = s.hold.main ∧
      (s.coreUp = true → ∃ e ∈ t.host.openEvents, e.kind = .device ∧ e.typ = 64 ∧ e.data = padTo 12 [byte st.code, byte s.hold.state.code]) ∧
      Frame s t [.hold, .host]
    let fit := s.hold.ntcFault = false ∧ s.hold.ntcRange ≠ 0 ∧ s.hold.ntcRange ≠ 3
    let st := s.hold.state
    (s.live = true → bit v 2 = false → st ≠ .noMain → st ≠ .off → ∃ t, exec (.chgEnWrite v) s = .next t ∧ go t .off) ∧
    (s.live = true → bit v 2 = true → st = .off → ∃ t, exec (.chgEnWrite v) s = .next t ∧ go t .detect) ∧
    (st = .shortTest → vhold < 1000000 → ∃ t, exec (.chgShortTestEnd vhold) s = .next t ∧ go t .faultShort ∧
      t.hold.shortSeen = true) ∧
    (st = .shortTest → 1000000 ≤ vhold → fit → ∃ t, exec (.chgShortTestEnd vhold) s = .next t ∧ go t .precharge ∧
      t.hold.timerRun = true ∧ t.hold.tUs = 0 ∧ t.hold.drive = .cellCurrent s.hold.ipreMa) ∧
    (st = .precharge → s.hold.vpre ≤ vhold → fit → ∃ t, exec (.chgPrechargeEnd vhold) s = .next t ∧ go t .fast ∧
      t.hold.drive = .cellCurrent (if s.hold.ntcRange = 1 then s.hold.ichgMa / 2 else s.hold.ichgMa)) ∧
    (st ≠ .precharge ∨ vhold < s.hold.vpre → ∃ t, exec (.chgPrechargeEnd vhold) s = .next t ∧ Frame s t []) ∧
    (st ≠ .precharge → ∃ t, exec .chgPrechargeTimeout s = .next t ∧ Frame s t []) ∧
    (st = .precharge → ∃ t, exec .chgPrechargeTimeout s = .next t ∧ t.hold.state = .faultTimer ∧
      t.hold.drive = .holdMode ∧ (s.flt.active.getLsbD 30 = false → t.flt.hit.getLsbD 30 = true)) ∧
    (st = .fast → s.hold.vreg ≤ vhold → ∃ t, exec (.chgVregReached vhold) s = .next t ∧ go t .cv ∧ t.hold.drive = .cv) ∧
    (st ≠ .fast ∨ vhold < s.hold.vreg → ∃ t, exec (.chgVregReached vhold) s = .next t ∧ Frame s t []) ∧
    (st = .cv → i ≤ 1000 * s.hold.itermMa → ∃ t, exec (.chgTermination i) s = .next t ∧ go t .done ∧
      t.hold.drive = .holdMode ∧ t.hold.timerRun = false) ∧
    (st ≠ .cv ∨ 1000 * (s.hold.itermMa : Int) < i → ∃ t, exec (.chgTermination i) s = .next t ∧ Frame s t []) ∧
    (∀ k, s.hold.timerOver = some k → ∃ t, exec .chgSafetyTimer s = .next t ∧
      t.hold.state = .faultTimer ∧ t.hold.timerExp = true ∧ (s.flt.active.getLsbD 30 = false → t.flt.hit.getLsbD 30 = true)) ∧
    (s.hold.timerOver = none → ∃ t, exec .chgSafetyTimer s = .next t ∧ Frame s t []) ∧
    (st = .done → s.hold.learn = .idle → vhold < s.hold.vrech → fit → ∃ t, exec (.chgRecharge vhold) s = .next t ∧ go t .fast ∧
      t.hold.timerRun = true ∧ t.hold.tUs = 0 ∧ t.hold.wMs = 0) ∧
    (st ≠ .done ∨ s.hold.vrech ≤ vhold → ∃ t, exec (.chgRecharge vhold) s = .next t ∧ Frame s t [])) ∧
  (∀ (s : State) (x : Int),
    let st := s.hold.state
    (bit s.hold.ntcCfg 0 = true → s.hold.ntcFault = false → st.inCycle = true → s.hold.ntcRange = 2 →
      s.hold.ntcFrom = 2 → x < 0 → ∃ t, exec (.chgNtcRange 1 x) s = .next t ∧ t.hold.state = .suspended ∧ t.hold.ntcRange = 0 ∧
        t.hold.susFrom = st ∧ t.hold.drive = .holdMode ∧ Frame s t [.hold, .host]) ∧
    (bit s.hold.ntcCfg 0 = true → st.charging = true → ∃ t, exec (.chgNtcRange 2 x) s = .next t ∧
      t.hold.state = .faultNtc ∧ t.hold.ntcFault = true ∧ (s.flt.active.getLsbD 31 = false → t.flt.hit.getLsbD 31 = true)) ∧
    (bit s.hold.ntcCfg 0 = false → ∀ k, ∃ t, exec (.chgNtcRange k x) s = .next t ∧ t.hold.ntcRange = 2 ∧
      t.hold.ntcFault = false ∧ t.hold.state = (if st = .suspended then s.hold.susFrom else st) ∧
      Frame s t [.hold, .host, .flt]) ∧
    (st = .faultNtc → ∃ t, exec (.chgNtcRecovered x) s = .next t ∧ t.hold.state = .detect ∧ t.hold.ntcFault = false ∧
      Frame s t [.hold, .host, .flt]) ∧
    (st ≠ .faultNtc → ∃ t, exec (.chgNtcRecovered x) s = .next t ∧ Frame s t []) ∧
    (∀ on : Bool, ∃ t, exec (.thermLim on) s = .next t ∧ t.hold.thermLim = (on && st.inCycle) ∧ t.hold.state = st ∧
      Frame s t [.hold]) ∧
    ∃ t, exec .idealDiodeReverse s = .next t ∧ t.hold.idg = false ∧ t.hold.state = st ∧ Frame s t [.hold]) ∧
  (∀ (s : State) (v0 v2 : Int),
    let st := s.hold.state
    let fit := s.hold.ntcFault = false ∧ s.hold.ntcRange ≠ 0 ∧ s.hold.ntcRange ≠ 3
    (st = .detect → v0 < s.hold.vpre → ∃ t, exec (.presenceTest v0 v2) s = .next t ∧ t.hold.state = .shortTest ∧
      t.hold.drive = .cellCurrent 50 ∧ Frame s t [.hold, .host]) ∧
    (st = .detect → s.hold.vpre ≤ v0 → v0 - 300000 ≤ v2 → v2 < s.hold.vrech → fit →
      ∃ t, exec (.presenceTest v0 v2) s = .next t ∧ t.hold.state = .fast ∧ t.hold.timerRun = true ∧ t.hold.tUs = 0 ∧
        Frame s t [.hold, .host, .flt]) ∧
    (st = .detect → s.hold.vpre ≤ v0 → v0 - 300000 ≤ v2 → s.hold.vrech ≤ v2 → s.hold.ntcFault = false →
      ∃ t, exec (.presenceTest v0 v2) s = .next t ∧ t.hold.state = .done ∧ Frame s t [.hold, .host, .flt]) ∧
    (st ∉ [.noMain, .off, .faultShort, .supply] → (st = .detect → s.hold.vpre ≤ v0) → v2 < v0 - 300000 →
      ∃ t, exec (.presenceTest v0 v2) s = .next t ∧ t.hold.state = .supply ∧ t.hold.missing = true ∧
        (s.flt.active.getLsbD 28 = false → t.flt.hit.getLsbD 28 = true)) ∧
    (st ∈ [.noMain, .off, .faultShort] → ∃ t, exec (.presenceTest v0 v2) s = .next t ∧ Frame s t []) ∧
    (st = .supply → v0 - 300000 ≤ v2 → ∃ t, exec (.presenceTest v0 v2) s = .next t ∧ t.hold.state = .detect ∧
      t.hold.missing = false ∧ (s.hold.missing = true → t.flt.active.getLsbD 28 = false) ∧ Frame s t [.hold, .host, .flt])) ∧
  ∀ (s : State) (v : Word),
    (∀ r, s.live = true → bit v 0 = true → bit v 1 = false → s.hold.state = .done → s.hold.learn = .idle → s.hold.ntcRange = 2 →
      s.hold.est.ref = some r → r.age s.holdNow < restMin s.hold.estCfg → ∃ t, exec (.learn v) s = .next t ∧
        t.hold.learn = .discharge r.soc (s.hold.cnt.runQ - s.hold.cnt.refQ) ∧ t.hold.drive = .learnOff ∧ Frame s t [.hold]) ∧
    (s.live = true → bit v 1 = true → s.hold.learn ≠ .idle → ∃ t, exec (.learnAbort v) s = .next t ∧ t.hold.learn = .idle ∧
      t.hold.cap = s.hold.cap ∧ Frame s t [.hold, .host]) ∧
    (∀ soc q r, s.hold.learn = .rest soc q → restMin s.hold.estCfg ≤ 1000 * s.hold.restMs → s.holdRef = some r →
      (r.soc + 3000 ≤ soc → ∃ t, exec .holdupLearnRest s = .next t ∧
        t.hold.cap = (openDiv (((visible (s.hold.cnt.runQ - q)).natAbs * 10000 : Nat) : Int) (1000 * ((soc : Int) - r.soc))).toNat ∧
        t.hold.learned = true ∧ t.hold.learn = .idle ∧ t.hold.state = .detect ∧ Frame s t [.hold, .host]) ∧
      (soc < r.soc + 3000 → ∃ t, exec .holdupLearnRest s = .next t ∧ t.hold.cap = s.hold.cap ∧ t.hold.learn = .idle ∧
        Frame s t [.hold, .host])) ∧
    (s.hold.learn = .idle → ∃ t, exec .holdupLearnRest s = .next t ∧ Frame s t [])

/-- RTC_SECOND (R404, R407), RTC_SUBSEC_READ, RTC_YEAR_READ, SHADOW_TIMEOUT (R405), RTC_LOAD (R406), RTC_SWITCH (R402),
RTC_OSC_FAIL (R404), RTC_RESET (R403). -/
def Obligations.ClockCountsAndLoads : Prop :=
  (∀ s : State, ∃ t, exec .rtcSecond s = .next t ∧ t.rtc.now = s.rtc.now.tick.1 ∧ t.rtc.valid = (s.rtc.valid && !s.rtc.now.tick.2) ∧
    t.rtc.almA = (s.rtc.almA || alarmMatches s.rtc.almAT s.rtc.almAD s.rtc.now.tick.1) ∧
    t.rtc.almB = (s.rtc.almB || alarmMatches s.rtc.almBT s.rtc.almBD s.rtc.now.tick.1) ∧ t.rtc.frozen = s.rtc.frozen ∧
    (s.rtc.now.tick.2 = false → t.groups = s.groups) ∧ AgesOnly s t ∧ Frame s t [.rtc, .host, .groups]) ∧
  (∀ c : Cal, c.ok = true → (c.tick.2 = false → c.tick.1.ok = true ∧ c.tick.1.seconds = c.seconds + 1) ∧
    (c.tick.2 = true → c.year = 2199 ∧ c.month = 12 ∧ c.day = 31)) ∧
  (∀ (s : State) (sub : Nat),
    (s.reads = true → ∃ t, exec (.rtcSubsecRead sub) s = .next t ∧ t.rtc.frozen = true ∧
      t.rtc.shadow = { s.rtc.now with sub := sub % 32768 } ∧ .readReply (BitVec.ofNat 32 (sub % 32768)) ∈ t.outbox ∧
      Frame s t [.rtc]) ∧
    (s.reads = true → s.rtc.frozen = true → ∃ t, exec .rtcYearRead s = .next t ∧ t.rtc.frozen = false ∧
      .readReply (BitVec.ofNat 32 s.rtc.shadow.year) ∈ t.outbox ∧ t.rtc.now = s.rtc.now ∧ Frame s t [.rtc]) ∧
    (s.reads = false → (∃ t, exec (.rtcSubsecRead sub) s = .next t ∧ .readReply 0 ∈ t.outbox ∧ Frame s t []) ∧
      ∃ t, exec .rtcYearRead s = .next t ∧ .readReply 0 ∈ t.outbox ∧ Frame s t []) ∧
    ∃ t, exec .shadowTimeout s = .next t ∧ t.rtc.frozen = false ∧ t.rtc.now = s.rtc.now ∧ Frame s t [.rtc]) ∧
  (∀ (s : State) (v : Word), s.live = true →
    (bit v 0 = true → s.rtc.setBuf.ok = true → ∃ t, exec (.rtcLoad v) s = .next t ∧ t.rtc.now = s.rtc.setBuf ∧
      t.rtc.valid = true ∧ AgesOnly s t ∧ Frame s t [.rtc, .groups]) ∧
    (bit v 0 = true → s.rtc.setBuf.ok = false → ∃ t, exec (.rtcLoad v) s = .next t ∧ t.rtc.now = s.rtc.now ∧
      t.rtc.valid = s.rtc.valid ∧ t.rtc.setRefused = true ∧ Frame s t [.rtc]) ∧
    (bit v 0 = false → ∃ t, exec (.rtcLoad v) s = .next t ∧ Frame s t [])) ∧
  ∀ (s : State) (on : Bool),
    (s.rtc.onVrtc ≠ on → s.dev.state = .ready → ∃ t, exec (.rtcSwitch on) s = .next t ∧ t.rtc.onVrtc = on ∧
      t.rtc.now = s.rtc.now ∧ (∃ e ∈ t.host.openEvents, e.kind = .device ∧ e.typ = 73) ∧ Frame s t [.rtc, .host]) ∧
    (s.rtc.onVrtc ≠ on → s.dev.state = .powerup → ∃ t, exec (.rtcSwitch on) s = .next t ∧ t.rtc.onVrtc = on ∧
      t.rtc.switchDue = s.rtc.switchDue ++ [if on then 1 else 0] ∧ Frame s t [.rtc]) ∧
    (s.rtc.onVrtc = on → ∃ t, exec (.rtcSwitch on) s = .next t ∧ Frame s t []) ∧
    (s.rtc.valid = true → ∃ t, exec .rtcOscFail s = .next t ∧ t.rtc.valid = false ∧
      t.rtc.now = s.rtc.now ∧ (s.flt.active.getLsbD 41 = false → t.flt.hit.getLsbD 41 = true)) ∧
    (s.rtc.valid = false → ∃ t, exec .rtcOscFail s = .next t ∧ Frame s t []) ∧
    ∃ t, exec .rtcReset s = .next t ∧ t.rtc.now = Rtc.reset.now ∧ t.rtc.valid = false ∧ t.rtc.onVrtc = s.rtc.onVrtc ∧
      t.flt.rtcCopy = none ∧ t.hold.rtCount = 0 ∧ t.wdt.supCount = 0 ∧ AgesOnly s t ∧
      Frame s t [.rtc, .flt, .hold, .wdt, .groups]

/-- MAIN_LOST (R392, R394), MAIN_RETURNED (R396), RIDE_THROUGH_END, VSTOP_REACHED, VLINK_COLLAPSE (R395, R397),
SAVE_SEAL (R398, R408). -/
def Obligations.MainLossRidesThroughAndSaves : Prop :=
  (∀ (s : State) (byOk : Bool),
    (s.hold.main = true → s.dev.state ∈ [.ready, .active, .chrysalis] → s.hold.rtWindow ≠ 0 → ∃ t, exec (.mainLost byOk) s = .next t ∧
      t.dev.state = .rideThrough ∧ t.dev.left = s.dev.state ∧ t.hold.main = false ∧ t.hold.idg = false ∧ t.hold.state = .noMain ∧
      t.hold.rtStart = s.beat.uptime ∧ t.hold.rtCount = satInc 0xFFFF s.hold.rtCount ∧
      (∀ k : Fin 12, s.seq.state = .on → (s.seq.run.slots[k]).rt = false → (t.seq.slots[k]).en = false) ∧
      Frame s t [.hold, .host, .dev, .ic, .seq, .chans]) ∧
    (s.hold.main = true → s.dev.state ∈ [.ready, .active, .chrysalis] → s.hold.rtWindow = 0 → ∃ t, exec (.mainLost byOk) s = .next t ∧
      t.dev.state = .orderlyStop ∧ t.dev.stopCause = some .windowEnd ∧ t.hold.main = false) ∧
    (s.hold.main = true → s.dev.state = .orderlyStop → ∃ t, exec (.mainLost byOk) s = .next t ∧
      t.dev.state = .orderlyStop ∧ t.dev.mainLostInStop = true ∧ t.hold.main = false ∧ Frame s t [.hold, .host, .dev, .ic, .seq]) ∧
    (s.hold.main = false → ∃ t, exec (.mainLost byOk) s = .next t ∧ Frame s t [])) ∧
  (∀ s : State,
    (s.hold.main = false → s.dev.state = .rideThrough → ∃ t, exec .mainReturned s = .next t ∧
      t.dev.state = s.dev.left ∧ t.hold.main = true ∧ t.hold.state = .detect ∧ t.hold.rtMs = s.rideMs ∧
      (∃ e ∈ t.host.openEvents, e.kind = .device ∧ e.typ = 69) ∧ t.chans = s.chans ∧ t.phases = s.phases) ∧
    (s.hold.main = true → ∃ t, exec .mainReturned s = .next t ∧ Frame s t [])) ∧
  (∀ (s : State) (v : Int),
    let stopped := fun (t : State) (c : StopCause) => t.dev.state = .orderlyStop ∧ t.dev.stopCause = some c ∧
      t.saves.writing = some s.saves.next ∧ (∃ e ∈ t.host.openEvents, e.kind = .device ∧ e.typ = 70) ∧
      (∀ x : Fin 2, (t.links.port[x]).switch = false ∧ (t.links.port[x]).state = .fixed)
    (s.dev.state = .rideThrough → ∃ t, exec .rideThroughEnd s = .next t ∧ stopped t .windowEnd) ∧
    (s.dev.state = .rideThrough → v < s.hold.vstop → ∃ t, exec (.vstopReached v) s = .next t ∧ stopped t .vstop) ∧
    (s.dev.state = .rideThrough → s.hold.vstop ≤ v → ∃ t, exec (.vstopReached v) s = .next t ∧ t.hold.v = v ∧
      Frame s t [.hold]) ∧
    (s.dev.state = .rideThrough → v < 10000000 → ∃ t, exec (.vlinkCollapse v) s = .next t ∧ stopped t .vlink) ∧
    (s.dev.state = .rideThrough → 10000000 ≤ v → ∃ t, exec (.vlinkCollapse v) s = .next t ∧ t.links.vlink = v ∧
      Frame s t [.links]) ∧
    (s.dev.state ≠ .rideThrough → ∃ t, exec .rideThroughEnd s = .next t ∧ Frame s t [])) ∧
  ∀ s : State,
    (∀ k : Fin 2, s.dev.state = .orderlyStop → s.saves.writing = some k.val → s.dev.mainLostInStop = true → s.seq.state = .on →
      s.seq.stopFirst = false → ∃ t, exec .saveSeal s = .next t ∧ t.saves.writing = none ∧
        (∃ i, t.saves.areas[k] = some i ∧ i.isSealed = true ∧ i.sealNo = s.saves.topSeal + 1 ∧ i.beat = s.beat.number) ∧
        t.saves.areas[1 - k] = s.saves.areas[1 - k] ∧ t.seq.state = .powerDown ∧ t.seq.lastCause = DownCause.stop.code ∧
        t.dev.boardDown = true ∧ (∃ e ∈ t.host.openEvents, e.kind = .device ∧ e.typ = 71) ∧ t.chans = s.chans) ∧
    (s.dev.state ≠ .orderlyStop → ∃ t, exec .saveSeal s = .next t ∧ Frame s t [])

/-- VBACK_VALID, PROFILE_STORE (R411), POWER_UP_START, SLOT_ON (R413), PG_CHANGE, PG_TIMEOUT (R414, R415), SLOT_OFF (R416,
R417), OFF_TIMEOUT (R418), GAP_END, RETRY_COUNT_RESET (R419), FLT_EXT, FLT_N_RISE (R420), RESET_RELEASE, SEQ_RST_HOLD
(R423), MARGIN_WRITE, MARGIN_STEP (R424, R425). -/
def Obligations.RailsUpAndDown : Prop :=
  (∀ (s : State) (ok : Bool) (v : Word),
    (s.seq.vback = false → ∃ t, exec (.vbackValid ok) s = .next t ∧ t.seq.vback = true ∧
      (∀ p, s.seq.stored = some p → ok = true → t.seq.profile = p ∧ t.seq.profileStored = true) ∧
      (ok = false → t.seq.profile = SeqProfile.blank ∧ t.seq.profileStored = false) ∧ Frame s t [.seq, .log]) ∧
    (s.live = true → bit v 0 = true → ∃ t, exec (.profileStore v ok) s = .next t ∧
      t.seq.stored = (if ok then some s.seq.profile else s.seq.stored) ∧ (ok = true → t.seq.profileStored = true) ∧
      (ok = false → t.seq.storeErr = true) ∧
      t.seq.profile = s.seq.profile ∧ Frame s t [.seq, .log])) ∧
  (∀ s : State,
    let up := fun (t : State) => t.seq.run = s.seq.profile ∧ (t.seq.state = .powerUp ∨ t.seq.state = .on) ∧
      ((∃ k : Fin 12, (s.seq.profile.slots[k]).en = true ∧ (s.seq.profile.slots[k]).onDly ≠ 0) → t.seq.state = .powerUp) ∧
      (∀ k : Fin 12, (s.seq.profile.slots[k]).en = true → (s.seq.profile.slots[k]).onDly ≠ 0 → (t.seq.slots[k]).due = true) ∧
      (∀ k : Fin 12, (s.seq.profile.slots[k]).en = true → (s.seq.profile.slots[k]).onDly = 0 → (t.seq.slots[k]).en = true)
    (s.seq.state = .off → s.upAllowed = true → s.seq.fltLow = false ∨ s.seq.profile.fltnEn = false →
      (s.dev.boardDown = false → ∃ t, exec .powerUpStart s = .next t ∧ up t ∧ t.seq.upKind = 0 ∧ Frame s t [.seq]) ∧
      (s.dev.boardDown = true → ∃ t, exec .powerUpStart s = .next t ∧ up t ∧ t.seq.upKind = 0 ∧ t.dev.state = .powerup ∧
        t.beat.running = false)) ∧
    (s.seq.state ≠ .off ∨ s.upAllowed = false → ∃ t, exec .powerUpStart s = .next t ∧ Frame s t []) ∧
    (s.seq.state = .gap → s.upAllowed = true → s.dev.boardDown = false → ∃ t, exec .gapEnd s = .next t ∧ up t ∧
      t.seq.retry = s.seq.retry + 1 ∧ t.seq.fltDriven = false ∧ Frame s t [.seq, .log, .host, .ic]) ∧
    (s.seq.state ≠ .gap ∨ s.upAllowed = false → ∃ t, exec .gapEnd s = .next t ∧ Frame s t []) ∧
    (s.seq.state = .on → ∃ t, exec .retryCountReset s = .next t ∧ t.seq.retry = 0 ∧ t.seq.state = .on ∧ Frame s t [.seq]) ∧
    (s.seq.state = .extWait → s.upAllowed = true → s.seq.fltDriven = false → s.dev.boardDown = false →
      ∃ t, exec .fltNRise s = .next t ∧ up t ∧ t.seq.upKind = 2 ∧ Frame s t [.seq]) ∧
    (s.seq.fltDriven = false → s.seq.state = .on ∨ s.seq.state = .powerUp → s.seq.run.fltnEn = true → s.seq.run.fltStop = false →
      ∃ t, exec .fltExt s = .next t ∧ t.seq.state = .powerDown ∧ t.seq.lastCause = DownCause.fltExt.code ∧
        t.seq.fltLow = true ∧ (∀ j : Fin 4, t.seq.released[j] = false) ∧ Frame s t [.seq, .log, .host, .ic]) ∧
    (s.seq.fltDriven = true → ∃ t, exec .fltExt s = .next t ∧ Frame s t [])) ∧
  (∀ (s : State) (k : Fin 12) (x : Nat),
    let c := s.seq.run.slots[k]
    let p := s.seq.slots[k]
    (s.seq.state = .powerUp ∨ s.seq.state = .on → p.due = true → ∃ t, exec (.slotOn k x) s = .next t ∧ (t.seq.slots[k]).en = true ∧
      (t.seq.slots[k]).dis = false ∧ (t.seq.slots[k]).due = false ∧ Frame s t [.seq, .log, .host, .ic]) ∧
    (∀ mv, s.seq.state = .on ∨ s.seq.state = .powerUp → p.en = true → p.pg = true → s.slotCut k = false → c.mode = 1 →
      mv < 600 → s.seq.run.fltStop = false → ∃ t, exec (.pgChange k mv x) s = .next t ∧ t.seq.state = .powerDown ∧ (t.seq.slots[k]).lastFail = 2 ∧
        t.seq.lastSlot = k.val ∧ t.seq.lastCause = DownCause.pgLost.code ∧ (∀ j : Fin 4, t.seq.released[j] = false) ∧
        Frame s t [.seq, .log, .host, .ic]) ∧
    (∀ mv, s.seq.state = .powerUp → c.mode = 1 → 1200 < mv → p.en = true → s.slotCut k = false → p.due = false → s.seq.rtCut = false →
      (∀ j : Fin 12, j ≠ k → (s.seq.run.slots[j]).en = true → (s.seq.slots[j]).en = true ∧ (s.seq.slots[j]).pg = true ∧
        (s.seq.slots[j]).due = false) → ∃ t, exec (.pgChange k mv x) s = .next t ∧ t.seq.state = .on ∧
          (t.seq.slots[k]).pg = true ∧ Frame s t [.seq, .log, .host, .ic]) ∧
    (s.seq.state = .powerUp → p.en = true → p.pg = false → s.slotCut k = false → c.mode ≠ 0 → s.seq.run.fltStop = false →
      ∃ t, exec (.pgTimeout k x) s = .next t ∧ t.seq.state = .powerDown ∧ (t.seq.slots[k]).lastFail = 1 ∧
        t.seq.lastCause = DownCause.pgTimeout.code ∧ Frame s t [.seq, .log, .host, .ic]) ∧
    (s.seq.state = .powerDown → s.seq.stopFirst = false → p.wasOn = true → p.offDone = false →
      ∃ t, exec (.slotOff k x) s = .next t ∧ (t.seq.slots[k]).en = false ∧ (t.seq.slots[k]).offDone = true ∧
        (t.seq.slots[k]).dis = (p.dis || c.disEn)) ∧
    (s.seq.state = .powerDown → s.seq.stopFirst = false → s.seq.lockAfter = false →
      (∀ j : Fin 12, (s.seq.slots[j]).wasOn = true → (s.seq.slots[j]).isOff = true ∧ (s.seq.slots[j]).offDone = true) →
      (s.seq.cause = some .stop → ∃ t, exec (.slotOff k x) s = .next t ∧ t.seq.state = .off ∧ t.seq.fltDriven = false ∧
        Frame s t [.seq, .log]) ∧
      (s.seq.cause = some .pgLost ∨ s.seq.cause = some .pgTimeout →
        (s.seq.retry < s.seq.run.retries → s.hold.main = true → ∃ t, exec (.slotOff k x) s = .next t ∧ t.seq.state = .gap ∧
          Frame s t [.seq, .log]) ∧
        (s.seq.run.retries ≤ s.seq.retry → ∃ t, exec (.slotOff k x) s = .next t ∧ t.seq.state = .locked ∧
          (s.flt.active.getLsbD 33 = false → t.flt.hit.getLsbD 33 = true)))) ∧
    (s.seq.state = .powerDown → s.seq.stopFirst = false → p.wasOn = true → p.isOff = false →
      ∃ t, exec (.offTimeout k x) s = .next t ∧
        (t.seq.slots[k]).dis = true ∧ (t.seq.slots[k]).isOff = true ∧ (t.seq.slots[k]).lastFail = 4 ∧
        (s.flt.active.getLsbD 32 = false → t.flt.hit.getLsbD 32 = true))) ∧
  (∀ (s : State) (j : Fin 4) (v : Word),
    (s.resetReady j = true → ∃ t, exec (.resetRelease j) s = .next t ∧ t.seq.released[j] = true ∧
      (∀ i : Fin 4, i ≠ j → t.seq.released[i] = s.seq.released[i]) ∧ Frame s t [.seq]) ∧
    (s.resetReady j = false → ∃ t, exec (.resetRelease j) s = .next t ∧ Frame s t []) ∧
    (s.live = true → bit v 31 = true → ∃ t, exec (.seqRstHold j v) s = .next t ∧ t.seq.released[j] = false ∧
      (∀ i : Fin 4, i ≠ j → t.seq.released[i] = s.seq.released[i]) ∧ bit (t.seq.profile.rst[j]) 31 = true ∧ Frame s t [.seq])) ∧
  ∀ (s : State) (k : Fin 12) (v : Word), s.seq.state = .on →
    (s.live = true → ∃ t, exec (.marginWrite k v) s = .next t ∧ (t.seq.slots[k]).marg = v &&& 0x800000FF#32 ∧
      (t.seq.slots[k]).margOn = bit v 31 ∧ (bit v 31 = false → (t.seq.slots[k]).applied = 0) ∧ Frame s t [.seq, .log]) ∧
    ∃ t, exec .marginStep s = .next t ∧ (t.seq.slots[k]).marg = (s.seq.slots[k]).marg ∧
      ((s.seq.slots[k]).margOn = true → (s.seq.slots[k]).applied < marginTarget (s.seq.slots[k]).marg →
        (t.seq.slots[k]).applied = (s.seq.slots[k]).applied + 1) ∧
      ((s.seq.slots[k]).margOn = false → t.seq.slots[k] = s.seq.slots[k]) ∧ Frame s t [.seq]


/-- SUPPLIES_VALID, SELFTEST_STEP_DONE (R434, R435, R446), GLB_RESET, GLB_CHRYSALIS, GLB_WAKE, CORE_SUPPLY_FAULT (R432),
CENSUS_ACCEPT, NO_PULSE_WRITE (R442, R443), SVC_DATA_LO_READ, SVC_DATA_HI_READ (R448), HOLD_RESPONDER_READ (R445),
VBACK_LOST (R95, R381, R411). -/
def Obligations.StartsResetsAndService : Prop :=
  (∀ (s : State) (d : Nat) (pins : Pins),
    (s.dev.state = .powerup → pins.vddIo < 2200 ∨ 2500 < pins.vddIo → ∃ t, exec (.suppliesValid d pins) s = .next t ∧
      t.dev.state = .selftest ∧ t.dev.ioHigh = decide (2500 < pins.vddIo) ∧ t.dev.refin = pins.refin ∧ t.dev.step = 2 ∧
      t.dev.passed = 1 ∧ t.dev.bootCount = s.dev.bootCount + 1 ∧ t.dom.strapped = pins.domLead ∧ t.tw.baddr = pins.baddr.val ∧
      t.flt.testEn = pins.testEn ∧ Frame s t [.dev, .ic, .dom, .tw, .flt]) ∧
    (s.dev.state ≠ .powerup ∨ (2200 ≤ pins.vddIo ∧ pins.vddIo ≤ 2500) → ∃ t, exec (.suppliesValid d pins) s = .next t ∧ Frame s t [])) ∧
  (∀ (s : State) (r : StepResult), s.dev.state = .selftest →
    (s.dev.step = 7 ∨ s.dev.step = 8 → r.code = 0 → ∃ t, exec (.selftestStepDone r) s = .next t ∧
      t.dev.state = .selftest ∧ t.dev.step = s.dev.step + 1 ∧ t.dev.passed = s.dev.passed ||| (1#16 <<< (s.dev.step - 1)) ∧
      Frame s t [.dev]) ∧
    (s.dev.step = 7 ∨ s.dev.step = 8 → r.code ≠ 0 → ∃ t, exec (.selftestStepDone r) s = .next t ∧
      t.dev.state = .cocoon ∧ t.dev.failStep = s.dev.step ∧ t.dev.failCode = r.code ∧ t.dev.failData = r.data ∧
      (∀ p : PhaseNo, t.phases[p].gh = false ∧ t.phases[p].gl = false) ∧ (∀ x : Fin 2, (t.links.port[x]).switch = false)) ∧
    (s.dev.step = 2 → ∀ k, s.badRegion = some k →
      (k ≠ 3 → ∃ t, exec (.selftestStepDone r) s = .next t ∧
        t.dev.state = .otpHold ∧ t.dev.holdRegion = k + 1 ∧ t.dev.failCode = 0x21 + k ∧ Frame s t [.dev, .ic]) ∧
      (k = 3 → ∃ t, exec (.selftestStepDone r) s = .next t ∧ t.dev.state = .cocoon ∧ t.dev.failStep = 2 ∧ t.dev.failCode = 0x24 ∧
        (∀ p : PhaseNo, t.phases[p].gh = false ∧ t.phases[p].gl = false) ∧ (∀ x : Fin 2, (t.links.port[x]).switch = false))) ∧
    (s.dev.step = 11 → s.hold.shortSeen = false → ∃ t, exec (.selftestStepDone r) s = .next t ∧ t.dev.state = .ready ∧
      t.beat.running = true ∧ t.beat.number = 0 ∧ t.dev.result = .pass) ∧
    (s.dev.step = 11 → s.hold.shortSeen = true → ∃ t, exec (.selftestStepDone r) s = .next t ∧ t.beat.running = true ∧
      t.beat.number = 0 ∧ t.dev.result = .pass ∧ (s.flt.active.getLsbD 29 = false → t.flt.hit.getLsbD 29 = true))) ∧
  (∀ (s : State) (v : Word),
    (fld v 0 3 = 1 → fld v 24 8 = 0x5A → s.dev.state = .ready ∨ s.dev.state = .cocoon → ∃ t, exec (.glbReset v) s = .next t ∧ CoreReset s t ∧
      .deviceReset ∈ t.outbox) ∧
    (fld v 0 3 = 1 → fld v 24 8 = 0x5A → s.dev.state ∉ [.ready, .cocoon, .powerup, .otpHold] → ∃ t, exec (.glbReset v) s = .next t ∧
      t.dev.rstRefused = true ∧ t.dev.state = s.dev.state ∧ Frame s t [.dev]) ∧
    (fld v 0 3 = 1 → fld v 24 8 ≠ 0x5A → ∃ t, exec (.glbReset v) s = .next t ∧ Frame s t []) ∧
    (fld v 0 3 = 2 → s.dev.state = .ready ∨ s.dev.state = .active →
      (s.allQuiet = true → ∃ t, exec (.glbChrysalis v) s = .next t ∧
        t.dev.state = .chrysalis ∧ t.dev.chryFrom = s.dev.state ∧ Frame s t [.dev, .ic]) ∧
      (s.allQuiet = false → ∃ t, exec (.glbChrysalis v) s = .next t ∧
        t.dev.state = s.dev.state ∧ t.dev.chryRefused = true ∧ Frame s t [.dev])) ∧
    (fld v 0 3 = 4 → s.dev.state = .chrysalis → ∃ t, exec (.glbWake v) s = .next t ∧
      t.dev.state = (if s.allOff then .ready else .active) ∧ Frame s t [.dev, .ic, .flt]) ∧
    (fld v 0 3 = 4 → s.dev.state ≠ .chrysalis → ∃ t, exec (.glbWake v) s = .next t ∧ Frame s t []) ∧
    (∃ t, exec .coreSupplyFault s = .next t ∧ CoreReset s t ∧ .deviceReset ∈ t.outbox) ∧
    (s.live = true → bit v 1 = true → ∃ t, exec (.censusAccept v) s = .next t ∧ t.dev.noPulse = bit v 0 ∧
      t.dev.baseline = some (s.phases.toList.map fun p => (p.cenSh.toNat, p.cenL.toNat)) ∧ Frame s t [.dev]) ∧
    (s.live = true → bit v 1 = false → ∃ t, exec (.noPulseWrite v) s = .next t ∧ t.dev.noPulse = bit v 0 ∧
      t.dev.baseline = s.dev.baseline ∧ Frame s t [.dev])) ∧
  (∀ (s : State) (err : Bool), s.dev.state = .ready →
    (s.dev.svcIndex < s.dev.svcSize → ∃ t, exec (.svcDataLoRead err) s = .next t ∧
      .readReply (BitVec.ofNat 32 s.svcWord) ∈ t.outbox ∧ t.dev.svcHi = BitVec.ofNat 32 (s.svcWord / 4294967296) ∧
      t.dev.svcNvErr = (s.dev.svcNvErr || err) ∧ t.dev.svcIndex = s.dev.svcIndex ∧ (err = false → Frame s t [.dev]) ∧
      (err = true → s.flt.active.getLsbD 12 = false → t.flt.hit.getLsbD 12 = true)) ∧
    (s.dev.svcSize ≤ s.dev.svcIndex → ∃ t, exec (.svcDataLoRead err) s = .next t ∧ .readReply 0 ∈ t.outbox ∧
      t.dev.svcRange = true ∧ Frame s t [.dev]) ∧
    ∃ t, exec .svcDataHiRead s = .next t ∧ .readReply s.dev.svcHi ∈ t.outbox ∧
      (s.dev.svcIndex + 1 < s.dev.svcSize → t.dev.svcIndex = s.dev.svcIndex + 1) ∧
      (s.dev.svcIndex + 1 = s.dev.svcSize → t.dev.svcIndex = 0) ∧ Frame s t [.dev]) ∧
  (∀ (s : State) (n : Nat),
    (s.dev.state = .otpHold → ∃ t, exec (.holdResponderRead n) s = .next t ∧
      (∀ i, i < n → .svcByte (s.holdBytes.getD (i % 8) 0) ∈ t.outbox) ∧ Frame s t []) ∧
    (s.dev.state ≠ .otpHold → ∃ t, exec (.holdResponderRead n) s = .next t ∧ Frame s t [])) ∧
  ∀ s : State, ∃ t, exec .vbackLost s = .next t ∧ t.dev.state = .powerup ∧ t.seq = { Seqr.reset with stored := s.seq.stored } ∧
    t.hold.cap = s.hold.cap ∧ t.hold.state = Holdup.reset.state ∧ t.rtc.now = s.rtc.now ∧ t.log = s.log ∧
    ∀ p : PhaseNo, t.phases[p].latched = s.phases[p].nvLatch ∧ t.phases[p].gh = false ∧ t.phases[p].gl = false

/-- UPD_RESET, UPD_RESET_ACTION, UPD_STAGED_SEND (R514). -/
def Obligations.UpdateResetsAreArmedAndTaken : Prop :=
  (∀ (s : State) (ring : Bool) (offset rseq b : Nat) (mf : List Byte), s.dom.state = .aligned →
    let n := beatNear s.beat.number (b + offset)
    (rseq ∉ s.dom.seenUpd → padTo 4 mf = s.sec.updManifest.take 4 → s.updRefused = none → s.stagedBank.state = .staged →
      ∃ t, exec (.updReset ring s.dom.leader offset rseq mf b) s = .next t ∧ (t.sec.banks[s.inactive]).state = .pending ∧
        t.dom.updAt = some n ∧ rseq ∈ t.dom.seenUpd ∧ t.chans = s.chans ∧ Frame s t [.dom, .sec, .host, .log, .ic]) ∧
    (rseq ∉ s.dom.seenUpd → padTo 4 mf = s.sec.updManifest.take 4 → ∀ st, s.updRefused = some st →
      ∃ t, exec (.updReset ring s.dom.leader offset rseq mf b) s = .next t ∧ t.sec.banks = s.sec.banks ∧
        t.dom.updAt = s.dom.updAt ∧ (∃ e ∈ t.host.openEvents, e.kind = .device ∧ e.typ = 117) ∧
        Frame s t [.dom, .host, .log]) ∧
    (rseq ∈ s.dom.seenUpd → ∃ t, exec (.updReset ring s.dom.leader offset rseq mf b) s = .next t ∧ Frame s t [])) ∧
  (∀ (s : State) (n : Beat), s.dom.updAt = some n →
    (s.beat.number = n → s.stagedBank.state = .pending → s.dev.state = .ready → ∃ t, exec .updResetAction s = .next t ∧
      CoreReset s t ∧ .deviceReset ∈ t.outbox) ∧
    (s.beat.number ≠ n → ∃ t, exec .updResetAction s = .next t ∧ Frame s t [])) ∧
  ∀ s : State, s.dom.state = .aligned →
    (s.stagedBank.state = .staged → s.dom.updSentAt = none → (s.dom.port false).up = true → (s.dom.port true).up = false →
      ∃ t, exec .updStagedSend s = .next t ∧ t.dom.updSentAt = some s.beat.uptime ∧
        (t.dom.port false).queue = (s.dom.port false).queue ++ [slotBytes 0x14 s.dom.addr s.sec.updManifest] ∧
        Frame s t [.dom]) ∧
    (s.stagedBank.state ≠ .staged → ∃ t, exec .updStagedSend s = .next t ∧ Frame s t [])


/-- SUPPLY_MONITOR_TRIP, SUPPLY_MONITOR_RECOVERY, CLOCK_MONITOR_TRIP, DIE_OVERTEMP, DIE_THERMAL (R457, R475), FLT_HIT_CLEAR
(R453), FLT_FIRST_CLEAR (R459), FLT_INJECT, FLT_TESTKEY (R463), FLT_SEV_WRITE (R456), WB_RESTART, WB_HOLD,
WINGBEAT_TOGGLE, FAULT_N_PULSE_END (R464 to R466), CONFIG_CHECK, HEARTBEAT (R461). -/
def Obligations.FaultsAndTheAliveOutput : Prop :=
  (∀ (s : State) (k : Fin 6) (mv : Nat) (x : Int),
    (∀ n : Fin 128, n.val = k.val → railInside k s.dev.ioHigh mv = false → ∃ t, exec (.supplyMonitorTrip k mv) s = .next t ∧
      t.flt.active.getLsbD n = true ∧ (s.flt.active.getLsbD n = false → t.flt.hit.getLsbD n = true)) ∧
    (railInside k s.dev.ioHigh mv = true → ∃ t, exec (.supplyMonitorTrip k mv) s = .next t ∧ Frame s t []) ∧
    (∃ t, exec (.supplyMonitorRecovery k) s = .next t ∧ t.flt.active.getLsbD k.val = false ∧ t.flt.hit = s.flt.hit ∧
      Frame s t [.flt]) ∧
    (∀ refin : Bool, (∃ t, exec (.clockMonitorTrip true refin) s = .next t ∧
        (s.flt.active.getLsbD 7 = false → t.flt.hit.getLsbD 7 = true)) ∧
      (refin = s.dev.refin → ∃ t, exec (.clockMonitorTrip false refin) s = .next t ∧ t.flt.running = false ∧
        (s.flt.active.getLsbD 6 = false → t.flt.hit.getLsbD 6 = true)) ∧
      (refin ≠ s.dev.refin → ∃ t, exec (.clockMonitorTrip false refin) s = .next t ∧ Frame s t [])) ∧
    (13200 < x → ∃ t, exec (.dieOvertemp x) s = .next t ∧ t.flt.active.getLsbD 8 = true ∧
      (s.flt.active.getLsbD 8 = false → t.flt.hit.getLsbD 8 = true)) ∧
    (x < 12700 → ∃ t, exec (.dieOvertemp x) s = .next t ∧ t.flt.active.getLsbD 8 = false ∧ t.flt.hit = s.flt.hit ∧
      Frame s t [.flt]) ∧
    (12700 ≤ x → x ≤ 13200 → ∃ t, exec (.dieOvertemp x) s = .next t ∧ Frame s t []) ∧
    ((s.ic.src[(39 : Fin 64)]).sense ≠ 0 → ∃ t, exec .dieThermal s = .next t ∧ (t.ic.src[(39 : Fin 64)]).pending = true ∧
      Frame s t [.ic])) ∧
  (∀ (s : State) (v : Word), s.live = true →
    (∀ (j : Fin 4) (i : Nat), i < 32 → ∃ t, exec (.fltHitClear j v) s = .next t ∧
      t.flt.hit.getLsbD (32 * j.val + i) = (s.flt.hit.getLsbD (32 * j.val + i) && !v.getLsbD i) ∧
      t.flt.active = s.flt.active ∧ Frame s t [.flt]) ∧
    (bit v 31 = true → ∃ t, exec (.fltFirstClear v) s = .next t ∧ t.flt.first = none ∧ t.flt.ovf = false ∧
      t.flt.hit = s.flt.hit ∧ Frame s t [.flt]) ∧
    (bit v 31 = false → ∃ t, exec (.fltFirstClear v) s = .next t ∧ Frame s t []) ∧
    (s.flt.factory = false → ∃ t, exec (.fltInject v) s = .next t ∧ t.flt.injRefused = true ∧ t.flt.hit = s.flt.hit ∧
      Frame s t [.flt]) ∧
    (∀ n : Fin 128, s.flt.factory = true → bit v 31 = true → fld v 0 7 = n.val → srcExists n.val = true →
      ∃ t, exec (.fltInject v) s = .next t ∧ (s.flt.active.getLsbD n = false → t.flt.hit.getLsbD n = true)) ∧
    (s.flt.testEn = true → v = s.otpWord 110 → ∃ t, exec (.fltTestkey v) s = .next t ∧ t.flt.factory = true ∧ Frame s t [.flt]) ∧
    (s.flt.testEn = false ∨ v ≠ s.otpWord 110 → ∃ t, exec (.fltTestkey v) s = .next t ∧ Frame s t []) ∧
    (∀ (j : Fin 16) (n : Fin 128), n.val / 8 = j.val → s.flt.lock = false → ∃ t, exec (.fltSevWrite j v) s = .next t ∧
      (t.flt.sev[n]).toNat = max (srcFloor n.val) (fld v (4 * (n.val % 8)) 3) ∧
      (∀ m : Fin 128, m.val / 8 ≠ j.val → t.flt.sev[m] = s.flt.sev[m]) ∧ Frame s t [.flt]) ∧
    (∀ j : Fin 16, s.flt.lock = true → ∃ t, exec (.fltSevWrite j v) s = .next t ∧ Frame s t [])) ∧
  (∀ (s : State) (v : Word),
    (s.live = true → fld v 0 2 = 1 → s.flt.mode = false → s.flt.hold = false → s.flt.running = false → s.wbAllowed = true →
      ∃ t, exec (.wbRestart v) s = .next t ∧ t.flt.running = true ∧ t.flt.level = true ∧
        (∃ e ∈ t.host.openEvents, e.kind = .device ∧ e.typ = 128) ∧ Frame s t [.flt, .host]) ∧
    (s.live = true → fld v 0 2 = 1 → s.flt.hold = false → s.wbAllowed = false → ∃ t, exec (.wbRestart v) s = .next t ∧
      t.flt.wbRefused = true ∧ t.flt.running = s.flt.running ∧ Frame s t [.flt]) ∧
    (s.live = true → fld v 0 2 = 2 → s.flt.mode = true → ∃ t, exec (.wbHold v) s = .next t ∧ t.flt.hold = true ∧
      t.flt.running = false ∧ t.flt.level = false ∧ Frame s t [.flt]) ∧
    (s.flt.mode = false → s.flt.running = true → ∃ t, exec .wingbeatToggle s = .next t ∧ t.flt.level = (!s.flt.level) ∧
      Frame s t [.flt]) ∧
    (s.flt.running = false → ∃ t, exec .wingbeatToggle s = .next t ∧ Frame s t []) ∧
    (s.flt.pulse = true → s.dev.state = .ready ∨ s.dev.state = .active → s.flt.mode = true → s.flt.hold = false → ∃ t, exec .faultNPulseEnd s = .next t ∧
      t.flt.pulse = false ∧ t.flt.running = true ∧ t.flt.level = true ∧ Frame s t [.flt]) ∧
    (s.flt.pulse = true → s.flt.hold = true → ∃ t, exec .faultNPulseEnd s = .next t ∧ t.flt.pulse = false ∧
      t.flt.running = s.flt.running ∧ Frame s t [.flt])) ∧
  ∀ s : State,
    ((∀ r ∈ s.flt.monRec, s.protected r.1 = r.2) → ∃ t, exec .configCheck s = .next t ∧ t.flt = s.flt ∧ Frame s t [.ic]) ∧
    ((∃ r ∈ s.flt.monRec, s.protected r.1 ≠ r.2) →
      ∃ t, exec .configCheck s = .next t ∧ (s.flt.active.getLsbD 37 = false → t.flt.hit.getLsbD 37 = true)) ∧
    (s.flt.excuse = 0 → s.flt.missed + 1 < 3 → ∃ t, exec (.heartbeat false) s = .next t ∧ t.flt.missed = s.flt.missed + 1 ∧
      Frame s t [.flt]) ∧
    (s.flt.excuse = 0 → 2 ≤ s.flt.missed → ∃ t, exec (.heartbeat false) s = .next t ∧
      t.flt.missed = 0 ∧ (s.flt.active.getLsbD 36 = false → t.flt.hit.getLsbD 36 = true)) ∧
    (∃ t, exec (.heartbeat true) s = .next t ∧ t.flt.missed = 0 ∧ Frame s t [.flt])

/-- FLT_SOFT (R462): an event source, so a raise leaves it not active. -/
def Obligations.SoftFaultsAreRaisedByTheirBits : Prop :=
  ∀ (s : State) (v : Word), s.live = true → ∃ t, exec (.fltSoft v) s = .next t ∧
    (∀ k : Fin 8, ∀ n : Fin 128, n.val = 120 + k.val → v.getLsbD k.val = true → s.flt.active.getLsbD n = false →
      t.flt.hit.getLsbD n = true ∧ t.flt.active.getLsbD n = false) ∧
    (fld v 0 8 = 0 → Frame s t [])


/-- IC_T2_CLAIM (R471), IC_T2_COMPLETE (R472), IC_SRC_WRITE (R474). -/
def Obligations.ClaimsAndCompletions : Prop :=
  (∀ (s : State) (k p : Nat), s.reads = true → LinesSettled s → s.ic.best 2 = some (k, p) →
    ∃ t, exec .icT2Claim s = .next t ∧ .readReply (at_ p 8 ||| at_ k 0) ∈ t.outbox ∧
      (∃ q ∈ t.ic.sources 2, q.1 = k ∧ q.2.active = true ∧ q.2.pending = false ∧ q.2.prio.toNat = p) ∧
      (∀ q ∈ s.ic.sources 2, q.2.pending = true → max (s.ic.thresh[(2 : Fin 3)]).toNat (s.ic.running 2) < q.2.prio.toNat →
        q.2.prio.toNat < p ∨ (q.2.prio.toNat = p ∧ k ≤ q.1)) ∧ Frame s t [.ic]) ∧
  (∀ s : State, s.reads = true → s.ic.best 2 = none → ∃ t, exec .icT2Claim s = .next t ∧ .readReply 0x7F ∈ t.outbox ∧
    Frame s t []) ∧
  (∀ (s : State) (v : Word), s.live = true →
    (s.ic.activeT2 (fld v 0 7) = true → ∃ t, exec (.icT2Complete v) s = .next t ∧ t.ic.activeT2 (fld v 0 7) = false ∧
      t.ic.badComplete = s.ic.badComplete ∧ Frame s t [.ic]) ∧
    (s.ic.activeT2 (fld v 0 7) = false → ∃ t, exec (.icT2Complete v) s = .next t ∧ t.ic.badComplete = true ∧
      t.ic.bank = s.ic.bank ∧ Frame s t [.ic])) ∧
  ∀ (s : State) (k : Fin 64) (v : Word), s.live = true →
    (s.ic.src[k].target = 1 ∨ fld v 4 2 = 1 ∨ fld v 4 2 = 3 → ∃ t, exec (.icSrcWrite k v) s = .next t ∧
      t.ic.routeRefused = true ∧ t.ic.src[k].cfgWord = s.ic.src[k].cfgWord ∧ Frame s t [.ic]) ∧
    (s.ic.src[k].target ≠ 1 → fld v 4 2 = 0 ∨ fld v 4 2 = 2 → ∃ t, exec (.icSrcWrite k v) s = .next t ∧
      t.ic.src[k].sense.toNat = fld v 8 2 ∧ t.ic.src[k].prio.toNat = fld v 0 4 ∧
      (s.ic.src[k].active = false → t.ic.src[k].target.toNat = fld v 4 2) ∧
      (s.ic.src[k].active = true → t.ic.src[k].target = s.ic.src[k].target ∧
        t.ic.src[k].heldTarget = some (BitVec.ofNat 2 (fld v 4 2))) ∧ Frame s t [.ic, .flt])

/-- WDT_EN (R477), WDT_KEY (R479), WDT_CHECKIN (R480), WDT_OPEN, WDT_EARLY (R478), WDT_WINDOW_END, WDT_KEY_TIMEOUT (R481),
WDT_DEFERRED_EXPIRY (R483), SUPERVISOR_RESTART (R482). -/
def Obligations.WatchdogWindowsAndExpiries : Prop :=
  (∀ (s : State) (v : Word), s.live = true → bit v 0 = true → s.wdt.en = false → ∃ t, exec (.wdtEn v) s = .next t ∧
    t.wdt.en = true ∧ t.wdt.cfgRun = s.wdt.cfg ∧ t.wdt.tasksRun = s.wdt.tasks ∧ t.wdt.checked = 0 ∧
    t.wdt.lock = (s.wdt.lock || bit v 1) ∧ Frame s t [.wdt, .ic]) ∧
  (∀ s : State, s.wdt.en = true → s.wdt.restarting = false → s.wdt.openPart = true →
    (s.wdt.firstWord = false → ∃ t, exec (.wdtKey 0x0000A5C3) s = .next t ∧ t.wdt.firstWord = true ∧
      t.wdt.checked = s.wdt.checked ∧ Frame s t [.wdt]) ∧
    (s.wdt.firstWord = true → s.wdt.allIn = true → ∃ t, exec (.wdtKey 0x00003C5A) s = .next t ∧ t.wdt.firstWord = false ∧
      t.wdt.checked = 0 ∧ t.wdt.cfgRun = s.wdt.cfg ∧ t.wdt.lastReason = s.wdt.lastReason ∧ Frame s t [.wdt, .ic]) ∧
    (s.wdt.firstWord = true → s.wdt.allIn = false → ∃ t, exec (.wdtKey 0x00003C5A) s = .next t ∧ t.wdt.firstWord = false ∧
      t.wdt.keyRefused = true ∧ t.wdt.checked = s.wdt.checked ∧ Frame s t [.wdt])) ∧
  (∀ (s : State) (v : Word) (reason task : Nat), s.wdt.en = true → s.wdt.restarting = false → s.dev.state = .ready →
    let expired := fun (t : State) => t.wdt.lastReason = reason ∧ t.wdt.lastTask = task ∧ t.wdt.firstWord = false ∧
      (s.wdt.allCount.toNat < 0xFFFF → t.wdt.allCount = s.wdt.allCount + 1) ∧
      (s.wdt.cfgRun.getLsbD 24 = true → t.dev.state = .orderlyStop) ∧
      (s.wdt.cfgRun.getLsbD 24 = false → s.inTrial = false → s.wdt.recent s.beat.uptime = [] → s.flt.sevOf 34 ≤ 3 →
        t.wdt.restarting = true ∧ t.dev.state = .ready)
    let late := fun (t : State) => t.wdt.deferred = some (s.wdt.deferred.getD (reason, task)) ∧ t.wdt.firstWord = false ∧
      Frame s t [.wdt]
    let ends := fun (c : Instr) => (s.host.nvOps = [] → ∃ t, exec c s = .next t ∧ expired t) ∧
      (s.host.nvOps ≠ [] → ∃ t, exec c s = .next t ∧ late t)
    (s.wdt.openPart = false → reason = 3 → task = 0xFF → ends (.wdtKey v)) ∧
    (s.wdt.openPart = true → s.wdt.firstWord = false → v ≠ 0x0000A5C3 → reason = 4 → task = 0xFF → ends (.wdtKey v)) ∧
    (s.wdt.openPart = true → s.wdt.firstWord = true → v ≠ 0x00003C5A → reason = 4 → task = 0xFF → ends (.wdtKey v)) ∧
    (s.wdt.firstWord = true → reason = 5 → task = 0xFF → ends .wdtKeyTimeout) ∧
    (s.wdt.allIn = true → reason = 1 → task = 0xFF → ends .wdtWindowEnd) ∧
    (task < 8 → s.wdt.tasksRun.getLsbD task = true → s.wdt.checked.getLsbD task = false →
      (∀ i, i < task → s.wdt.tasksRun.getLsbD i = true → s.wdt.checked.getLsbD i = true) → reason = 2 → ends .wdtWindowEnd) ∧
    (s.wdt.deferred = some (reason, task) → ∃ t, exec .wdtDeferredExpiry s = .next t ∧ expired t ∧ t.wdt.deferred = none)) ∧
  (∀ (s : State) (v : Word), s.wdt.en = true → fld v 8 8 = 0xC5 → s.wdt.tasksRun.getLsbD (fld v 0 3) = true →
    (s.wdt.checked.getLsbD (fld v 0 3) = false → ∃ t, exec (.wdtCheckin v) s = .next t ∧
      t.wdt.checked = s.wdt.checked ||| (1#8 <<< fld v 0 3) ∧ Frame s t [.wdt]) ∧
    (s.wdt.checked.getLsbD (fld v 0 3) = true →
      (bit s.wdt.cfgRun 25 = true → ∃ t, exec (.wdtCheckin v) s = .next t ∧ t.wdt.lastTask = fld v 0 3 ∧
        t.wdt.checked = s.wdt.checked ∧ (s.flt.active.getLsbD 35 = false → t.flt.hit.getLsbD 35 = true)) ∧
      (bit s.wdt.cfgRun 25 = false → s.dev.state = .ready → s.host.nvOps = [] → ∃ t, exec (.wdtCheckin v) s = .next t ∧
        t.wdt.lastTask = fld v 0 3 ∧ t.wdt.lastReason = 6 ∧
        (s.flt.active.getLsbD 35 = false → t.flt.hit.getLsbD 35 = true)))) ∧
  ∀ s : State,
    (s.wdt.en = true → s.wdt.restarting = false → s.wdt.openPart = false → ∃ t, exec .wdtOpen s = .next t ∧ t.wdt.openPart = true ∧
      t.wdt.checked = s.wdt.checked ∧ Frame s t [.wdt, .ic]) ∧
    (s.wdt.en = false → (∃ t, exec .wdtOpen s = .next t ∧ Frame s t []) ∧ (∃ t, exec .wdtEarly s = .next t ∧ Frame s t []) ∧
      ∃ t, exec .wdtWindowEnd s = .next t ∧ Frame s t []) ∧
    (s.wdt.en = true → s.wdt.restarting = false → s.wdt.openPart = true → (s.ic.src[(23 : Fin 64)]).sense ≠ 0 → ∃ t, exec .wdtEarly s = .next t ∧
      (t.ic.src[(23 : Fin 64)]).pending = true ∧ Frame s t [.ic]) ∧
    (s.wdt.restarting = true → s.host.fetched = [] → ∃ t, exec .supervisorRestart s = .next t ∧ t.wdt.restarting = false ∧
      t.wdt.checked = 0 ∧ t.wdt.cfgRun = s.wdt.cfg ∧ t.host.waiters = [] ∧ t.host.nvOps = [] ∧
      (∃ e ∈ t.host.openEvents, e.kind = .device ∧ e.typ = 130) ∧ t.chans = s.chans ∧ t.phases = s.phases) ∧
    (s.wdt.restarting = false → ∃ t, exec .supervisorRestart s = .next t ∧ Frame s t [])


/-- OTP_BURN (R487), OTP_FINALISE (R488), OTP_READ (R486), OTP_OPERATION_DONE (R487), ATTEST, ATTEST_DONE (R493), DBG_OPEN,
DEBUG_ACCESS (R494). -/
def Obligations.OtpAttestationAndDebug : Prop :=
  (∀ (s : State) (v : Word), s.live = true → s.sec.otpBusy = none →
    let w := fld s.sec.otpAddr 0 9
    let r := fld v 8 2
    (fld v 0 3 = 1 → fld v 24 8 = 0x4F → s.dev.state = .ready → s.burnDenied w s.sec.otpData = false →
      (∀ q, digestRegion w = some q → s.finalised q = false) → ∃ t, exec (.otpBurn v) s = .next t ∧
        t.sec.otpBusy = some (.burn w s.sec.otpData) ∧ Frame s t [.sec]) ∧
    (∀ res : Nat, fld v 0 3 = 1 → (res = 7 ∧ fld v 24 8 ≠ 0x4F) ∨ (fld v 24 8 = 0x4F ∧ ((res = 3 ∧ s.dev.state ≠ .ready) ∨
        (s.dev.state = .ready ∧ ((res = 2 ∧ s.burnDenied w s.sec.otpData = true) ∨ (res = 4 ∧ s.burnDenied w s.sec.otpData = false ∧
          ∃ q, digestRegion w = some q ∧ s.finalised q = true))))) → ∃ t, exec (.otpBurn v) s = .next t ∧
      t.sec.otpResult = res ∧ t.sec.otpBusy = none ∧ Frame s t [.sec]) ∧
    (fld v 0 3 = 2 → fld v 24 8 = 0x4F → s.dev.state = .ready → s.flt.factory = false → r ≤ 1 →
      ∃ t, exec (.otpFinalise v) s = .next t ∧ t.sec.otpResult = 2 ∧ t.sec.otpBusy = none ∧ Frame s t [.sec]) ∧
    (fld v 0 3 = 2 → fld v 24 8 = 0x4F → s.dev.state = .ready → r = 3 → s.finalised 3 = false → ∀ k, s.freeSlot 3 = some k →
      ∃ t, exec (.otpFinalise v) s = .next t ∧
        t.sec.otpBusy = some (.finalise 3 (slotWord 3 k) (bytesWords 8 (s.regionDigest 3))) ∧ Frame s t [.sec]) ∧
    (fld v 0 3 = 2 → fld v 24 8 = 0x4F → s.dev.state = .ready → r = 3 → s.finalised 3 = true →
      ∃ t, exec (.otpFinalise v) s = .next t ∧ t.sec.otpResult = 4 ∧ t.sec.otpBusy = none ∧ Frame s t [.sec]) ∧
    (fld v 0 3 = 3 → ∃ t, exec (.otpRead v) s = .next t ∧ t.sec.otpResult = 1 ∧
      t.sec.otpRd = (if w = 110 ∨ (280 ≤ w ∧ w ≤ 287) then 0 else s.otpWord w) ∧ Frame s t [.sec])) ∧
  (∀ (s : State) (v : Word), s.sec.otpBusy ≠ none → (∃ t, exec (.otpBurn v) s = .next t ∧ Frame s t []) ∧
    (∃ t, exec (.otpFinalise v) s = .next t ∧ Frame s t []) ∧ ∃ t, exec (.otpRead v) s = .next t ∧ Frame s t []) ∧
  (∀ (s : State) (w : Nat) (d : Word), w < 512 → s.sec.otpBusy = some (.burn w d) → s.sec.raiseSvn = none →
    (∃ t, exec (.otpOperationDone []) s = .next t ∧ t.otpWord w = s.otpWord w ||| d ∧
      (∀ i, i ≠ w → t.otpWord i = s.otpWord i) ∧ t.sec.otpResult = 1 ∧ t.sec.otpBusy = none ∧
      (∃ e ∈ t.host.openEvents, e.kind = .device ∧ e.typ = 121) ∧ Frame s t [.sec, .host, .log, .ic]) ∧
    ∀ a b : Word, d &&& ~~~s.otpWord w &&& (a ||| b) ≠ 0 → ∃ t, exec (.otpOperationDone [(w, a, b)]) s = .next t ∧
      t.sec.otpResult = 5 ∧ t.sec.otpBusy = none ∧ Frame s t [.sec, .host, .log, .ic]) ∧
  (∀ (s : State) (v : Word),
    (s.live = true → fld v 0 3 = 2 → ∃ t, exec (.attest v) s = .next t ∧ t.sec.attRun = some (wordBytes s.sec.nonce.toList) ∧
      t.sec.attDone = false ∧ Frame s t [.sec]) ∧
    (fld v 0 3 = 4 → fld v 24 8 = 0xD5 → s.dev.state = .ready ∨ s.dev.state = .cocoon → s.debugLock = false → ∃ t, exec (.dbgOpen v) s = .next t ∧
      t.sec.debugOpen = true ∧ Frame s t [.sec]) ∧
    (fld v 0 3 = 4 → fld v 24 8 ≠ 0xD5 ∨ s.debugLock = true ∨ (s.dev.state ≠ .ready ∧ s.dev.state ≠ .cocoon) →
      ∃ t, exec (.dbgOpen v) s = .next t ∧ Frame s t [])) ∧
  ∀ s : State,
    (∀ nonce, s.sec.attRun = some nonce → ∃ t, exec .attestDone s = .next t ∧ t.sec.attDone = true ∧ t.sec.attRun = none ∧
      (∃ sig, sig.length = 64 ∧ .signature sig ∈ t.outbox ∧ ∀ k : Fin 16, t.sec.sig[k] = (bytesWords 16 sig).getD k.val 0) ∧
      Frame s t [.sec]) ∧
    (s.sec.attRun = none → ∃ t, exec .attestDone s = .next t ∧ Frame s t []) ∧
    (∃ t, exec (.debugAccess .scan) s = .next t ∧ .debug true ∈ t.outbox ∧ Frame s t []) ∧
    (∃ t, exec (.debugAccess .extest) s = .next t ∧ .debug s.flt.factory ∈ t.outbox ∧ Frame s t []) ∧
    (s.sec.debugOpen = true ∨ s.flt.factory = true → ∃ t, exec (.debugAccess .core) s = .next t ∧ .debug true ∈ t.outbox ∧
      Frame s t []) ∧
    (s.sec.debugOpen = false → s.flt.factory = false → ∃ t, exec (.debugAccess .core) s = .next t ∧
      .debug false ∈ t.outbox ∧ (s.flt.active.getLsbD 39 = false → t.flt.hit.getLsbD 39 = true))

/-- TRAY_MAP_WRITE (R495). -/
def Obligations.TrayMapsAreWrittenWhole : Prop :=
  (∀ (x : Tray) (n : ChanNo), x.maps n = true ↔
    ∃ j : Fin 5, ∃ i : Fin 32, n.val = 32 * j.val + i.val ∧ (x.map[j]).getLsbD i.val = true) ∧
  ∀ (s : State) (k : Fin 4) (j : Fin 5) (v : Word), s.live = true →
    let twice := ∃ u : Fin 4, u ≠ k ∧ ∃ i : Fin 32, v.getLsbD i.val = true ∧ ((s.sec.trays[u]).map[j]).getLsbD i.val = true
    let moves := ∃ i : Fin 32, ∃ n : ChanNo, n.val = 32 * j.val + i.val ∧
      v.getLsbD i.val ≠ ((s.sec.trays[k]).map[j]).getLsbD i.val ∧ s.chans[n].state ≠ .off
    ∃ t, exec (.trayMapWrite k j v) s = .next t ∧
      (twice ∨ moves → t.sec.trays = s.sec.trays ∧ t.sec.mapRefused = true) ∧
      (¬(twice ∨ moves) → (t.sec.trays[k]).map = (s.sec.trays[k]).map.set j v ∧
        (∀ u : Fin 4, u ≠ k → t.sec.trays[u] = s.sec.trays[u]) ∧ t.sec.mapRefused = s.sec.mapRefused) ∧
      Frame s t [.sec, .ic]

/-- TRAY_REMOVED, TRAY_INSERTED (R496), TAG_RESPONSE_READ (R497). -/
def Obligations.TraysComeGoAndAnswer : Prop :=
  (∀ (s : State) (k : Fin 4),
    ((s.sec.trays[k]).here = true → (s.sec.trays[k]).exch = none → ∃ t, exec (.trayRemoved k) s = .next t ∧
      (t.sec.trays[k]).state = .absent ∧ (t.sec.trays[k]).here = false ∧
      (∀ n : ChanNo, (s.sec.trays[k]).maps n = true → (t.chans[n].estCur.forget).isSome = true ∧
        (s.chans[n].state ∉ [.off, .tripped, .latched] →
          { req := .stop .off .trayRemoved true, due := s.beat.number + 1, cmd := none } ∈ t.chans[n].requests)) ∧
      (∀ n : ChanNo, (s.sec.trays[k]).maps n = false → t.chans[n] = s.chans[n]) ∧
      (∃ e ∈ t.host.openEvents, e.kind = .tray ∧ e.subject = k.val ∧ e.typ = 119) ∧ t.phases = s.phases) ∧
    ((s.sec.trays[k]).here = false → ∃ t, exec (.trayRemoved k) s = .next t ∧ Frame s t [])) ∧
  (∀ (s : State) (k : Fin 4) (serial : Option (List Byte)) (ack : Bool),
    ((s.sec.trays[k]).here = false → bit s.sec.trayCfg (4 + k.val) = false → ∃ t, exec (.trayInserted k serial ack) s = .next t ∧
      (t.sec.trays[k]).state = .present ∧ (t.sec.trays[k]).here = true ∧
      (∃ e ∈ t.host.openEvents, e.kind = .tray ∧ e.subject = k.val ∧ e.typ = 118) ∧
      (∀ p : PhaseNo, ((∀ n : ChanNo, (s.sec.trays[k]).maps n = true → p ∉ s.phasesOf n) → t.phases[p] = s.phases[p]) ∧
        ((∃ n : ChanNo, (s.sec.trays[k]).maps n = true ∧ p ∈ s.phasesOf n) →
          (s.phases[p]).life.contacts < (t.phases[p]).life.contacts)) ∧
      t.chans = s.chans) ∧
    ((s.sec.trays[k]).here = true → ∃ t, exec (.trayInserted k serial ack) s = .next t ∧ Frame s t [])) ∧
  ∀ (s : State) (k : Fin 4) (e : TagExchange) (r : List Byte) (late : Bool), (s.sec.trays[k]).exch = some e → s.host.fetched = [] →
    s.wdt.restarting = false →
    (padTo 16 r = s.tagResponse e.serial e.challenge → ∃ t, exec (.tagResponseRead k (some r) late) s = .next t ∧
      (t.sec.trays[k]).state = .authenticated ∧ (t.sec.trays[k]).exch = none ∧ Frame s t [.sec, .host, .log, .ic]) ∧
    (padTo 16 r ≠ s.tagResponse e.serial e.challenge →
      ∃ t, exec (.tagResponseRead k (some r) late) s = .next t ∧ (t.sec.trays[k]).state = .failed ∧
        (s.flt.active.getLsbD 38 = false → t.flt.hit.getLsbD 38 = true)) ∧
    (∃ t, exec (.tagResponseRead k none false) s = .next t ∧ t.sec.trays = s.sec.trays ∧ Frame s t []) ∧
    (∃ t, exec (.tagResponseRead k none true) s = .next t ∧ (t.sec.trays[k]).state = .failed ∧ (t.sec.trays[k]).last = 3 ∧
      Frame s t [.sec, .host, .log, .ic])


/-- TW_XCTL_GO (R529, R530), TW_TRANSFER_DONE (R529), POLL_PERIOD (R526), POLL_READ_DONE (R527, R528), SCL_TIMEOUT (R523),
SDA_TIMEOUT (R524), ARBITRATION_LOST, ARBITRATION_RETRY (R532), CH_TSENS_WRITE (R525). -/
def Obligations.BusesTransferAndPoll : Prop :=
  (∀ (s : State) (b : Fin 5) (v : Word), s.live = true → bit v 31 = true →
    let w := v &&& 0x3F3F007F#32
    let x := s.tw.bus[busOf b]
    (8 ≤ xAddr w → xAddr w < 0x78 → xWlen w ≤ 48 → xRlen w ≤ 48 → x.hostWait = false → x.job = .idle →
      s.wdt.restarting = false →
      (s.tagLocked (busOf b) w = false → ∃ t, exec (.twXctlGo b v) s = .next t ∧ (t.tw.bus[busOf b]).job = .host ∧
        (t.tw.bus[busOf b]).xrun = w ∧ (t.tw.bus[busOf b]).xres = 1 ∧
        .twWrite b.val (xAddr w) (x.bytes.take (xWlen w)) ∈ t.outbox ∧ Frame s t [.tw]) ∧
      (s.tagLocked (busOf b) w = true → ∃ t, exec (.twXctlGo b v) s = .next t ∧ (t.tw.bus[busOf b]).job = .idle ∧
        fld (t.tw.bus[busOf b]).xres 0 8 = 8 ∧ Frame s t [.tw])) ∧
    (∀ a r, 8 ≤ xAddr w → xAddr w < 0x78 → xWlen w ≤ 48 → xRlen w ≤ 48 → x.hostWait = false → x.job = .poll a r →
      ∃ t, exec (.twXctlGo b v) s = .next t ∧ (t.tw.bus[busOf b]).job = x.job ∧ (t.tw.bus[busOf b]).hostWait = true ∧
        (t.tw.bus[busOf b]).xrun = w ∧ (t.tw.bus[busOf b]).xres = 1 ∧ Frame s t [.tw]) ∧
    (xAddr w < 8 ∨ 0x78 ≤ xAddr w ∨ 48 < xWlen w ∨ 48 < xRlen w ∨ x.hostWait = true ∨ x.job = .host →
      ∃ t, exec (.twXctlGo b v) s = .next t ∧ (t.tw.bus[busOf b]).xres = 9 ∧ (t.tw.bus[busOf b]).stat = x.stat ||| 0x84#32 ∧
        (t.tw.bus[busOf b]).job = x.job ∧ (t.tw.bus[busOf b]).xrun = x.xrun ∧ Frame s t [.tw])) ∧
  (∀ (s : State) (b : Fin 5) (k : Nat) (rd : List Byte), (s.tw.bus[busOf b]).job = .host → (s.tw.bus[busOf b]).due = [] →
    (s.tw.bus[busOf b]).late = false →
    (∃ t, exec (.twTransferDone b 2 k rd) s = .next t ∧ (t.tw.bus[busOf b]).xres = 2 ∧ (t.tw.bus[busOf b]).job = .idle ∧
      (t.tw.bus[busOf b]).bytes.take (min (xRlen (s.tw.bus[busOf b]).xrun) (min 48 rd.length)) =
        rd.take (min (xRlen (s.tw.bus[busOf b]).xrun) (min 48 rd.length)) ∧
      (t.tw.bus[busOf b]).stat = (s.tw.bus[busOf b]).stat ||| 0x80#32 ∧ Frame s t [.tw]) ∧
    (k < 256 → ∃ t, exec (.twTransferDone b 4 k rd) s = .next t ∧ (t.tw.bus[busOf b]).xres = at_ k 24 ||| at_ 4 0 ∧
      (t.tw.bus[busOf b]).job = .idle ∧ (t.tw.bus[busOf b]).stat = (s.tw.bus[busOf b]).stat ||| 0x84#32 ∧
      (t.tw.bus[busOf b]).xbuf = (s.tw.bus[busOf b]).xbuf ∧ Frame s t [.tw]) ∧
    (∀ res, res = 3 ∨ res = 7 → ∃ t, exec (.twTransferDone b res k rd) s = .next t ∧ (t.tw.bus[busOf b]).xres = at_ res 0 ∧
      (t.tw.bus[busOf b]).job = .idle ∧ (t.tw.bus[busOf b]).xbuf = (s.tw.bus[busOf b]).xbuf ∧ Frame s t [.tw])) ∧
  (∀ (s : State) (b : Fin 4) (a r : Nat) (rest : List (Nat × Nat)), s.wdt.restarting = false →
    let x := s.tw.bus[trayBus b]
    (s.pairsOf b.val = (a, r) :: rest → x.job = .idle → x.due = [] → x.hostWait = false → ∃ t, exec (.pollPeriod b) s = .next t ∧
      (t.tw.bus[trayBus b]).job = .poll a r ∧ (t.tw.bus[trayBus b]).due = rest ∧ .twRead b.val a 2 ∈ t.outbox ∧ Frame s t [.tw]) ∧
    (s.pairsOf b.val ≠ [] → x.due ≠ [] → ∃ t, exec (.pollPeriod b) s = .next t ∧ (t.tw.bus[trayBus b]).due = x.due ∧
      (t.tw.bus[trayBus b]).stat = x.stat ||| 0x10#32 ∧ (t.tw.bus[trayBus b]).late = true ∧ Frame s t [.tw]) ∧
    (s.pairsOf b.val = [] → ∃ t, exec (.pollPeriod b) s = .next t ∧ Frame s t []) ∧
    (∀ (w : BitVec 16) (n : ChanNo) (y : Int), x.job = .poll a r → (s.chans[n].temp).pair b.val = some (a, r) →
      (s.chans[n].temp).oldRead = false → fld (s.chans[n].temp).map 0 2 < 3 → sensorValue (fld (s.chans[n].temp).map 0 2) w = some y →
      ∃ t, exec (.pollReadDone b (some w)) s = .next t ∧ (t.chans[n].temp).value = y ∧ (t.chans[n].temp).age = 0 ∧
        (t.chans[n].temp).failing = false ∧ (∀ m : ChanNo, (s.chans[m].temp).pair b.val ≠ some (a, r) → t.chans[m] = s.chans[m]) ∧
        Frame s t [.tw, .chans, .host]) ∧
    (x.job = .poll a r → ∃ t, exec (.pollReadDone b none) s = .next t ∧
      (∀ m : ChanNo, (t.chans[m].temp).value = (s.chans[m].temp).value ∧ (t.chans[m].temp).map = (s.chans[m].temp).map) ∧
      Frame s t [.tw, .chans, .host])) ∧
  (∀ (s : State) (b : Fin 5), s.coreUp = true →
    ((s.tw.bus[busOf b]).job = .host → (s.tw.bus[busOf b]).due = [] → (s.tw.bus[busOf b]).late = false →
      (∀ k : Fin 4, (s.sec.trays[k]).exch = none) →
      ∃ t, exec (.sclTimeout (busOf b)) s = .next t ∧ fld (t.tw.bus[busOf b]).xres 0 8 = 6 ∧
        (t.tw.bus[busOf b]).job = .idle ∧ (∃ e ∈ t.host.openEvents, e.kind = .device ∧ e.typ = 96) ∧ Frame s t [.tw, .host]) ∧
    ((s.tw.bus[busOf b]).job = .idle → (∀ k : Fin 4, (s.sec.trays[k]).exch = none) →
      ∃ t, exec (.sdaTimeout (busOf b) true) s = .next t ∧ (t.tw.bus[busOf b]).stat = (s.tw.bus[busOf b]).stat ||| 2 ∧
        .twBusClear b.val ∈ t.outbox ∧ Frame s t [.tw, .host]) ∧
    ((s.tw.bus[busOf b]).job = .idle → (s.tw.bus[busOf b]).hostWait = false → (∀ k : Fin 4, (s.sec.trays[k]).exch = none) →
      ∃ t, exec (.sdaTimeout (busOf b) false) s = .next t ∧ (t.tw.bus[busOf b]).stat = (s.tw.bus[busOf b]).stat ||| 0x22#32 ∧
        .twBusClear b.val ∈ t.outbox ∧ Frame s t [.tw, .host]) ∧
    (∀ c : Bool, (s.tw.bus[(5 : Fin 6)]).job = .idle → ∃ t, exec (.sdaTimeout 5 c) s = .next t ∧
      (t.tw.bus[(5 : Fin 6)]).stat = (s.tw.bus[(5 : Fin 6)]).stat ||| 2 ∧ Frame s t [.tw, .host]) ∧
    ((s.tw.bus[busOf b]).job ≠ .idle → ∃ t, exec (.sdaTimeout (busOf b) true) s = .next t ∧ Frame s t [])) ∧
  (∀ s : State, let x := s.tw.bus[(4 : Fin 6)]
    (x.job = .host → x.lost + 1 < 8 → ∃ t, exec .arbitrationLost s = .next t ∧ (t.tw.bus[(4 : Fin 6)]).lost = x.lost + 1 ∧
      (t.tw.bus[(4 : Fin 6)]).hostWait = true ∧ (t.tw.bus[(4 : Fin 6)]).job = .idle ∧ Frame s t [.tw]) ∧
    (x.job = .host → 8 ≤ x.lost + 1 → ∃ t, exec .arbitrationLost s = .next t ∧ fld (t.tw.bus[(4 : Fin 6)]).xres 0 8 = 5 ∧
      (t.tw.bus[(4 : Fin 6)]).job = .idle ∧ (t.tw.bus[(4 : Fin 6)]).hostWait = false ∧ Frame s t [.tw, .host]) ∧
    (x.job = .idle → x.hostWait = true → s.wdt.restarting = false → ∃ t, exec .arbitrationRetry s = .next t ∧
      (t.tw.bus[(4 : Fin 6)]).job = .host ∧ (t.tw.bus[(4 : Fin 6)]).hostWait = false ∧ Frame s t [.tw])) ∧
  ∀ (s : State) (n : ChanNo) (v : Word), s.live = true →
    (fld v 0 2 ≠ 3 → s.isConf n = true → ∃ t, exec (.chTsensWrite n v) s = .next t ∧
      (t.chans[n].temp).map = v &&& 0x837FFF03#32 ∧ (t.chans[n].temp).value = -32768 ∧
      (∀ m, m ≠ n → t.chans[m] = s.chans[m]) ∧ Frame s t [.chans, .tw] ∧
      (∀ b : Fin 4, bit v 31 = true → fld v 24 2 = b.val → s.pairsOf b.val = [] → (s.tw.bus[trayBus b]).job = .idle →
        (s.tw.bus[trayBus b]).due = [] → (s.tw.bus[trayBus b]).hostWait = false → s.wdt.restarting = false →
        (t.tw.bus[trayBus b]).job = .poll (fld v 16 7) (fld v 8 8))) ∧
    (fld v 0 2 = 3 ∨ s.isConf n = false → ∃ t, exec (.chTsensWrite n v) s = .next t ∧ Frame s t [])

/-- POINTER_FRAME, WRITE_FRAME (R535, R537, R533), READ_WORD (R536). -/
def Obligations.TargetPortsAnswer : Prop :=
  (∀ (s : State) (svc stop : Bool) (off : Nat),
    (s.targetUp = true → ∃ t, exec (.pointerFrame svc off stop) s = .next t ∧ (t.target svc).ptr = off % 2 ^ 24 ∧
      t.target (!svc) = s.target (!svc) ∧ (stop = false → (t.target svc).result = (s.target svc).result) ∧
      (stop = true → (t.target svc).result = if off % 4 ≠ 0 ∨ 0x40000 ≤ off % 2 ^ 24 then 2 else 0) ∧ Frame s t [.tw]) ∧
    (s.targetUp = false → (∃ t, exec (.pointerFrame svc off stop) s = .next t ∧ Frame s t []) ∧
      ∃ t, exec (.readWord svc stop) s = .next t ∧ Frame s t [])) ∧
  (∀ (s : State) (bs : List Byte) (cyc n : Nat), s.targetUp = true → 1 ≤ n → n ≤ 8 → bs.length = 4 * n + 4 →
    let off := getLe bs 0 3
    let good := crc8 (s.targetAddr false :: bs.dropLast) = bs.getLastD 0
    let inBox := off % 4 = 0 ∧ 0xA200 ≤ off ∧ off + 4 * n ≤ 0xA220
    (good → inBox → s.dev.state ≠ .cocoon → bit (s.tw.bus[(4 : Fin 6)]).stat 8 = false →
      ∃ t, exec (.writeFrame false bs true cyc) s = .next t ∧ t.tw.board.result = 0 ∧
        (∀ k : Fin 8, (off - 0xA200) / 4 ≤ k.val → k.val < (off - 0xA200) / 4 + n →
          t.tw.mbox[k] = BitVec.ofNat 32 (getLe bs (3 + 4 * (k.val - (off - 0xA200) / 4)) 4)) ∧
        (∀ k : Fin 8, k.val < (off - 0xA200) / 4 ∨ (off - 0xA200) / 4 + n ≤ k.val → t.tw.mbox[k] = s.tw.mbox[k]) ∧
        bit (t.tw.bus[(4 : Fin 6)]).stat 8 = true ∧ t.tw.mboxLast = (off - 0xA200) / 4 + n - 1 ∧
        (∃ e ∈ t.host.openEvents, e.kind = .device ∧ e.typ = 98) ∧ Frame s t [.tw, .host]) ∧
    (¬good → ∃ t, exec (.writeFrame false bs true cyc) s = .next t ∧ t.tw.board.result = 1 ∧ t.tw.mbox = s.tw.mbox ∧
      Frame s t [.tw]) ∧
    (good → off % 4 = 0 → off + 4 * n ≤ 0x40000 → off < 0xA200 → ∃ t, exec (.writeFrame false bs true cyc) s = .next t ∧
      t.tw.board.result = 3 ∧ t.tw.mbox = s.tw.mbox ∧ Frame s t [.tw]) ∧
    (good → inBox → s.dev.state ≠ .cocoon → bit (s.tw.bus[(4 : Fin 6)]).stat 8 = true →
      ∃ t, exec (.writeFrame false bs true cyc) s = .next t ∧ t.tw.board.result = 5 ∧ t.tw.mbox = s.tw.mbox ∧ Frame s t [.tw]) ∧
    (∃ t, exec (.writeFrame false bs false cyc) s = .next t ∧ t.tw.board.result = 4 ∧ t.tw.mbox = s.tw.mbox ∧
      t.tw.board.frames = s.tw.board.frames ∧ Frame s t [.tw])) ∧
  ∀ (s : State) (svc first : Bool), s.targetUp = true → (s.target svc).ptr % 4 ≠ 0 →
    let p := (s.target svc).ptr
    let status := if first then [byte ((s.target svc).frames * 16 + (s.target svc).result)] else []
    ∃ t, exec (.readWord svc first) s = .next t ∧ (t.target svc).ptr = (p + 4) % 2 ^ 24 ∧
      (∃ l, t.outbox = s.outbox ++ (status ++ byte p :: leBytes 4 0 ++ [crc8 (leBytes 3 p ++ leBytes 4 0)]).map .svcByte ++ l) ∧ Frame s t [.tw]

/-- REGISTER_WRITE (R12, R13). -/
def Obligations.RegisterWritesActOnTheirWord : Prop :=
  (∀ (s : State) (off cyc : Nat) (v : Word),
    (∀ width, off % 4 ≠ 0 ∨ width < 4 → ∃ t, exec (.registerWrite off v cyc width) s = .next t ∧ Frame s t []) ∧
    (s.live = true → 0x1A000 ≤ off → off < 0x20000 → ∃ t, exec (.registerWrite off v cyc 4) s = .next t ∧ Frame s t []) ∧
    (s.dev.state = .powerup ∨ s.dev.state = .otpHold → ∃ t, exec (.registerWrite off v cyc 4) s = .next t ∧ Frame s t [])) ∧
  (∀ (s : State) (cyc : Nat) (n : ChanNo) (v : Word), s.live = true →
    (s.isConf n = true → ∃ t, exec (.registerWrite (0x10000 + 256 * n.val + 0x14) v cyc 4) s = .next t ∧
      t.chans[n] = { s.chans[n] with staged := { s.chans[n].staged with setI := v } } ∧
      (∀ m, m ≠ n → t.chans[m] = s.chans[m]) ∧ Frame s t [.chans]) ∧
    (s.isConf n = false → ∃ t, exec (.registerWrite (0x10000 + 256 * n.val + 0x14) v cyc 4) s = .next t ∧ Frame s t [])) ∧
  (∀ (s : State) (cyc : Nat) (p : PhaseNo) (v : Word), s.live = true →
    ∃ t, exec (.registerWrite (0x20000 + 256 * p.val + 0x5C) v cyc 4) s = .next t ∧
      t.phases[p] = { s.phases[p] with staged := { s.phases[p].staged with gang := v &&& 7#32 } } ∧
      (∀ q, q ≠ p → t.phases[q] = s.phases[q]) ∧ Frame s t [.phases]) ∧
  ∀ (s : State) (cyc : Nat) (v : Word), s.live = true →
    ∃ t, exec (.registerWrite 0x400 v cyc 4) s = .next t ∧ t.gov.budget = v ∧ Frame s t [.gov]


/-- The group of a phase (R5). -/
def Obligations.PhasesBelongToGroups : Prop :=
  ∀ n : PhaseNo, (groupOf n).val = n.val / 16 ∧
    ∀ g : GroupNo, groupOf n = g ↔ 16 * g.val ≤ n.val ∧ n.val ≤ 16 * g.val + 15

/-- The admission limit (R37). -/
def Obligations.AdmissionLimit : Prop :=
  ∀ b : BeatUnit, b.limit = 500 * (b.engines.length - 1) ∧ (b.engines.length = 18 → b.limit = 8500) ∧
    (b.engines.length = 17 → b.limit = 8000)

/-- REGISTER_WRITE of the calendar registers and RTC_LOAD (R406). -/
def Obligations.CalendarIsSetWhole : Prop :=
  (∀ (s : State) (k cyc : Nat) (v : Word), s.live = true → k < 7 →
    ∃ t, exec (.registerWrite (0x9000 + 4 * k) v cyc 4) s = .next t ∧ t.rtc.setBuf = s.rtc.setBuf.put (4 * k) v ∧
      t.rtc.now = s.rtc.now ∧ t.rtc.valid = s.rtc.valid ∧ Frame s t [.rtc]) ∧
  (∀ (s : State) (v : Word), s.live = true → bit v 0 = true →
    (s.rtc.setBuf.ok = true → ∃ t, exec (.rtcLoad v) s = .next t ∧ t.rtc.now = s.rtc.setBuf ∧ t.rtc.valid = true ∧
      AgesOnly s t ∧ Frame s t [.rtc, .groups]) ∧
    (s.rtc.setBuf.ok = false → ∃ t, exec (.rtcLoad v) s = .next t ∧ t.rtc.now = s.rtc.now ∧ t.rtc.valid = s.rtc.valid ∧
      t.rtc.setRefused = true ∧ Frame s t [.rtc])) ∧
  ∀ c : Cal, (c.ok = true ↔ c.sub ≤ 32767 ∧ c.sec ≤ 59 ∧ c.min ≤ 59 ∧ c.hour ≤ 23 ∧ 1 ≤ c.month ∧ c.month ≤ 12 ∧
      2000 ≤ c.year ∧ c.year ≤ 2199 ∧ 1 ≤ c.day ∧ c.day ≤ monthDays c.year c.month) ∧
    (c.year = 2031 → c.month = 2 → c.day = 29 → c.ok = false) ∧ (c.month = 13 → c.ok = false)
end

