-- ==== Sys2Proof/Laws/State.lean ====
section
/-!
SUPPORT. What each named update of State does to each field, once and for all: a later proof unfolds no record update.
-/
namespace Sys2Proof.Laws
open Sys2Proof.Machine

variable (s : State)


/-! ### modPhase -/

@[simp] theorem modPhase_beat (n : PhaseNo) (f : Phase → Phase) : (s.modPhase n f).beat = s.beat := rfl
@[simp] theorem modPhase_phases (n : PhaseNo) (f : Phase → Phase) : (s.modPhase n f).phases = s.phases.set n (f s.phases[n]) := rfl
@[simp] theorem modPhase_chans (n : PhaseNo) (f : Phase → Phase) : (s.modPhase n f).chans = s.chans := rfl
@[simp] theorem modPhase_groups (n : PhaseNo) (f : Phase → Phase) : (s.modPhase n f).groups = s.groups := rfl
@[simp] theorem modPhase_lane (n : PhaseNo) (f : Phase → Phase) : (s.modPhase n f).lane = s.lane := rfl
@[simp] theorem modPhase_gov (n : PhaseNo) (f : Phase → Phase) : (s.modPhase n f).gov = s.gov := rfl
@[simp] theorem modPhase_met (n : PhaseNo) (f : Phase → Phase) : (s.modPhase n f).met = s.met := rfl
@[simp] theorem modPhase_store (n : PhaseNo) (f : Phase → Phase) : (s.modPhase n f).store = s.store := rfl
@[simp] theorem modPhase_host (n : PhaseNo) (f : Phase → Phase) : (s.modPhase n f).host = s.host := rfl
@[simp] theorem modPhase_tel (n : PhaseNo) (f : Phase → Phase) : (s.modPhase n f).tel = s.tel := rfl
@[simp] theorem modPhase_dom (n : PhaseNo) (f : Phase → Phase) : (s.modPhase n f).dom = s.dom := rfl
@[simp] theorem modPhase_links (n : PhaseNo) (f : Phase → Phase) : (s.modPhase n f).links = s.links := rfl
@[simp] theorem modPhase_hold (n : PhaseNo) (f : Phase → Phase) : (s.modPhase n f).hold = s.hold := rfl
@[simp] theorem modPhase_saves (n : PhaseNo) (f : Phase → Phase) : (s.modPhase n f).saves = s.saves := rfl
@[simp] theorem modPhase_rtc (n : PhaseNo) (f : Phase → Phase) : (s.modPhase n f).rtc = s.rtc := rfl
@[simp] theorem modPhase_seq (n : PhaseNo) (f : Phase → Phase) : (s.modPhase n f).seq = s.seq := rfl
@[simp] theorem modPhase_dev (n : PhaseNo) (f : Phase → Phase) : (s.modPhase n f).dev = s.dev := rfl
@[simp] theorem modPhase_flt (n : PhaseNo) (f : Phase → Phase) : (s.modPhase n f).flt = s.flt := rfl
@[simp] theorem modPhase_ic (n : PhaseNo) (f : Phase → Phase) : (s.modPhase n f).ic = s.ic := rfl
@[simp] theorem modPhase_wdt (n : PhaseNo) (f : Phase → Phase) : (s.modPhase n f).wdt = s.wdt := rfl
@[simp] theorem modPhase_sec (n : PhaseNo) (f : Phase → Phase) : (s.modPhase n f).sec = s.sec := rfl
@[simp] theorem modPhase_tw (n : PhaseNo) (f : Phase → Phase) : (s.modPhase n f).tw = s.tw := rfl
@[simp] theorem modPhase_log (n : PhaseNo) (f : Phase → Phase) : (s.modPhase n f).log = s.log := rfl
@[simp] theorem modPhase_freeCount (n : PhaseNo) (f : Phase → Phase) : (s.modPhase n f).freeCount = s.freeCount := rfl
@[simp] theorem modPhase_outbox (n : PhaseNo) (f : Phase → Phase) : (s.modPhase n f).outbox = s.outbox := rfl
@[simp] theorem modPhase_pending (n : PhaseNo) (f : Phase → Phase) : (s.modPhase n f).pending = s.pending := rfl

/-! ### modChan -/

@[simp] theorem modChan_beat (n : ChanNo) (f : Chan → Chan) : (s.modChan n f).beat = s.beat := rfl
@[simp] theorem modChan_phases (n : ChanNo) (f : Chan → Chan) : (s.modChan n f).phases = s.phases := rfl
@[simp] theorem modChan_chans (n : ChanNo) (f : Chan → Chan) : (s.modChan n f).chans = s.chans.set n (f s.chans[n]) := rfl
@[simp] theorem modChan_groups (n : ChanNo) (f : Chan → Chan) : (s.modChan n f).groups = s.groups := rfl
@[simp] theorem modChan_lane (n : ChanNo) (f : Chan → Chan) : (s.modChan n f).lane = s.lane := rfl
@[simp] theorem modChan_gov (n : ChanNo) (f : Chan → Chan) : (s.modChan n f).gov = s.gov := rfl
@[simp] theorem modChan_met (n : ChanNo) (f : Chan → Chan) : (s.modChan n f).met = s.met := rfl
@[simp] theorem modChan_store (n : ChanNo) (f : Chan → Chan) : (s.modChan n f).store = s.store := rfl
@[simp] theorem modChan_host (n : ChanNo) (f : Chan → Chan) : (s.modChan n f).host = s.host := rfl
@[simp] theorem modChan_tel (n : ChanNo) (f : Chan → Chan) : (s.modChan n f).tel = s.tel := rfl
@[simp] theorem modChan_dom (n : ChanNo) (f : Chan → Chan) : (s.modChan n f).dom = s.dom := rfl
@[simp] theorem modChan_links (n : ChanNo) (f : Chan → Chan) : (s.modChan n f).links = s.links := rfl
@[simp] theorem modChan_hold (n : ChanNo) (f : Chan → Chan) : (s.modChan n f).hold = s.hold := rfl
@[simp] theorem modChan_saves (n : ChanNo) (f : Chan → Chan) : (s.modChan n f).saves = s.saves := rfl
@[simp] theorem modChan_rtc (n : ChanNo) (f : Chan → Chan) : (s.modChan n f).rtc = s.rtc := rfl
@[simp] theorem modChan_seq (n : ChanNo) (f : Chan → Chan) : (s.modChan n f).seq = s.seq := rfl
@[simp] theorem modChan_dev (n : ChanNo) (f : Chan → Chan) : (s.modChan n f).dev = s.dev := rfl
@[simp] theorem modChan_flt (n : ChanNo) (f : Chan → Chan) : (s.modChan n f).flt = s.flt := rfl
@[simp] theorem modChan_ic (n : ChanNo) (f : Chan → Chan) : (s.modChan n f).ic = s.ic := rfl
@[simp] theorem modChan_wdt (n : ChanNo) (f : Chan → Chan) : (s.modChan n f).wdt = s.wdt := rfl
@[simp] theorem modChan_sec (n : ChanNo) (f : Chan → Chan) : (s.modChan n f).sec = s.sec := rfl
@[simp] theorem modChan_tw (n : ChanNo) (f : Chan → Chan) : (s.modChan n f).tw = s.tw := rfl
@[simp] theorem modChan_log (n : ChanNo) (f : Chan → Chan) : (s.modChan n f).log = s.log := rfl
@[simp] theorem modChan_freeCount (n : ChanNo) (f : Chan → Chan) : (s.modChan n f).freeCount = s.freeCount := rfl
@[simp] theorem modChan_outbox (n : ChanNo) (f : Chan → Chan) : (s.modChan n f).outbox = s.outbox := rfl
@[simp] theorem modChan_pending (n : ChanNo) (f : Chan → Chan) : (s.modChan n f).pending = s.pending := rfl

/-! ### modGroup -/

@[simp] theorem modGroup_beat (n : GroupNo) (f : Group → Group) : (s.modGroup n f).beat = s.beat := rfl
@[simp] theorem modGroup_phases (n : GroupNo) (f : Group → Group) : (s.modGroup n f).phases = s.phases := rfl
@[simp] theorem modGroup_chans (n : GroupNo) (f : Group → Group) : (s.modGroup n f).chans = s.chans := rfl
@[simp] theorem modGroup_groups (n : GroupNo) (f : Group → Group) : (s.modGroup n f).groups = s.groups.set n (f s.groups[n]) := rfl
@[simp] theorem modGroup_lane (n : GroupNo) (f : Group → Group) : (s.modGroup n f).lane = s.lane := rfl
@[simp] theorem modGroup_gov (n : GroupNo) (f : Group → Group) : (s.modGroup n f).gov = s.gov := rfl
@[simp] theorem modGroup_met (n : GroupNo) (f : Group → Group) : (s.modGroup n f).met = s.met := rfl
@[simp] theorem modGroup_store (n : GroupNo) (f : Group → Group) : (s.modGroup n f).store = s.store := rfl
@[simp] theorem modGroup_host (n : GroupNo) (f : Group → Group) : (s.modGroup n f).host = s.host := rfl
@[simp] theorem modGroup_tel (n : GroupNo) (f : Group → Group) : (s.modGroup n f).tel = s.tel := rfl
@[simp] theorem modGroup_dom (n : GroupNo) (f : Group → Group) : (s.modGroup n f).dom = s.dom := rfl
@[simp] theorem modGroup_links (n : GroupNo) (f : Group → Group) : (s.modGroup n f).links = s.links := rfl
@[simp] theorem modGroup_hold (n : GroupNo) (f : Group → Group) : (s.modGroup n f).hold = s.hold := rfl
@[simp] theorem modGroup_saves (n : GroupNo) (f : Group → Group) : (s.modGroup n f).saves = s.saves := rfl
@[simp] theorem modGroup_rtc (n : GroupNo) (f : Group → Group) : (s.modGroup n f).rtc = s.rtc := rfl
@[simp] theorem modGroup_seq (n : GroupNo) (f : Group → Group) : (s.modGroup n f).seq = s.seq := rfl
@[simp] theorem modGroup_dev (n : GroupNo) (f : Group → Group) : (s.modGroup n f).dev = s.dev := rfl
@[simp] theorem modGroup_flt (n : GroupNo) (f : Group → Group) : (s.modGroup n f).flt = s.flt := rfl
@[simp] theorem modGroup_ic (n : GroupNo) (f : Group → Group) : (s.modGroup n f).ic = s.ic := rfl
@[simp] theorem modGroup_wdt (n : GroupNo) (f : Group → Group) : (s.modGroup n f).wdt = s.wdt := rfl
@[simp] theorem modGroup_sec (n : GroupNo) (f : Group → Group) : (s.modGroup n f).sec = s.sec := rfl
@[simp] theorem modGroup_tw (n : GroupNo) (f : Group → Group) : (s.modGroup n f).tw = s.tw := rfl
@[simp] theorem modGroup_log (n : GroupNo) (f : Group → Group) : (s.modGroup n f).log = s.log := rfl
@[simp] theorem modGroup_freeCount (n : GroupNo) (f : Group → Group) : (s.modGroup n f).freeCount = s.freeCount := rfl
@[simp] theorem modGroup_outbox (n : GroupNo) (f : Group → Group) : (s.modGroup n f).outbox = s.outbox := rfl
@[simp] theorem modGroup_pending (n : GroupNo) (f : Group → Group) : (s.modGroup n f).pending = s.pending := rfl

/-! ### modBeat -/

@[simp] theorem modBeat_beat (f : BeatUnit → BeatUnit) : (s.modBeat f).beat = f s.beat := rfl
@[simp] theorem modBeat_phases (f : BeatUnit → BeatUnit) : (s.modBeat f).phases = s.phases := rfl
@[simp] theorem modBeat_chans (f : BeatUnit → BeatUnit) : (s.modBeat f).chans = s.chans := rfl
@[simp] theorem modBeat_groups (f : BeatUnit → BeatUnit) : (s.modBeat f).groups = s.groups := rfl
@[simp] theorem modBeat_lane (f : BeatUnit → BeatUnit) : (s.modBeat f).lane = s.lane := rfl
@[simp] theorem modBeat_gov (f : BeatUnit → BeatUnit) : (s.modBeat f).gov = s.gov := rfl
@[simp] theorem modBeat_met (f : BeatUnit → BeatUnit) : (s.modBeat f).met = s.met := rfl
@[simp] theorem modBeat_store (f : BeatUnit → BeatUnit) : (s.modBeat f).store = s.store := rfl
@[simp] theorem modBeat_host (f : BeatUnit → BeatUnit) : (s.modBeat f).host = s.host := rfl
@[simp] theorem modBeat_tel (f : BeatUnit → BeatUnit) : (s.modBeat f).tel = s.tel := rfl
@[simp] theorem modBeat_dom (f : BeatUnit → BeatUnit) : (s.modBeat f).dom = s.dom := rfl
@[simp] theorem modBeat_links (f : BeatUnit → BeatUnit) : (s.modBeat f).links = s.links := rfl
@[simp] theorem modBeat_hold (f : BeatUnit → BeatUnit) : (s.modBeat f).hold = s.hold := rfl
@[simp] theorem modBeat_saves (f : BeatUnit → BeatUnit) : (s.modBeat f).saves = s.saves := rfl
@[simp] theorem modBeat_rtc (f : BeatUnit → BeatUnit) : (s.modBeat f).rtc = s.rtc := rfl
@[simp] theorem modBeat_seq (f : BeatUnit → BeatUnit) : (s.modBeat f).seq = s.seq := rfl
@[simp] theorem modBeat_dev (f : BeatUnit → BeatUnit) : (s.modBeat f).dev = s.dev := rfl
@[simp] theorem modBeat_flt (f : BeatUnit → BeatUnit) : (s.modBeat f).flt = s.flt := rfl
@[simp] theorem modBeat_ic (f : BeatUnit → BeatUnit) : (s.modBeat f).ic = s.ic := rfl
@[simp] theorem modBeat_wdt (f : BeatUnit → BeatUnit) : (s.modBeat f).wdt = s.wdt := rfl
@[simp] theorem modBeat_sec (f : BeatUnit → BeatUnit) : (s.modBeat f).sec = s.sec := rfl
@[simp] theorem modBeat_tw (f : BeatUnit → BeatUnit) : (s.modBeat f).tw = s.tw := rfl
@[simp] theorem modBeat_log (f : BeatUnit → BeatUnit) : (s.modBeat f).log = s.log := rfl
@[simp] theorem modBeat_freeCount (f : BeatUnit → BeatUnit) : (s.modBeat f).freeCount = s.freeCount := rfl
@[simp] theorem modBeat_outbox (f : BeatUnit → BeatUnit) : (s.modBeat f).outbox = s.outbox := rfl
@[simp] theorem modBeat_pending (f : BeatUnit → BeatUnit) : (s.modBeat f).pending = s.pending := rfl

/-! ### modHost -/

@[simp] theorem modHost_beat (f : HostIf → HostIf) : (s.modHost f).beat = s.beat := rfl
@[simp] theorem modHost_phases (f : HostIf → HostIf) : (s.modHost f).phases = s.phases := rfl
@[simp] theorem modHost_chans (f : HostIf → HostIf) : (s.modHost f).chans = s.chans := rfl
@[simp] theorem modHost_groups (f : HostIf → HostIf) : (s.modHost f).groups = s.groups := rfl
@[simp] theorem modHost_lane (f : HostIf → HostIf) : (s.modHost f).lane = s.lane := rfl
@[simp] theorem modHost_gov (f : HostIf → HostIf) : (s.modHost f).gov = s.gov := rfl
@[simp] theorem modHost_met (f : HostIf → HostIf) : (s.modHost f).met = s.met := rfl
@[simp] theorem modHost_store (f : HostIf → HostIf) : (s.modHost f).store = s.store := rfl
@[simp] theorem modHost_host (f : HostIf → HostIf) : (s.modHost f).host = f s.host := rfl
@[simp] theorem modHost_tel (f : HostIf → HostIf) : (s.modHost f).tel = s.tel := rfl
@[simp] theorem modHost_dom (f : HostIf → HostIf) : (s.modHost f).dom = s.dom := rfl
@[simp] theorem modHost_links (f : HostIf → HostIf) : (s.modHost f).links = s.links := rfl
@[simp] theorem modHost_hold (f : HostIf → HostIf) : (s.modHost f).hold = s.hold := rfl
@[simp] theorem modHost_saves (f : HostIf → HostIf) : (s.modHost f).saves = s.saves := rfl
@[simp] theorem modHost_rtc (f : HostIf → HostIf) : (s.modHost f).rtc = s.rtc := rfl
@[simp] theorem modHost_seq (f : HostIf → HostIf) : (s.modHost f).seq = s.seq := rfl
@[simp] theorem modHost_dev (f : HostIf → HostIf) : (s.modHost f).dev = s.dev := rfl
@[simp] theorem modHost_flt (f : HostIf → HostIf) : (s.modHost f).flt = s.flt := rfl
@[simp] theorem modHost_ic (f : HostIf → HostIf) : (s.modHost f).ic = s.ic := rfl
@[simp] theorem modHost_wdt (f : HostIf → HostIf) : (s.modHost f).wdt = s.wdt := rfl
@[simp] theorem modHost_sec (f : HostIf → HostIf) : (s.modHost f).sec = s.sec := rfl
@[simp] theorem modHost_tw (f : HostIf → HostIf) : (s.modHost f).tw = s.tw := rfl
@[simp] theorem modHost_log (f : HostIf → HostIf) : (s.modHost f).log = s.log := rfl
@[simp] theorem modHost_freeCount (f : HostIf → HostIf) : (s.modHost f).freeCount = s.freeCount := rfl
@[simp] theorem modHost_outbox (f : HostIf → HostIf) : (s.modHost f).outbox = s.outbox := rfl
@[simp] theorem modHost_pending (f : HostIf → HostIf) : (s.modHost f).pending = s.pending := rfl

/-! ### modHold -/

@[simp] theorem modHold_beat (f : Holdup → Holdup) : (s.modHold f).beat = s.beat := rfl
@[simp] theorem modHold_phases (f : Holdup → Holdup) : (s.modHold f).phases = s.phases := rfl
@[simp] theorem modHold_chans (f : Holdup → Holdup) : (s.modHold f).chans = s.chans := rfl
@[simp] theorem modHold_groups (f : Holdup → Holdup) : (s.modHold f).groups = s.groups := rfl
@[simp] theorem modHold_lane (f : Holdup → Holdup) : (s.modHold f).lane = s.lane := rfl
@[simp] theorem modHold_gov (f : Holdup → Holdup) : (s.modHold f).gov = s.gov := rfl
@[simp] theorem modHold_met (f : Holdup → Holdup) : (s.modHold f).met = s.met := rfl
@[simp] theorem modHold_store (f : Holdup → Holdup) : (s.modHold f).store = s.store := rfl
@[simp] theorem modHold_host (f : Holdup → Holdup) : (s.modHold f).host = s.host := rfl
@[simp] theorem modHold_tel (f : Holdup → Holdup) : (s.modHold f).tel = s.tel := rfl
@[simp] theorem modHold_dom (f : Holdup → Holdup) : (s.modHold f).dom = s.dom := rfl
@[simp] theorem modHold_links (f : Holdup → Holdup) : (s.modHold f).links = s.links := rfl
@[simp] theorem modHold_hold (f : Holdup → Holdup) : (s.modHold f).hold = f s.hold := rfl
@[simp] theorem modHold_saves (f : Holdup → Holdup) : (s.modHold f).saves = s.saves := rfl
@[simp] theorem modHold_rtc (f : Holdup → Holdup) : (s.modHold f).rtc = s.rtc := rfl
@[simp] theorem modHold_seq (f : Holdup → Holdup) : (s.modHold f).seq = s.seq := rfl
@[simp] theorem modHold_dev (f : Holdup → Holdup) : (s.modHold f).dev = s.dev := rfl
@[simp] theorem modHold_flt (f : Holdup → Holdup) : (s.modHold f).flt = s.flt := rfl
@[simp] theorem modHold_ic (f : Holdup → Holdup) : (s.modHold f).ic = s.ic := rfl
@[simp] theorem modHold_wdt (f : Holdup → Holdup) : (s.modHold f).wdt = s.wdt := rfl
@[simp] theorem modHold_sec (f : Holdup → Holdup) : (s.modHold f).sec = s.sec := rfl
@[simp] theorem modHold_tw (f : Holdup → Holdup) : (s.modHold f).tw = s.tw := rfl
@[simp] theorem modHold_log (f : Holdup → Holdup) : (s.modHold f).log = s.log := rfl
@[simp] theorem modHold_freeCount (f : Holdup → Holdup) : (s.modHold f).freeCount = s.freeCount := rfl
@[simp] theorem modHold_outbox (f : Holdup → Holdup) : (s.modHold f).outbox = s.outbox := rfl
@[simp] theorem modHold_pending (f : Holdup → Holdup) : (s.modHold f).pending = s.pending := rfl

/-! ### modRtc -/

@[simp] theorem modRtc_beat (f : Rtc → Rtc) : (s.modRtc f).beat = s.beat := rfl
@[simp] theorem modRtc_phases (f : Rtc → Rtc) : (s.modRtc f).phases = s.phases := rfl
@[simp] theorem modRtc_chans (f : Rtc → Rtc) : (s.modRtc f).chans = s.chans := rfl
@[simp] theorem modRtc_groups (f : Rtc → Rtc) : (s.modRtc f).groups = s.groups := rfl
@[simp] theorem modRtc_lane (f : Rtc → Rtc) : (s.modRtc f).lane = s.lane := rfl
@[simp] theorem modRtc_gov (f : Rtc → Rtc) : (s.modRtc f).gov = s.gov := rfl
@[simp] theorem modRtc_met (f : Rtc → Rtc) : (s.modRtc f).met = s.met := rfl
@[simp] theorem modRtc_store (f : Rtc → Rtc) : (s.modRtc f).store = s.store := rfl
@[simp] theorem modRtc_host (f : Rtc → Rtc) : (s.modRtc f).host = s.host := rfl
@[simp] theorem modRtc_tel (f : Rtc → Rtc) : (s.modRtc f).tel = s.tel := rfl
@[simp] theorem modRtc_dom (f : Rtc → Rtc) : (s.modRtc f).dom = s.dom := rfl
@[simp] theorem modRtc_links (f : Rtc → Rtc) : (s.modRtc f).links = s.links := rfl
@[simp] theorem modRtc_hold (f : Rtc → Rtc) : (s.modRtc f).hold = s.hold := rfl
@[simp] theorem modRtc_saves (f : Rtc → Rtc) : (s.modRtc f).saves = s.saves := rfl
@[simp] theorem modRtc_rtc (f : Rtc → Rtc) : (s.modRtc f).rtc = f s.rtc := rfl
@[simp] theorem modRtc_seq (f : Rtc → Rtc) : (s.modRtc f).seq = s.seq := rfl
@[simp] theorem modRtc_dev (f : Rtc → Rtc) : (s.modRtc f).dev = s.dev := rfl
@[simp] theorem modRtc_flt (f : Rtc → Rtc) : (s.modRtc f).flt = s.flt := rfl
@[simp] theorem modRtc_ic (f : Rtc → Rtc) : (s.modRtc f).ic = s.ic := rfl
@[simp] theorem modRtc_wdt (f : Rtc → Rtc) : (s.modRtc f).wdt = s.wdt := rfl
@[simp] theorem modRtc_sec (f : Rtc → Rtc) : (s.modRtc f).sec = s.sec := rfl
@[simp] theorem modRtc_tw (f : Rtc → Rtc) : (s.modRtc f).tw = s.tw := rfl
@[simp] theorem modRtc_log (f : Rtc → Rtc) : (s.modRtc f).log = s.log := rfl
@[simp] theorem modRtc_freeCount (f : Rtc → Rtc) : (s.modRtc f).freeCount = s.freeCount := rfl
@[simp] theorem modRtc_outbox (f : Rtc → Rtc) : (s.modRtc f).outbox = s.outbox := rfl
@[simp] theorem modRtc_pending (f : Rtc → Rtc) : (s.modRtc f).pending = s.pending := rfl

/-! ### modSeq -/

@[simp] theorem modSeq_beat (f : Seqr → Seqr) : (s.modSeq f).beat = s.beat := rfl
@[simp] theorem modSeq_phases (f : Seqr → Seqr) : (s.modSeq f).phases = s.phases := rfl
@[simp] theorem modSeq_chans (f : Seqr → Seqr) : (s.modSeq f).chans = s.chans := rfl
@[simp] theorem modSeq_groups (f : Seqr → Seqr) : (s.modSeq f).groups = s.groups := rfl
@[simp] theorem modSeq_lane (f : Seqr → Seqr) : (s.modSeq f).lane = s.lane := rfl
@[simp] theorem modSeq_gov (f : Seqr → Seqr) : (s.modSeq f).gov = s.gov := rfl
@[simp] theorem modSeq_met (f : Seqr → Seqr) : (s.modSeq f).met = s.met := rfl
@[simp] theorem modSeq_store (f : Seqr → Seqr) : (s.modSeq f).store = s.store := rfl
@[simp] theorem modSeq_host (f : Seqr → Seqr) : (s.modSeq f).host = s.host := rfl
@[simp] theorem modSeq_tel (f : Seqr → Seqr) : (s.modSeq f).tel = s.tel := rfl
@[simp] theorem modSeq_dom (f : Seqr → Seqr) : (s.modSeq f).dom = s.dom := rfl
@[simp] theorem modSeq_links (f : Seqr → Seqr) : (s.modSeq f).links = s.links := rfl
@[simp] theorem modSeq_hold (f : Seqr → Seqr) : (s.modSeq f).hold = s.hold := rfl
@[simp] theorem modSeq_saves (f : Seqr → Seqr) : (s.modSeq f).saves = s.saves := rfl
@[simp] theorem modSeq_rtc (f : Seqr → Seqr) : (s.modSeq f).rtc = s.rtc := rfl
@[simp] theorem modSeq_seq (f : Seqr → Seqr) : (s.modSeq f).seq = f s.seq := rfl
@[simp] theorem modSeq_dev (f : Seqr → Seqr) : (s.modSeq f).dev = s.dev := rfl
@[simp] theorem modSeq_flt (f : Seqr → Seqr) : (s.modSeq f).flt = s.flt := rfl
@[simp] theorem modSeq_ic (f : Seqr → Seqr) : (s.modSeq f).ic = s.ic := rfl
@[simp] theorem modSeq_wdt (f : Seqr → Seqr) : (s.modSeq f).wdt = s.wdt := rfl
@[simp] theorem modSeq_sec (f : Seqr → Seqr) : (s.modSeq f).sec = s.sec := rfl
@[simp] theorem modSeq_tw (f : Seqr → Seqr) : (s.modSeq f).tw = s.tw := rfl
@[simp] theorem modSeq_log (f : Seqr → Seqr) : (s.modSeq f).log = s.log := rfl
@[simp] theorem modSeq_freeCount (f : Seqr → Seqr) : (s.modSeq f).freeCount = s.freeCount := rfl
@[simp] theorem modSeq_outbox (f : Seqr → Seqr) : (s.modSeq f).outbox = s.outbox := rfl
@[simp] theorem modSeq_pending (f : Seqr → Seqr) : (s.modSeq f).pending = s.pending := rfl

/-! ### modDev -/

@[simp] theorem modDev_beat (f : Device → Device) : (s.modDev f).beat = s.beat := rfl
@[simp] theorem modDev_phases (f : Device → Device) : (s.modDev f).phases = s.phases := rfl
@[simp] theorem modDev_chans (f : Device → Device) : (s.modDev f).chans = s.chans := rfl
@[simp] theorem modDev_groups (f : Device → Device) : (s.modDev f).groups = s.groups := rfl
@[simp] theorem modDev_lane (f : Device → Device) : (s.modDev f).lane = s.lane := rfl
@[simp] theorem modDev_gov (f : Device → Device) : (s.modDev f).gov = s.gov := rfl
@[simp] theorem modDev_met (f : Device → Device) : (s.modDev f).met = s.met := rfl
@[simp] theorem modDev_store (f : Device → Device) : (s.modDev f).store = s.store := rfl
@[simp] theorem modDev_host (f : Device → Device) : (s.modDev f).host = s.host := rfl
@[simp] theorem modDev_tel (f : Device → Device) : (s.modDev f).tel = s.tel := rfl
@[simp] theorem modDev_dom (f : Device → Device) : (s.modDev f).dom = s.dom := rfl
@[simp] theorem modDev_links (f : Device → Device) : (s.modDev f).links = s.links := rfl
@[simp] theorem modDev_hold (f : Device → Device) : (s.modDev f).hold = s.hold := rfl
@[simp] theorem modDev_saves (f : Device → Device) : (s.modDev f).saves = s.saves := rfl
@[simp] theorem modDev_rtc (f : Device → Device) : (s.modDev f).rtc = s.rtc := rfl
@[simp] theorem modDev_seq (f : Device → Device) : (s.modDev f).seq = s.seq := rfl
@[simp] theorem modDev_dev (f : Device → Device) : (s.modDev f).dev = f s.dev := rfl
@[simp] theorem modDev_flt (f : Device → Device) : (s.modDev f).flt = s.flt := rfl
@[simp] theorem modDev_ic (f : Device → Device) : (s.modDev f).ic = s.ic := rfl
@[simp] theorem modDev_wdt (f : Device → Device) : (s.modDev f).wdt = s.wdt := rfl
@[simp] theorem modDev_sec (f : Device → Device) : (s.modDev f).sec = s.sec := rfl
@[simp] theorem modDev_tw (f : Device → Device) : (s.modDev f).tw = s.tw := rfl
@[simp] theorem modDev_log (f : Device → Device) : (s.modDev f).log = s.log := rfl
@[simp] theorem modDev_freeCount (f : Device → Device) : (s.modDev f).freeCount = s.freeCount := rfl
@[simp] theorem modDev_outbox (f : Device → Device) : (s.modDev f).outbox = s.outbox := rfl
@[simp] theorem modDev_pending (f : Device → Device) : (s.modDev f).pending = s.pending := rfl

/-! ### modFlt -/

@[simp] theorem modFlt_beat (f : Faults → Faults) : (s.modFlt f).beat = s.beat := rfl
@[simp] theorem modFlt_phases (f : Faults → Faults) : (s.modFlt f).phases = s.phases := rfl
@[simp] theorem modFlt_chans (f : Faults → Faults) : (s.modFlt f).chans = s.chans := rfl
@[simp] theorem modFlt_groups (f : Faults → Faults) : (s.modFlt f).groups = s.groups := rfl
@[simp] theorem modFlt_lane (f : Faults → Faults) : (s.modFlt f).lane = s.lane := rfl
@[simp] theorem modFlt_gov (f : Faults → Faults) : (s.modFlt f).gov = s.gov := rfl
@[simp] theorem modFlt_met (f : Faults → Faults) : (s.modFlt f).met = s.met := rfl
@[simp] theorem modFlt_store (f : Faults → Faults) : (s.modFlt f).store = s.store := rfl
@[simp] theorem modFlt_host (f : Faults → Faults) : (s.modFlt f).host = s.host := rfl
@[simp] theorem modFlt_tel (f : Faults → Faults) : (s.modFlt f).tel = s.tel := rfl
@[simp] theorem modFlt_dom (f : Faults → Faults) : (s.modFlt f).dom = s.dom := rfl
@[simp] theorem modFlt_links (f : Faults → Faults) : (s.modFlt f).links = s.links := rfl
@[simp] theorem modFlt_hold (f : Faults → Faults) : (s.modFlt f).hold = s.hold := rfl
@[simp] theorem modFlt_saves (f : Faults → Faults) : (s.modFlt f).saves = s.saves := rfl
@[simp] theorem modFlt_rtc (f : Faults → Faults) : (s.modFlt f).rtc = s.rtc := rfl
@[simp] theorem modFlt_seq (f : Faults → Faults) : (s.modFlt f).seq = s.seq := rfl
@[simp] theorem modFlt_dev (f : Faults → Faults) : (s.modFlt f).dev = s.dev := rfl
@[simp] theorem modFlt_flt (f : Faults → Faults) : (s.modFlt f).flt = f s.flt := rfl
@[simp] theorem modFlt_ic (f : Faults → Faults) : (s.modFlt f).ic = s.ic := rfl
@[simp] theorem modFlt_wdt (f : Faults → Faults) : (s.modFlt f).wdt = s.wdt := rfl
@[simp] theorem modFlt_sec (f : Faults → Faults) : (s.modFlt f).sec = s.sec := rfl
@[simp] theorem modFlt_tw (f : Faults → Faults) : (s.modFlt f).tw = s.tw := rfl
@[simp] theorem modFlt_log (f : Faults → Faults) : (s.modFlt f).log = s.log := rfl
@[simp] theorem modFlt_freeCount (f : Faults → Faults) : (s.modFlt f).freeCount = s.freeCount := rfl
@[simp] theorem modFlt_outbox (f : Faults → Faults) : (s.modFlt f).outbox = s.outbox := rfl
@[simp] theorem modFlt_pending (f : Faults → Faults) : (s.modFlt f).pending = s.pending := rfl

/-! ### modIc -/

@[simp] theorem modIc_beat (f : Irq → Irq) : (s.modIc f).beat = s.beat := rfl
@[simp] theorem modIc_phases (f : Irq → Irq) : (s.modIc f).phases = s.phases := rfl
@[simp] theorem modIc_chans (f : Irq → Irq) : (s.modIc f).chans = s.chans := rfl
@[simp] theorem modIc_groups (f : Irq → Irq) : (s.modIc f).groups = s.groups := rfl
@[simp] theorem modIc_lane (f : Irq → Irq) : (s.modIc f).lane = s.lane := rfl
@[simp] theorem modIc_gov (f : Irq → Irq) : (s.modIc f).gov = s.gov := rfl
@[simp] theorem modIc_met (f : Irq → Irq) : (s.modIc f).met = s.met := rfl
@[simp] theorem modIc_store (f : Irq → Irq) : (s.modIc f).store = s.store := rfl
@[simp] theorem modIc_host (f : Irq → Irq) : (s.modIc f).host = s.host := rfl
@[simp] theorem modIc_tel (f : Irq → Irq) : (s.modIc f).tel = s.tel := rfl
@[simp] theorem modIc_dom (f : Irq → Irq) : (s.modIc f).dom = s.dom := rfl
@[simp] theorem modIc_links (f : Irq → Irq) : (s.modIc f).links = s.links := rfl
@[simp] theorem modIc_hold (f : Irq → Irq) : (s.modIc f).hold = s.hold := rfl
@[simp] theorem modIc_saves (f : Irq → Irq) : (s.modIc f).saves = s.saves := rfl
@[simp] theorem modIc_rtc (f : Irq → Irq) : (s.modIc f).rtc = s.rtc := rfl
@[simp] theorem modIc_seq (f : Irq → Irq) : (s.modIc f).seq = s.seq := rfl
@[simp] theorem modIc_dev (f : Irq → Irq) : (s.modIc f).dev = s.dev := rfl
@[simp] theorem modIc_flt (f : Irq → Irq) : (s.modIc f).flt = s.flt := rfl
@[simp] theorem modIc_ic (f : Irq → Irq) : (s.modIc f).ic = f s.ic := rfl
@[simp] theorem modIc_wdt (f : Irq → Irq) : (s.modIc f).wdt = s.wdt := rfl
@[simp] theorem modIc_sec (f : Irq → Irq) : (s.modIc f).sec = s.sec := rfl
@[simp] theorem modIc_tw (f : Irq → Irq) : (s.modIc f).tw = s.tw := rfl
@[simp] theorem modIc_log (f : Irq → Irq) : (s.modIc f).log = s.log := rfl
@[simp] theorem modIc_freeCount (f : Irq → Irq) : (s.modIc f).freeCount = s.freeCount := rfl
@[simp] theorem modIc_outbox (f : Irq → Irq) : (s.modIc f).outbox = s.outbox := rfl
@[simp] theorem modIc_pending (f : Irq → Irq) : (s.modIc f).pending = s.pending := rfl

/-! ### modWdt -/

@[simp] theorem modWdt_beat (f : Wdt → Wdt) : (s.modWdt f).beat = s.beat := rfl
@[simp] theorem modWdt_phases (f : Wdt → Wdt) : (s.modWdt f).phases = s.phases := rfl
@[simp] theorem modWdt_chans (f : Wdt → Wdt) : (s.modWdt f).chans = s.chans := rfl
@[simp] theorem modWdt_groups (f : Wdt → Wdt) : (s.modWdt f).groups = s.groups := rfl
@[simp] theorem modWdt_lane (f : Wdt → Wdt) : (s.modWdt f).lane = s.lane := rfl
@[simp] theorem modWdt_gov (f : Wdt → Wdt) : (s.modWdt f).gov = s.gov := rfl
@[simp] theorem modWdt_met (f : Wdt → Wdt) : (s.modWdt f).met = s.met := rfl
@[simp] theorem modWdt_store (f : Wdt → Wdt) : (s.modWdt f).store = s.store := rfl
@[simp] theorem modWdt_host (f : Wdt → Wdt) : (s.modWdt f).host = s.host := rfl
@[simp] theorem modWdt_tel (f : Wdt → Wdt) : (s.modWdt f).tel = s.tel := rfl
@[simp] theorem modWdt_dom (f : Wdt → Wdt) : (s.modWdt f).dom = s.dom := rfl
@[simp] theorem modWdt_links (f : Wdt → Wdt) : (s.modWdt f).links = s.links := rfl
@[simp] theorem modWdt_hold (f : Wdt → Wdt) : (s.modWdt f).hold = s.hold := rfl
@[simp] theorem modWdt_saves (f : Wdt → Wdt) : (s.modWdt f).saves = s.saves := rfl
@[simp] theorem modWdt_rtc (f : Wdt → Wdt) : (s.modWdt f).rtc = s.rtc := rfl
@[simp] theorem modWdt_seq (f : Wdt → Wdt) : (s.modWdt f).seq = s.seq := rfl
@[simp] theorem modWdt_dev (f : Wdt → Wdt) : (s.modWdt f).dev = s.dev := rfl
@[simp] theorem modWdt_flt (f : Wdt → Wdt) : (s.modWdt f).flt = s.flt := rfl
@[simp] theorem modWdt_ic (f : Wdt → Wdt) : (s.modWdt f).ic = s.ic := rfl
@[simp] theorem modWdt_wdt (f : Wdt → Wdt) : (s.modWdt f).wdt = f s.wdt := rfl
@[simp] theorem modWdt_sec (f : Wdt → Wdt) : (s.modWdt f).sec = s.sec := rfl
@[simp] theorem modWdt_tw (f : Wdt → Wdt) : (s.modWdt f).tw = s.tw := rfl
@[simp] theorem modWdt_log (f : Wdt → Wdt) : (s.modWdt f).log = s.log := rfl
@[simp] theorem modWdt_freeCount (f : Wdt → Wdt) : (s.modWdt f).freeCount = s.freeCount := rfl
@[simp] theorem modWdt_outbox (f : Wdt → Wdt) : (s.modWdt f).outbox = s.outbox := rfl
@[simp] theorem modWdt_pending (f : Wdt → Wdt) : (s.modWdt f).pending = s.pending := rfl

/-! ### modSec -/

@[simp] theorem modSec_beat (f : Sec → Sec) : (s.modSec f).beat = s.beat := rfl
@[simp] theorem modSec_phases (f : Sec → Sec) : (s.modSec f).phases = s.phases := rfl
@[simp] theorem modSec_chans (f : Sec → Sec) : (s.modSec f).chans = s.chans := rfl
@[simp] theorem modSec_groups (f : Sec → Sec) : (s.modSec f).groups = s.groups := rfl
@[simp] theorem modSec_lane (f : Sec → Sec) : (s.modSec f).lane = s.lane := rfl
@[simp] theorem modSec_gov (f : Sec → Sec) : (s.modSec f).gov = s.gov := rfl
@[simp] theorem modSec_met (f : Sec → Sec) : (s.modSec f).met = s.met := rfl
@[simp] theorem modSec_store (f : Sec → Sec) : (s.modSec f).store = s.store := rfl
@[simp] theorem modSec_host (f : Sec → Sec) : (s.modSec f).host = s.host := rfl
@[simp] theorem modSec_tel (f : Sec → Sec) : (s.modSec f).tel = s.tel := rfl
@[simp] theorem modSec_dom (f : Sec → Sec) : (s.modSec f).dom = s.dom := rfl
@[simp] theorem modSec_links (f : Sec → Sec) : (s.modSec f).links = s.links := rfl
@[simp] theorem modSec_hold (f : Sec → Sec) : (s.modSec f).hold = s.hold := rfl
@[simp] theorem modSec_saves (f : Sec → Sec) : (s.modSec f).saves = s.saves := rfl
@[simp] theorem modSec_rtc (f : Sec → Sec) : (s.modSec f).rtc = s.rtc := rfl
@[simp] theorem modSec_seq (f : Sec → Sec) : (s.modSec f).seq = s.seq := rfl
@[simp] theorem modSec_dev (f : Sec → Sec) : (s.modSec f).dev = s.dev := rfl
@[simp] theorem modSec_flt (f : Sec → Sec) : (s.modSec f).flt = s.flt := rfl
@[simp] theorem modSec_ic (f : Sec → Sec) : (s.modSec f).ic = s.ic := rfl
@[simp] theorem modSec_wdt (f : Sec → Sec) : (s.modSec f).wdt = s.wdt := rfl
@[simp] theorem modSec_sec (f : Sec → Sec) : (s.modSec f).sec = f s.sec := rfl
@[simp] theorem modSec_tw (f : Sec → Sec) : (s.modSec f).tw = s.tw := rfl
@[simp] theorem modSec_log (f : Sec → Sec) : (s.modSec f).log = s.log := rfl
@[simp] theorem modSec_freeCount (f : Sec → Sec) : (s.modSec f).freeCount = s.freeCount := rfl
@[simp] theorem modSec_outbox (f : Sec → Sec) : (s.modSec f).outbox = s.outbox := rfl
@[simp] theorem modSec_pending (f : Sec → Sec) : (s.modSec f).pending = s.pending := rfl

/-! ### modTw -/

@[simp] theorem modTw_beat (f : TwoWire → TwoWire) : (s.modTw f).beat = s.beat := rfl
@[simp] theorem modTw_phases (f : TwoWire → TwoWire) : (s.modTw f).phases = s.phases := rfl
@[simp] theorem modTw_chans (f : TwoWire → TwoWire) : (s.modTw f).chans = s.chans := rfl
@[simp] theorem modTw_groups (f : TwoWire → TwoWire) : (s.modTw f).groups = s.groups := rfl
@[simp] theorem modTw_lane (f : TwoWire → TwoWire) : (s.modTw f).lane = s.lane := rfl
@[simp] theorem modTw_gov (f : TwoWire → TwoWire) : (s.modTw f).gov = s.gov := rfl
@[simp] theorem modTw_met (f : TwoWire → TwoWire) : (s.modTw f).met = s.met := rfl
@[simp] theorem modTw_store (f : TwoWire → TwoWire) : (s.modTw f).store = s.store := rfl
@[simp] theorem modTw_host (f : TwoWire → TwoWire) : (s.modTw f).host = s.host := rfl
@[simp] theorem modTw_tel (f : TwoWire → TwoWire) : (s.modTw f).tel = s.tel := rfl
@[simp] theorem modTw_dom (f : TwoWire → TwoWire) : (s.modTw f).dom = s.dom := rfl
@[simp] theorem modTw_links (f : TwoWire → TwoWire) : (s.modTw f).links = s.links := rfl
@[simp] theorem modTw_hold (f : TwoWire → TwoWire) : (s.modTw f).hold = s.hold := rfl
@[simp] theorem modTw_saves (f : TwoWire → TwoWire) : (s.modTw f).saves = s.saves := rfl
@[simp] theorem modTw_rtc (f : TwoWire → TwoWire) : (s.modTw f).rtc = s.rtc := rfl
@[simp] theorem modTw_seq (f : TwoWire → TwoWire) : (s.modTw f).seq = s.seq := rfl
@[simp] theorem modTw_dev (f : TwoWire → TwoWire) : (s.modTw f).dev = s.dev := rfl
@[simp] theorem modTw_flt (f : TwoWire → TwoWire) : (s.modTw f).flt = s.flt := rfl
@[simp] theorem modTw_ic (f : TwoWire → TwoWire) : (s.modTw f).ic = s.ic := rfl
@[simp] theorem modTw_wdt (f : TwoWire → TwoWire) : (s.modTw f).wdt = s.wdt := rfl
@[simp] theorem modTw_sec (f : TwoWire → TwoWire) : (s.modTw f).sec = s.sec := rfl
@[simp] theorem modTw_tw (f : TwoWire → TwoWire) : (s.modTw f).tw = f s.tw := rfl
@[simp] theorem modTw_log (f : TwoWire → TwoWire) : (s.modTw f).log = s.log := rfl
@[simp] theorem modTw_freeCount (f : TwoWire → TwoWire) : (s.modTw f).freeCount = s.freeCount := rfl
@[simp] theorem modTw_outbox (f : TwoWire → TwoWire) : (s.modTw f).outbox = s.outbox := rfl
@[simp] theorem modTw_pending (f : TwoWire → TwoWire) : (s.modTw f).pending = s.pending := rfl

/-! ### modMet -/

@[simp] theorem modMet_beat (f : Met → Met) : (s.modMet f).beat = s.beat := rfl
@[simp] theorem modMet_phases (f : Met → Met) : (s.modMet f).phases = s.phases := rfl
@[simp] theorem modMet_chans (f : Met → Met) : (s.modMet f).chans = s.chans := rfl
@[simp] theorem modMet_groups (f : Met → Met) : (s.modMet f).groups = s.groups := rfl
@[simp] theorem modMet_lane (f : Met → Met) : (s.modMet f).lane = s.lane := rfl
@[simp] theorem modMet_gov (f : Met → Met) : (s.modMet f).gov = s.gov := rfl
@[simp] theorem modMet_met (f : Met → Met) : (s.modMet f).met = f s.met := rfl
@[simp] theorem modMet_store (f : Met → Met) : (s.modMet f).store = s.store := rfl
@[simp] theorem modMet_host (f : Met → Met) : (s.modMet f).host = s.host := rfl
@[simp] theorem modMet_tel (f : Met → Met) : (s.modMet f).tel = s.tel := rfl
@[simp] theorem modMet_dom (f : Met → Met) : (s.modMet f).dom = s.dom := rfl
@[simp] theorem modMet_links (f : Met → Met) : (s.modMet f).links = s.links := rfl
@[simp] theorem modMet_hold (f : Met → Met) : (s.modMet f).hold = s.hold := rfl
@[simp] theorem modMet_saves (f : Met → Met) : (s.modMet f).saves = s.saves := rfl
@[simp] theorem modMet_rtc (f : Met → Met) : (s.modMet f).rtc = s.rtc := rfl
@[simp] theorem modMet_seq (f : Met → Met) : (s.modMet f).seq = s.seq := rfl
@[simp] theorem modMet_dev (f : Met → Met) : (s.modMet f).dev = s.dev := rfl
@[simp] theorem modMet_flt (f : Met → Met) : (s.modMet f).flt = s.flt := rfl
@[simp] theorem modMet_ic (f : Met → Met) : (s.modMet f).ic = s.ic := rfl
@[simp] theorem modMet_wdt (f : Met → Met) : (s.modMet f).wdt = s.wdt := rfl
@[simp] theorem modMet_sec (f : Met → Met) : (s.modMet f).sec = s.sec := rfl
@[simp] theorem modMet_tw (f : Met → Met) : (s.modMet f).tw = s.tw := rfl
@[simp] theorem modMet_log (f : Met → Met) : (s.modMet f).log = s.log := rfl
@[simp] theorem modMet_freeCount (f : Met → Met) : (s.modMet f).freeCount = s.freeCount := rfl
@[simp] theorem modMet_outbox (f : Met → Met) : (s.modMet f).outbox = s.outbox := rfl
@[simp] theorem modMet_pending (f : Met → Met) : (s.modMet f).pending = s.pending := rfl

/-! ### modStore -/

@[simp] theorem modStore_beat (f : Store → Store) : (s.modStore f).beat = s.beat := rfl
@[simp] theorem modStore_phases (f : Store → Store) : (s.modStore f).phases = s.phases := rfl
@[simp] theorem modStore_chans (f : Store → Store) : (s.modStore f).chans = s.chans := rfl
@[simp] theorem modStore_groups (f : Store → Store) : (s.modStore f).groups = s.groups := rfl
@[simp] theorem modStore_lane (f : Store → Store) : (s.modStore f).lane = s.lane := rfl
@[simp] theorem modStore_gov (f : Store → Store) : (s.modStore f).gov = s.gov := rfl
@[simp] theorem modStore_met (f : Store → Store) : (s.modStore f).met = s.met := rfl
@[simp] theorem modStore_store (f : Store → Store) : (s.modStore f).store = f s.store := rfl
@[simp] theorem modStore_host (f : Store → Store) : (s.modStore f).host = s.host := rfl
@[simp] theorem modStore_tel (f : Store → Store) : (s.modStore f).tel = s.tel := rfl
@[simp] theorem modStore_dom (f : Store → Store) : (s.modStore f).dom = s.dom := rfl
@[simp] theorem modStore_links (f : Store → Store) : (s.modStore f).links = s.links := rfl
@[simp] theorem modStore_hold (f : Store → Store) : (s.modStore f).hold = s.hold := rfl
@[simp] theorem modStore_saves (f : Store → Store) : (s.modStore f).saves = s.saves := rfl
@[simp] theorem modStore_rtc (f : Store → Store) : (s.modStore f).rtc = s.rtc := rfl
@[simp] theorem modStore_seq (f : Store → Store) : (s.modStore f).seq = s.seq := rfl
@[simp] theorem modStore_dev (f : Store → Store) : (s.modStore f).dev = s.dev := rfl
@[simp] theorem modStore_flt (f : Store → Store) : (s.modStore f).flt = s.flt := rfl
@[simp] theorem modStore_ic (f : Store → Store) : (s.modStore f).ic = s.ic := rfl
@[simp] theorem modStore_wdt (f : Store → Store) : (s.modStore f).wdt = s.wdt := rfl
@[simp] theorem modStore_sec (f : Store → Store) : (s.modStore f).sec = s.sec := rfl
@[simp] theorem modStore_tw (f : Store → Store) : (s.modStore f).tw = s.tw := rfl
@[simp] theorem modStore_log (f : Store → Store) : (s.modStore f).log = s.log := rfl
@[simp] theorem modStore_freeCount (f : Store → Store) : (s.modStore f).freeCount = s.freeCount := rfl
@[simp] theorem modStore_outbox (f : Store → Store) : (s.modStore f).outbox = s.outbox := rfl
@[simp] theorem modStore_pending (f : Store → Store) : (s.modStore f).pending = s.pending := rfl

/-! ### modTel -/

@[simp] theorem modTel_beat (f : Telem → Telem) : (s.modTel f).beat = s.beat := rfl
@[simp] theorem modTel_phases (f : Telem → Telem) : (s.modTel f).phases = s.phases := rfl
@[simp] theorem modTel_chans (f : Telem → Telem) : (s.modTel f).chans = s.chans := rfl
@[simp] theorem modTel_groups (f : Telem → Telem) : (s.modTel f).groups = s.groups := rfl
@[simp] theorem modTel_lane (f : Telem → Telem) : (s.modTel f).lane = s.lane := rfl
@[simp] theorem modTel_gov (f : Telem → Telem) : (s.modTel f).gov = s.gov := rfl
@[simp] theorem modTel_met (f : Telem → Telem) : (s.modTel f).met = s.met := rfl
@[simp] theorem modTel_store (f : Telem → Telem) : (s.modTel f).store = s.store := rfl
@[simp] theorem modTel_host (f : Telem → Telem) : (s.modTel f).host = s.host := rfl
@[simp] theorem modTel_tel (f : Telem → Telem) : (s.modTel f).tel = f s.tel := rfl
@[simp] theorem modTel_dom (f : Telem → Telem) : (s.modTel f).dom = s.dom := rfl
@[simp] theorem modTel_links (f : Telem → Telem) : (s.modTel f).links = s.links := rfl
@[simp] theorem modTel_hold (f : Telem → Telem) : (s.modTel f).hold = s.hold := rfl
@[simp] theorem modTel_saves (f : Telem → Telem) : (s.modTel f).saves = s.saves := rfl
@[simp] theorem modTel_rtc (f : Telem → Telem) : (s.modTel f).rtc = s.rtc := rfl
@[simp] theorem modTel_seq (f : Telem → Telem) : (s.modTel f).seq = s.seq := rfl
@[simp] theorem modTel_dev (f : Telem → Telem) : (s.modTel f).dev = s.dev := rfl
@[simp] theorem modTel_flt (f : Telem → Telem) : (s.modTel f).flt = s.flt := rfl
@[simp] theorem modTel_ic (f : Telem → Telem) : (s.modTel f).ic = s.ic := rfl
@[simp] theorem modTel_wdt (f : Telem → Telem) : (s.modTel f).wdt = s.wdt := rfl
@[simp] theorem modTel_sec (f : Telem → Telem) : (s.modTel f).sec = s.sec := rfl
@[simp] theorem modTel_tw (f : Telem → Telem) : (s.modTel f).tw = s.tw := rfl
@[simp] theorem modTel_log (f : Telem → Telem) : (s.modTel f).log = s.log := rfl
@[simp] theorem modTel_freeCount (f : Telem → Telem) : (s.modTel f).freeCount = s.freeCount := rfl
@[simp] theorem modTel_outbox (f : Telem → Telem) : (s.modTel f).outbox = s.outbox := rfl
@[simp] theorem modTel_pending (f : Telem → Telem) : (s.modTel f).pending = s.pending := rfl

/-! ### modLane -/

@[simp] theorem modLane_beat (f : Lane → Lane) : (s.modLane f).beat = s.beat := rfl
@[simp] theorem modLane_phases (f : Lane → Lane) : (s.modLane f).phases = s.phases := rfl
@[simp] theorem modLane_chans (f : Lane → Lane) : (s.modLane f).chans = s.chans := rfl
@[simp] theorem modLane_groups (f : Lane → Lane) : (s.modLane f).groups = s.groups := rfl
@[simp] theorem modLane_lane (f : Lane → Lane) : (s.modLane f).lane = f s.lane := rfl
@[simp] theorem modLane_gov (f : Lane → Lane) : (s.modLane f).gov = s.gov := rfl
@[simp] theorem modLane_met (f : Lane → Lane) : (s.modLane f).met = s.met := rfl
@[simp] theorem modLane_store (f : Lane → Lane) : (s.modLane f).store = s.store := rfl
@[simp] theorem modLane_host (f : Lane → Lane) : (s.modLane f).host = s.host := rfl
@[simp] theorem modLane_tel (f : Lane → Lane) : (s.modLane f).tel = s.tel := rfl
@[simp] theorem modLane_dom (f : Lane → Lane) : (s.modLane f).dom = s.dom := rfl
@[simp] theorem modLane_links (f : Lane → Lane) : (s.modLane f).links = s.links := rfl
@[simp] theorem modLane_hold (f : Lane → Lane) : (s.modLane f).hold = s.hold := rfl
@[simp] theorem modLane_saves (f : Lane → Lane) : (s.modLane f).saves = s.saves := rfl
@[simp] theorem modLane_rtc (f : Lane → Lane) : (s.modLane f).rtc = s.rtc := rfl
@[simp] theorem modLane_seq (f : Lane → Lane) : (s.modLane f).seq = s.seq := rfl
@[simp] theorem modLane_dev (f : Lane → Lane) : (s.modLane f).dev = s.dev := rfl
@[simp] theorem modLane_flt (f : Lane → Lane) : (s.modLane f).flt = s.flt := rfl
@[simp] theorem modLane_ic (f : Lane → Lane) : (s.modLane f).ic = s.ic := rfl
@[simp] theorem modLane_wdt (f : Lane → Lane) : (s.modLane f).wdt = s.wdt := rfl
@[simp] theorem modLane_sec (f : Lane → Lane) : (s.modLane f).sec = s.sec := rfl
@[simp] theorem modLane_tw (f : Lane → Lane) : (s.modLane f).tw = s.tw := rfl
@[simp] theorem modLane_log (f : Lane → Lane) : (s.modLane f).log = s.log := rfl
@[simp] theorem modLane_freeCount (f : Lane → Lane) : (s.modLane f).freeCount = s.freeCount := rfl
@[simp] theorem modLane_outbox (f : Lane → Lane) : (s.modLane f).outbox = s.outbox := rfl
@[simp] theorem modLane_pending (f : Lane → Lane) : (s.modLane f).pending = s.pending := rfl

/-! ### modGov -/

@[simp] theorem modGov_beat (f : Governor → Governor) : (s.modGov f).beat = s.beat := rfl
@[simp] theorem modGov_phases (f : Governor → Governor) : (s.modGov f).phases = s.phases := rfl
@[simp] theorem modGov_chans (f : Governor → Governor) : (s.modGov f).chans = s.chans := rfl
@[simp] theorem modGov_groups (f : Governor → Governor) : (s.modGov f).groups = s.groups := rfl
@[simp] theorem modGov_lane (f : Governor → Governor) : (s.modGov f).lane = s.lane := rfl
@[simp] theorem modGov_gov (f : Governor → Governor) : (s.modGov f).gov = f s.gov := rfl
@[simp] theorem modGov_met (f : Governor → Governor) : (s.modGov f).met = s.met := rfl
@[simp] theorem modGov_store (f : Governor → Governor) : (s.modGov f).store = s.store := rfl
@[simp] theorem modGov_host (f : Governor → Governor) : (s.modGov f).host = s.host := rfl
@[simp] theorem modGov_tel (f : Governor → Governor) : (s.modGov f).tel = s.tel := rfl
@[simp] theorem modGov_dom (f : Governor → Governor) : (s.modGov f).dom = s.dom := rfl
@[simp] theorem modGov_links (f : Governor → Governor) : (s.modGov f).links = s.links := rfl
@[simp] theorem modGov_hold (f : Governor → Governor) : (s.modGov f).hold = s.hold := rfl
@[simp] theorem modGov_saves (f : Governor → Governor) : (s.modGov f).saves = s.saves := rfl
@[simp] theorem modGov_rtc (f : Governor → Governor) : (s.modGov f).rtc = s.rtc := rfl
@[simp] theorem modGov_seq (f : Governor → Governor) : (s.modGov f).seq = s.seq := rfl
@[simp] theorem modGov_dev (f : Governor → Governor) : (s.modGov f).dev = s.dev := rfl
@[simp] theorem modGov_flt (f : Governor → Governor) : (s.modGov f).flt = s.flt := rfl
@[simp] theorem modGov_ic (f : Governor → Governor) : (s.modGov f).ic = s.ic := rfl
@[simp] theorem modGov_wdt (f : Governor → Governor) : (s.modGov f).wdt = s.wdt := rfl
@[simp] theorem modGov_sec (f : Governor → Governor) : (s.modGov f).sec = s.sec := rfl
@[simp] theorem modGov_tw (f : Governor → Governor) : (s.modGov f).tw = s.tw := rfl
@[simp] theorem modGov_log (f : Governor → Governor) : (s.modGov f).log = s.log := rfl
@[simp] theorem modGov_freeCount (f : Governor → Governor) : (s.modGov f).freeCount = s.freeCount := rfl
@[simp] theorem modGov_outbox (f : Governor → Governor) : (s.modGov f).outbox = s.outbox := rfl
@[simp] theorem modGov_pending (f : Governor → Governor) : (s.modGov f).pending = s.pending := rfl

/-! ### modSaves -/

@[simp] theorem modSaves_beat (f : Saves → Saves) : (s.modSaves f).beat = s.beat := rfl
@[simp] theorem modSaves_phases (f : Saves → Saves) : (s.modSaves f).phases = s.phases := rfl
@[simp] theorem modSaves_chans (f : Saves → Saves) : (s.modSaves f).chans = s.chans := rfl
@[simp] theorem modSaves_groups (f : Saves → Saves) : (s.modSaves f).groups = s.groups := rfl
@[simp] theorem modSaves_lane (f : Saves → Saves) : (s.modSaves f).lane = s.lane := rfl
@[simp] theorem modSaves_gov (f : Saves → Saves) : (s.modSaves f).gov = s.gov := rfl
@[simp] theorem modSaves_met (f : Saves → Saves) : (s.modSaves f).met = s.met := rfl
@[simp] theorem modSaves_store (f : Saves → Saves) : (s.modSaves f).store = s.store := rfl
@[simp] theorem modSaves_host (f : Saves → Saves) : (s.modSaves f).host = s.host := rfl
@[simp] theorem modSaves_tel (f : Saves → Saves) : (s.modSaves f).tel = s.tel := rfl
@[simp] theorem modSaves_dom (f : Saves → Saves) : (s.modSaves f).dom = s.dom := rfl
@[simp] theorem modSaves_links (f : Saves → Saves) : (s.modSaves f).links = s.links := rfl
@[simp] theorem modSaves_hold (f : Saves → Saves) : (s.modSaves f).hold = s.hold := rfl
@[simp] theorem modSaves_saves (f : Saves → Saves) : (s.modSaves f).saves = f s.saves := rfl
@[simp] theorem modSaves_rtc (f : Saves → Saves) : (s.modSaves f).rtc = s.rtc := rfl
@[simp] theorem modSaves_seq (f : Saves → Saves) : (s.modSaves f).seq = s.seq := rfl
@[simp] theorem modSaves_dev (f : Saves → Saves) : (s.modSaves f).dev = s.dev := rfl
@[simp] theorem modSaves_flt (f : Saves → Saves) : (s.modSaves f).flt = s.flt := rfl
@[simp] theorem modSaves_ic (f : Saves → Saves) : (s.modSaves f).ic = s.ic := rfl
@[simp] theorem modSaves_wdt (f : Saves → Saves) : (s.modSaves f).wdt = s.wdt := rfl
@[simp] theorem modSaves_sec (f : Saves → Saves) : (s.modSaves f).sec = s.sec := rfl
@[simp] theorem modSaves_tw (f : Saves → Saves) : (s.modSaves f).tw = s.tw := rfl
@[simp] theorem modSaves_log (f : Saves → Saves) : (s.modSaves f).log = s.log := rfl
@[simp] theorem modSaves_freeCount (f : Saves → Saves) : (s.modSaves f).freeCount = s.freeCount := rfl
@[simp] theorem modSaves_outbox (f : Saves → Saves) : (s.modSaves f).outbox = s.outbox := rfl
@[simp] theorem modSaves_pending (f : Saves → Saves) : (s.modSaves f).pending = s.pending := rfl

/-! ### modDom -/

@[simp] theorem modDom_beat (f : Domain → Domain) : (s.modDom f).beat = s.beat := rfl
@[simp] theorem modDom_phases (f : Domain → Domain) : (s.modDom f).phases = s.phases := rfl
@[simp] theorem modDom_chans (f : Domain → Domain) : (s.modDom f).chans = s.chans := rfl
@[simp] theorem modDom_groups (f : Domain → Domain) : (s.modDom f).groups = s.groups := rfl
@[simp] theorem modDom_lane (f : Domain → Domain) : (s.modDom f).lane = s.lane := rfl
@[simp] theorem modDom_gov (f : Domain → Domain) : (s.modDom f).gov = s.gov := rfl
@[simp] theorem modDom_met (f : Domain → Domain) : (s.modDom f).met = s.met := rfl
@[simp] theorem modDom_store (f : Domain → Domain) : (s.modDom f).store = s.store := rfl
@[simp] theorem modDom_host (f : Domain → Domain) : (s.modDom f).host = s.host := rfl
@[simp] theorem modDom_tel (f : Domain → Domain) : (s.modDom f).tel = s.tel := rfl
@[simp] theorem modDom_dom (f : Domain → Domain) : (s.modDom f).dom = f s.dom := rfl
@[simp] theorem modDom_links (f : Domain → Domain) : (s.modDom f).links = s.links := rfl
@[simp] theorem modDom_hold (f : Domain → Domain) : (s.modDom f).hold = s.hold := rfl
@[simp] theorem modDom_saves (f : Domain → Domain) : (s.modDom f).saves = s.saves := rfl
@[simp] theorem modDom_rtc (f : Domain → Domain) : (s.modDom f).rtc = s.rtc := rfl
@[simp] theorem modDom_seq (f : Domain → Domain) : (s.modDom f).seq = s.seq := rfl
@[simp] theorem modDom_dev (f : Domain → Domain) : (s.modDom f).dev = s.dev := rfl
@[simp] theorem modDom_flt (f : Domain → Domain) : (s.modDom f).flt = s.flt := rfl
@[simp] theorem modDom_ic (f : Domain → Domain) : (s.modDom f).ic = s.ic := rfl
@[simp] theorem modDom_wdt (f : Domain → Domain) : (s.modDom f).wdt = s.wdt := rfl
@[simp] theorem modDom_sec (f : Domain → Domain) : (s.modDom f).sec = s.sec := rfl
@[simp] theorem modDom_tw (f : Domain → Domain) : (s.modDom f).tw = s.tw := rfl
@[simp] theorem modDom_log (f : Domain → Domain) : (s.modDom f).log = s.log := rfl
@[simp] theorem modDom_freeCount (f : Domain → Domain) : (s.modDom f).freeCount = s.freeCount := rfl
@[simp] theorem modDom_outbox (f : Domain → Domain) : (s.modDom f).outbox = s.outbox := rfl
@[simp] theorem modDom_pending (f : Domain → Domain) : (s.modDom f).pending = s.pending := rfl

/-! ### send -/

@[simp] theorem send_beat (o : Out) : (s.send o).beat = s.beat := rfl
@[simp] theorem send_phases (o : Out) : (s.send o).phases = s.phases := rfl
@[simp] theorem send_chans (o : Out) : (s.send o).chans = s.chans := rfl
@[simp] theorem send_groups (o : Out) : (s.send o).groups = s.groups := rfl
@[simp] theorem send_lane (o : Out) : (s.send o).lane = s.lane := rfl
@[simp] theorem send_gov (o : Out) : (s.send o).gov = s.gov := rfl
@[simp] theorem send_met (o : Out) : (s.send o).met = s.met := rfl
@[simp] theorem send_store (o : Out) : (s.send o).store = s.store := rfl
@[simp] theorem send_host (o : Out) : (s.send o).host = s.host := rfl
@[simp] theorem send_tel (o : Out) : (s.send o).tel = s.tel := rfl
@[simp] theorem send_dom (o : Out) : (s.send o).dom = s.dom := rfl
@[simp] theorem send_links (o : Out) : (s.send o).links = s.links := rfl
@[simp] theorem send_hold (o : Out) : (s.send o).hold = s.hold := rfl
@[simp] theorem send_saves (o : Out) : (s.send o).saves = s.saves := rfl
@[simp] theorem send_rtc (o : Out) : (s.send o).rtc = s.rtc := rfl
@[simp] theorem send_seq (o : Out) : (s.send o).seq = s.seq := rfl
@[simp] theorem send_dev (o : Out) : (s.send o).dev = s.dev := rfl
@[simp] theorem send_flt (o : Out) : (s.send o).flt = s.flt := rfl
@[simp] theorem send_ic (o : Out) : (s.send o).ic = s.ic := rfl
@[simp] theorem send_wdt (o : Out) : (s.send o).wdt = s.wdt := rfl
@[simp] theorem send_sec (o : Out) : (s.send o).sec = s.sec := rfl
@[simp] theorem send_tw (o : Out) : (s.send o).tw = s.tw := rfl
@[simp] theorem send_log (o : Out) : (s.send o).log = s.log := rfl
@[simp] theorem send_freeCount (o : Out) : (s.send o).freeCount = s.freeCount := rfl
@[simp] theorem send_pending (o : Out) : (s.send o).pending = s.pending := rfl

/-! ### event -/

@[simp] theorem event_beat (k : Kind) (n t : Nat) (d : List Byte) : (s.event k n t d).beat = s.beat := rfl
@[simp] theorem event_phases (k : Kind) (n t : Nat) (d : List Byte) : (s.event k n t d).phases = s.phases := rfl
@[simp] theorem event_chans (k : Kind) (n t : Nat) (d : List Byte) : (s.event k n t d).chans = s.chans := rfl
@[simp] theorem event_groups (k : Kind) (n t : Nat) (d : List Byte) : (s.event k n t d).groups = s.groups := rfl
@[simp] theorem event_lane (k : Kind) (n t : Nat) (d : List Byte) : (s.event k n t d).lane = s.lane := rfl
@[simp] theorem event_gov (k : Kind) (n t : Nat) (d : List Byte) : (s.event k n t d).gov = s.gov := rfl
@[simp] theorem event_met (k : Kind) (n t : Nat) (d : List Byte) : (s.event k n t d).met = s.met := rfl
@[simp] theorem event_store (k : Kind) (n t : Nat) (d : List Byte) : (s.event k n t d).store = s.store := rfl
@[simp] theorem event_tel (k : Kind) (n t : Nat) (d : List Byte) : (s.event k n t d).tel = s.tel := rfl
@[simp] theorem event_dom (k : Kind) (n t : Nat) (d : List Byte) : (s.event k n t d).dom = s.dom := rfl
@[simp] theorem event_links (k : Kind) (n t : Nat) (d : List Byte) : (s.event k n t d).links = s.links := rfl
@[simp] theorem event_hold (k : Kind) (n t : Nat) (d : List Byte) : (s.event k n t d).hold = s.hold := rfl
@[simp] theorem event_saves (k : Kind) (n t : Nat) (d : List Byte) : (s.event k n t d).saves = s.saves := rfl
@[simp] theorem event_rtc (k : Kind) (n t : Nat) (d : List Byte) : (s.event k n t d).rtc = s.rtc := rfl
@[simp] theorem event_seq (k : Kind) (n t : Nat) (d : List Byte) : (s.event k n t d).seq = s.seq := rfl
@[simp] theorem event_dev (k : Kind) (n t : Nat) (d : List Byte) : (s.event k n t d).dev = s.dev := rfl
@[simp] theorem event_flt (k : Kind) (n t : Nat) (d : List Byte) : (s.event k n t d).flt = s.flt := rfl
@[simp] theorem event_ic (k : Kind) (n t : Nat) (d : List Byte) : (s.event k n t d).ic = s.ic := rfl
@[simp] theorem event_wdt (k : Kind) (n t : Nat) (d : List Byte) : (s.event k n t d).wdt = s.wdt := rfl
@[simp] theorem event_sec (k : Kind) (n t : Nat) (d : List Byte) : (s.event k n t d).sec = s.sec := rfl
@[simp] theorem event_tw (k : Kind) (n t : Nat) (d : List Byte) : (s.event k n t d).tw = s.tw := rfl
@[simp] theorem event_log (k : Kind) (n t : Nat) (d : List Byte) : (s.event k n t d).log = s.log := rfl
@[simp] theorem event_freeCount (k : Kind) (n t : Nat) (d : List Byte) : (s.event k n t d).freeCount = s.freeCount := rfl
@[simp] theorem event_outbox (k : Kind) (n t : Nat) (d : List Byte) : (s.event k n t d).outbox = s.outbox := rfl
@[simp] theorem event_pending (k : Kind) (n t : Nat) (d : List Byte) : (s.event k n t d).pending = s.pending := rfl

/-! ### devEvent -/

@[simp] theorem devEvent_beat (t : Nat) (d : List Byte) : (s.devEvent t d).beat = s.beat := rfl
@[simp] theorem devEvent_phases (t : Nat) (d : List Byte) : (s.devEvent t d).phases = s.phases := rfl
@[simp] theorem devEvent_chans (t : Nat) (d : List Byte) : (s.devEvent t d).chans = s.chans := rfl
@[simp] theorem devEvent_groups (t : Nat) (d : List Byte) : (s.devEvent t d).groups = s.groups := rfl
@[simp] theorem devEvent_lane (t : Nat) (d : List Byte) : (s.devEvent t d).lane = s.lane := rfl
@[simp] theorem devEvent_gov (t : Nat) (d : List Byte) : (s.devEvent t d).gov = s.gov := rfl
@[simp] theorem devEvent_met (t : Nat) (d : List Byte) : (s.devEvent t d).met = s.met := rfl
@[simp] theorem devEvent_store (t : Nat) (d : List Byte) : (s.devEvent t d).store = s.store := rfl
@[simp] theorem devEvent_tel (t : Nat) (d : List Byte) : (s.devEvent t d).tel = s.tel := rfl
@[simp] theorem devEvent_dom (t : Nat) (d : List Byte) : (s.devEvent t d).dom = s.dom := rfl
@[simp] theorem devEvent_links (t : Nat) (d : List Byte) : (s.devEvent t d).links = s.links := rfl
@[simp] theorem devEvent_hold (t : Nat) (d : List Byte) : (s.devEvent t d).hold = s.hold := rfl
@[simp] theorem devEvent_saves (t : Nat) (d : List Byte) : (s.devEvent t d).saves = s.saves := rfl
@[simp] theorem devEvent_rtc (t : Nat) (d : List Byte) : (s.devEvent t d).rtc = s.rtc := rfl
@[simp] theorem devEvent_seq (t : Nat) (d : List Byte) : (s.devEvent t d).seq = s.seq := rfl
@[simp] theorem devEvent_dev (t : Nat) (d : List Byte) : (s.devEvent t d).dev = s.dev := rfl
@[simp] theorem devEvent_flt (t : Nat) (d : List Byte) : (s.devEvent t d).flt = s.flt := rfl
@[simp] theorem devEvent_ic (t : Nat) (d : List Byte) : (s.devEvent t d).ic = s.ic := rfl
@[simp] theorem devEvent_wdt (t : Nat) (d : List Byte) : (s.devEvent t d).wdt = s.wdt := rfl
@[simp] theorem devEvent_sec (t : Nat) (d : List Byte) : (s.devEvent t d).sec = s.sec := rfl
@[simp] theorem devEvent_tw (t : Nat) (d : List Byte) : (s.devEvent t d).tw = s.tw := rfl
@[simp] theorem devEvent_log (t : Nat) (d : List Byte) : (s.devEvent t d).log = s.log := rfl
@[simp] theorem devEvent_freeCount (t : Nat) (d : List Byte) : (s.devEvent t d).freeCount = s.freeCount := rfl
@[simp] theorem devEvent_outbox (t : Nat) (d : List Byte) : (s.devEvent t d).outbox = s.outbox := rfl
@[simp] theorem devEvent_pending (t : Nat) (d : List Byte) : (s.devEvent t d).pending = s.pending := rfl

/-! ### eventAt -/

@[simp] theorem eventAt_beat (b : Beat) (k : Kind) (n t : Nat) (d : List Byte) : (s.eventAt b k n t d).beat = s.beat := rfl
@[simp] theorem eventAt_phases (b : Beat) (k : Kind) (n t : Nat) (d : List Byte) : (s.eventAt b k n t d).phases = s.phases := rfl
@[simp] theorem eventAt_chans (b : Beat) (k : Kind) (n t : Nat) (d : List Byte) : (s.eventAt b k n t d).chans = s.chans := rfl
@[simp] theorem eventAt_groups (b : Beat) (k : Kind) (n t : Nat) (d : List Byte) : (s.eventAt b k n t d).groups = s.groups := rfl
@[simp] theorem eventAt_lane (b : Beat) (k : Kind) (n t : Nat) (d : List Byte) : (s.eventAt b k n t d).lane = s.lane := rfl
@[simp] theorem eventAt_gov (b : Beat) (k : Kind) (n t : Nat) (d : List Byte) : (s.eventAt b k n t d).gov = s.gov := rfl
@[simp] theorem eventAt_met (b : Beat) (k : Kind) (n t : Nat) (d : List Byte) : (s.eventAt b k n t d).met = s.met := rfl
@[simp] theorem eventAt_store (b : Beat) (k : Kind) (n t : Nat) (d : List Byte) : (s.eventAt b k n t d).store = s.store := rfl
@[simp] theorem eventAt_tel (b : Beat) (k : Kind) (n t : Nat) (d : List Byte) : (s.eventAt b k n t d).tel = s.tel := rfl
@[simp] theorem eventAt_dom (b : Beat) (k : Kind) (n t : Nat) (d : List Byte) : (s.eventAt b k n t d).dom = s.dom := rfl
@[simp] theorem eventAt_links (b : Beat) (k : Kind) (n t : Nat) (d : List Byte) : (s.eventAt b k n t d).links = s.links := rfl
@[simp] theorem eventAt_hold (b : Beat) (k : Kind) (n t : Nat) (d : List Byte) : (s.eventAt b k n t d).hold = s.hold := rfl
@[simp] theorem eventAt_saves (b : Beat) (k : Kind) (n t : Nat) (d : List Byte) : (s.eventAt b k n t d).saves = s.saves := rfl
@[simp] theorem eventAt_rtc (b : Beat) (k : Kind) (n t : Nat) (d : List Byte) : (s.eventAt b k n t d).rtc = s.rtc := rfl
@[simp] theorem eventAt_seq (b : Beat) (k : Kind) (n t : Nat) (d : List Byte) : (s.eventAt b k n t d).seq = s.seq := rfl
@[simp] theorem eventAt_dev (b : Beat) (k : Kind) (n t : Nat) (d : List Byte) : (s.eventAt b k n t d).dev = s.dev := rfl
@[simp] theorem eventAt_flt (b : Beat) (k : Kind) (n t : Nat) (d : List Byte) : (s.eventAt b k n t d).flt = s.flt := rfl
@[simp] theorem eventAt_ic (b : Beat) (k : Kind) (n t : Nat) (d : List Byte) : (s.eventAt b k n t d).ic = s.ic := rfl
@[simp] theorem eventAt_wdt (b : Beat) (k : Kind) (n t : Nat) (d : List Byte) : (s.eventAt b k n t d).wdt = s.wdt := rfl
@[simp] theorem eventAt_sec (b : Beat) (k : Kind) (n t : Nat) (d : List Byte) : (s.eventAt b k n t d).sec = s.sec := rfl
@[simp] theorem eventAt_tw (b : Beat) (k : Kind) (n t : Nat) (d : List Byte) : (s.eventAt b k n t d).tw = s.tw := rfl
@[simp] theorem eventAt_log (b : Beat) (k : Kind) (n t : Nat) (d : List Byte) : (s.eventAt b k n t d).log = s.log := rfl
@[simp] theorem eventAt_freeCount (b : Beat) (k : Kind) (n t : Nat) (d : List Byte) : (s.eventAt b k n t d).freeCount = s.freeCount := rfl
@[simp] theorem eventAt_outbox (b : Beat) (k : Kind) (n t : Nat) (d : List Byte) : (s.eventAt b k n t d).outbox = s.outbox := rfl
@[simp] theorem eventAt_pending (b : Beat) (k : Kind) (n t : Nat) (d : List Byte) : (s.eventAt b k n t d).pending = s.pending := rfl

/-! ### irq -/

@[simp] theorem irq_beat (k : Fin 64) : (s.irq k).beat = s.beat := rfl
@[simp] theorem irq_phases (k : Fin 64) : (s.irq k).phases = s.phases := rfl
@[simp] theorem irq_chans (k : Fin 64) : (s.irq k).chans = s.chans := rfl
@[simp] theorem irq_groups (k : Fin 64) : (s.irq k).groups = s.groups := rfl
@[simp] theorem irq_lane (k : Fin 64) : (s.irq k).lane = s.lane := rfl
@[simp] theorem irq_gov (k : Fin 64) : (s.irq k).gov = s.gov := rfl
@[simp] theorem irq_met (k : Fin 64) : (s.irq k).met = s.met := rfl
@[simp] theorem irq_store (k : Fin 64) : (s.irq k).store = s.store := rfl
@[simp] theorem irq_host (k : Fin 64) : (s.irq k).host = s.host := rfl
@[simp] theorem irq_tel (k : Fin 64) : (s.irq k).tel = s.tel := rfl
@[simp] theorem irq_dom (k : Fin 64) : (s.irq k).dom = s.dom := rfl
@[simp] theorem irq_links (k : Fin 64) : (s.irq k).links = s.links := rfl
@[simp] theorem irq_hold (k : Fin 64) : (s.irq k).hold = s.hold := rfl
@[simp] theorem irq_saves (k : Fin 64) : (s.irq k).saves = s.saves := rfl
@[simp] theorem irq_rtc (k : Fin 64) : (s.irq k).rtc = s.rtc := rfl
@[simp] theorem irq_seq (k : Fin 64) : (s.irq k).seq = s.seq := rfl
@[simp] theorem irq_dev (k : Fin 64) : (s.irq k).dev = s.dev := rfl
@[simp] theorem irq_flt (k : Fin 64) : (s.irq k).flt = s.flt := rfl
@[simp] theorem irq_wdt (k : Fin 64) : (s.irq k).wdt = s.wdt := rfl
@[simp] theorem irq_sec (k : Fin 64) : (s.irq k).sec = s.sec := rfl
@[simp] theorem irq_tw (k : Fin 64) : (s.irq k).tw = s.tw := rfl
@[simp] theorem irq_log (k : Fin 64) : (s.irq k).log = s.log := rfl
@[simp] theorem irq_freeCount (k : Fin 64) : (s.irq k).freeCount = s.freeCount := rfl
@[simp] theorem irq_outbox (k : Fin 64) : (s.irq k).outbox = s.outbox := rfl
@[simp] theorem irq_pending (k : Fin 64) : (s.irq k).pending = s.pending := rfl

/-! ### irqPriv -/

@[simp] theorem irqPriv_beat (t : Fin 3) (m : Fin 16) : (s.irqPriv t m).beat = s.beat := rfl
@[simp] theorem irqPriv_phases (t : Fin 3) (m : Fin 16) : (s.irqPriv t m).phases = s.phases := rfl
@[simp] theorem irqPriv_chans (t : Fin 3) (m : Fin 16) : (s.irqPriv t m).chans = s.chans := rfl
@[simp] theorem irqPriv_groups (t : Fin 3) (m : Fin 16) : (s.irqPriv t m).groups = s.groups := rfl
@[simp] theorem irqPriv_lane (t : Fin 3) (m : Fin 16) : (s.irqPriv t m).lane = s.lane := rfl
@[simp] theorem irqPriv_gov (t : Fin 3) (m : Fin 16) : (s.irqPriv t m).gov = s.gov := rfl
@[simp] theorem irqPriv_met (t : Fin 3) (m : Fin 16) : (s.irqPriv t m).met = s.met := rfl
@[simp] theorem irqPriv_store (t : Fin 3) (m : Fin 16) : (s.irqPriv t m).store = s.store := rfl
@[simp] theorem irqPriv_host (t : Fin 3) (m : Fin 16) : (s.irqPriv t m).host = s.host := rfl
@[simp] theorem irqPriv_tel (t : Fin 3) (m : Fin 16) : (s.irqPriv t m).tel = s.tel := rfl
@[simp] theorem irqPriv_dom (t : Fin 3) (m : Fin 16) : (s.irqPriv t m).dom = s.dom := rfl
@[simp] theorem irqPriv_links (t : Fin 3) (m : Fin 16) : (s.irqPriv t m).links = s.links := rfl
@[simp] theorem irqPriv_hold (t : Fin 3) (m : Fin 16) : (s.irqPriv t m).hold = s.hold := rfl
@[simp] theorem irqPriv_saves (t : Fin 3) (m : Fin 16) : (s.irqPriv t m).saves = s.saves := rfl
@[simp] theorem irqPriv_rtc (t : Fin 3) (m : Fin 16) : (s.irqPriv t m).rtc = s.rtc := rfl
@[simp] theorem irqPriv_seq (t : Fin 3) (m : Fin 16) : (s.irqPriv t m).seq = s.seq := rfl
@[simp] theorem irqPriv_dev (t : Fin 3) (m : Fin 16) : (s.irqPriv t m).dev = s.dev := rfl
@[simp] theorem irqPriv_flt (t : Fin 3) (m : Fin 16) : (s.irqPriv t m).flt = s.flt := rfl
@[simp] theorem irqPriv_wdt (t : Fin 3) (m : Fin 16) : (s.irqPriv t m).wdt = s.wdt := rfl
@[simp] theorem irqPriv_sec (t : Fin 3) (m : Fin 16) : (s.irqPriv t m).sec = s.sec := rfl
@[simp] theorem irqPriv_tw (t : Fin 3) (m : Fin 16) : (s.irqPriv t m).tw = s.tw := rfl
@[simp] theorem irqPriv_log (t : Fin 3) (m : Fin 16) : (s.irqPriv t m).log = s.log := rfl
@[simp] theorem irqPriv_freeCount (t : Fin 3) (m : Fin 16) : (s.irqPriv t m).freeCount = s.freeCount := rfl
@[simp] theorem irqPriv_outbox (t : Fin 3) (m : Fin 16) : (s.irqPriv t m).outbox = s.outbox := rfl
@[simp] theorem irqPriv_pending (t : Fin 3) (m : Fin 16) : (s.irqPriv t m).pending = s.pending := rfl

/-! ### modLink -/

@[simp] theorem modLink_beat (x : Fin 2) (f : LinkPort → LinkPort) : (s.modLink x f).beat = s.beat := rfl
@[simp] theorem modLink_phases (x : Fin 2) (f : LinkPort → LinkPort) : (s.modLink x f).phases = s.phases := rfl
@[simp] theorem modLink_chans (x : Fin 2) (f : LinkPort → LinkPort) : (s.modLink x f).chans = s.chans := rfl
@[simp] theorem modLink_groups (x : Fin 2) (f : LinkPort → LinkPort) : (s.modLink x f).groups = s.groups := rfl
@[simp] theorem modLink_lane (x : Fin 2) (f : LinkPort → LinkPort) : (s.modLink x f).lane = s.lane := rfl
@[simp] theorem modLink_gov (x : Fin 2) (f : LinkPort → LinkPort) : (s.modLink x f).gov = s.gov := rfl
@[simp] theorem modLink_met (x : Fin 2) (f : LinkPort → LinkPort) : (s.modLink x f).met = s.met := rfl
@[simp] theorem modLink_store (x : Fin 2) (f : LinkPort → LinkPort) : (s.modLink x f).store = s.store := rfl
@[simp] theorem modLink_host (x : Fin 2) (f : LinkPort → LinkPort) : (s.modLink x f).host = s.host := rfl
@[simp] theorem modLink_tel (x : Fin 2) (f : LinkPort → LinkPort) : (s.modLink x f).tel = s.tel := rfl
@[simp] theorem modLink_dom (x : Fin 2) (f : LinkPort → LinkPort) : (s.modLink x f).dom = s.dom := rfl
@[simp] theorem modLink_hold (x : Fin 2) (f : LinkPort → LinkPort) : (s.modLink x f).hold = s.hold := rfl
@[simp] theorem modLink_saves (x : Fin 2) (f : LinkPort → LinkPort) : (s.modLink x f).saves = s.saves := rfl
@[simp] theorem modLink_rtc (x : Fin 2) (f : LinkPort → LinkPort) : (s.modLink x f).rtc = s.rtc := rfl
@[simp] theorem modLink_seq (x : Fin 2) (f : LinkPort → LinkPort) : (s.modLink x f).seq = s.seq := rfl
@[simp] theorem modLink_dev (x : Fin 2) (f : LinkPort → LinkPort) : (s.modLink x f).dev = s.dev := rfl
@[simp] theorem modLink_flt (x : Fin 2) (f : LinkPort → LinkPort) : (s.modLink x f).flt = s.flt := rfl
@[simp] theorem modLink_ic (x : Fin 2) (f : LinkPort → LinkPort) : (s.modLink x f).ic = s.ic := rfl
@[simp] theorem modLink_wdt (x : Fin 2) (f : LinkPort → LinkPort) : (s.modLink x f).wdt = s.wdt := rfl
@[simp] theorem modLink_sec (x : Fin 2) (f : LinkPort → LinkPort) : (s.modLink x f).sec = s.sec := rfl
@[simp] theorem modLink_tw (x : Fin 2) (f : LinkPort → LinkPort) : (s.modLink x f).tw = s.tw := rfl
@[simp] theorem modLink_log (x : Fin 2) (f : LinkPort → LinkPort) : (s.modLink x f).log = s.log := rfl
@[simp] theorem modLink_freeCount (x : Fin 2) (f : LinkPort → LinkPort) : (s.modLink x f).freeCount = s.freeCount := rfl
@[simp] theorem modLink_outbox (x : Fin 2) (f : LinkPort → LinkPort) : (s.modLink x f).outbox = s.outbox := rfl
@[simp] theorem modLink_pending (x : Fin 2) (f : LinkPort → LinkPort) : (s.modLink x f).pending = s.pending := rfl

/-! ### modRing -/

@[simp] theorem modRing_beat (b : Bool) (f : RingPort → RingPort) : (s.modRing b f).beat = s.beat := rfl
@[simp] theorem modRing_phases (b : Bool) (f : RingPort → RingPort) : (s.modRing b f).phases = s.phases := rfl
@[simp] theorem modRing_chans (b : Bool) (f : RingPort → RingPort) : (s.modRing b f).chans = s.chans := rfl
@[simp] theorem modRing_groups (b : Bool) (f : RingPort → RingPort) : (s.modRing b f).groups = s.groups := rfl
@[simp] theorem modRing_lane (b : Bool) (f : RingPort → RingPort) : (s.modRing b f).lane = s.lane := rfl
@[simp] theorem modRing_gov (b : Bool) (f : RingPort → RingPort) : (s.modRing b f).gov = s.gov := rfl
@[simp] theorem modRing_met (b : Bool) (f : RingPort → RingPort) : (s.modRing b f).met = s.met := rfl
@[simp] theorem modRing_store (b : Bool) (f : RingPort → RingPort) : (s.modRing b f).store = s.store := rfl
@[simp] theorem modRing_host (b : Bool) (f : RingPort → RingPort) : (s.modRing b f).host = s.host := rfl
@[simp] theorem modRing_tel (b : Bool) (f : RingPort → RingPort) : (s.modRing b f).tel = s.tel := rfl
@[simp] theorem modRing_links (b : Bool) (f : RingPort → RingPort) : (s.modRing b f).links = s.links := rfl
@[simp] theorem modRing_hold (b : Bool) (f : RingPort → RingPort) : (s.modRing b f).hold = s.hold := rfl
@[simp] theorem modRing_saves (b : Bool) (f : RingPort → RingPort) : (s.modRing b f).saves = s.saves := rfl
@[simp] theorem modRing_rtc (b : Bool) (f : RingPort → RingPort) : (s.modRing b f).rtc = s.rtc := rfl
@[simp] theorem modRing_seq (b : Bool) (f : RingPort → RingPort) : (s.modRing b f).seq = s.seq := rfl
@[simp] theorem modRing_dev (b : Bool) (f : RingPort → RingPort) : (s.modRing b f).dev = s.dev := rfl
@[simp] theorem modRing_flt (b : Bool) (f : RingPort → RingPort) : (s.modRing b f).flt = s.flt := rfl
@[simp] theorem modRing_ic (b : Bool) (f : RingPort → RingPort) : (s.modRing b f).ic = s.ic := rfl
@[simp] theorem modRing_wdt (b : Bool) (f : RingPort → RingPort) : (s.modRing b f).wdt = s.wdt := rfl
@[simp] theorem modRing_sec (b : Bool) (f : RingPort → RingPort) : (s.modRing b f).sec = s.sec := rfl
@[simp] theorem modRing_tw (b : Bool) (f : RingPort → RingPort) : (s.modRing b f).tw = s.tw := rfl
@[simp] theorem modRing_log (b : Bool) (f : RingPort → RingPort) : (s.modRing b f).log = s.log := rfl
@[simp] theorem modRing_freeCount (b : Bool) (f : RingPort → RingPort) : (s.modRing b f).freeCount = s.freeCount := rfl
@[simp] theorem modRing_outbox (b : Bool) (f : RingPort → RingPort) : (s.modRing b f).outbox = s.outbox := rfl
@[simp] theorem modRing_pending (b : Bool) (f : RingPort → RingPort) : (s.modRing b f).pending = s.pending := rfl

/-! ### modMember -/

@[simp] theorem modMember_beat (a : Nat) (f : Member → Member) : (s.modMember a f).beat = s.beat := rfl
@[simp] theorem modMember_phases (a : Nat) (f : Member → Member) : (s.modMember a f).phases = s.phases := rfl
@[simp] theorem modMember_chans (a : Nat) (f : Member → Member) : (s.modMember a f).chans = s.chans := rfl
@[simp] theorem modMember_groups (a : Nat) (f : Member → Member) : (s.modMember a f).groups = s.groups := rfl
@[simp] theorem modMember_lane (a : Nat) (f : Member → Member) : (s.modMember a f).lane = s.lane := rfl
@[simp] theorem modMember_gov (a : Nat) (f : Member → Member) : (s.modMember a f).gov = s.gov := rfl
@[simp] theorem modMember_met (a : Nat) (f : Member → Member) : (s.modMember a f).met = s.met := rfl
@[simp] theorem modMember_store (a : Nat) (f : Member → Member) : (s.modMember a f).store = s.store := rfl
@[simp] theorem modMember_host (a : Nat) (f : Member → Member) : (s.modMember a f).host = s.host := rfl
@[simp] theorem modMember_tel (a : Nat) (f : Member → Member) : (s.modMember a f).tel = s.tel := rfl
@[simp] theorem modMember_links (a : Nat) (f : Member → Member) : (s.modMember a f).links = s.links := rfl
@[simp] theorem modMember_hold (a : Nat) (f : Member → Member) : (s.modMember a f).hold = s.hold := rfl
@[simp] theorem modMember_saves (a : Nat) (f : Member → Member) : (s.modMember a f).saves = s.saves := rfl
@[simp] theorem modMember_rtc (a : Nat) (f : Member → Member) : (s.modMember a f).rtc = s.rtc := rfl
@[simp] theorem modMember_seq (a : Nat) (f : Member → Member) : (s.modMember a f).seq = s.seq := rfl
@[simp] theorem modMember_dev (a : Nat) (f : Member → Member) : (s.modMember a f).dev = s.dev := rfl
@[simp] theorem modMember_flt (a : Nat) (f : Member → Member) : (s.modMember a f).flt = s.flt := rfl
@[simp] theorem modMember_ic (a : Nat) (f : Member → Member) : (s.modMember a f).ic = s.ic := rfl
@[simp] theorem modMember_wdt (a : Nat) (f : Member → Member) : (s.modMember a f).wdt = s.wdt := rfl
@[simp] theorem modMember_sec (a : Nat) (f : Member → Member) : (s.modMember a f).sec = s.sec := rfl
@[simp] theorem modMember_tw (a : Nat) (f : Member → Member) : (s.modMember a f).tw = s.tw := rfl
@[simp] theorem modMember_log (a : Nat) (f : Member → Member) : (s.modMember a f).log = s.log := rfl
@[simp] theorem modMember_freeCount (a : Nat) (f : Member → Member) : (s.modMember a f).freeCount = s.freeCount := rfl
@[simp] theorem modMember_outbox (a : Nat) (f : Member → Member) : (s.modMember a f).outbox = s.outbox := rfl
@[simp] theorem modMember_pending (a : Nat) (f : Member → Member) : (s.modMember a f).pending = s.pending := rfl

/-! ### modPort -/

@[simp] theorem modPort_beat (p : Fin 4) (f : MetPort → MetPort) : (s.modPort p f).beat = s.beat := rfl
@[simp] theorem modPort_phases (p : Fin 4) (f : MetPort → MetPort) : (s.modPort p f).phases = s.phases := rfl
@[simp] theorem modPort_chans (p : Fin 4) (f : MetPort → MetPort) : (s.modPort p f).chans = s.chans := rfl
@[simp] theorem modPort_groups (p : Fin 4) (f : MetPort → MetPort) : (s.modPort p f).groups = s.groups := rfl
@[simp] theorem modPort_lane (p : Fin 4) (f : MetPort → MetPort) : (s.modPort p f).lane = s.lane := rfl
@[simp] theorem modPort_gov (p : Fin 4) (f : MetPort → MetPort) : (s.modPort p f).gov = s.gov := rfl
@[simp] theorem modPort_store (p : Fin 4) (f : MetPort → MetPort) : (s.modPort p f).store = s.store := rfl
@[simp] theorem modPort_host (p : Fin 4) (f : MetPort → MetPort) : (s.modPort p f).host = s.host := rfl
@[simp] theorem modPort_tel (p : Fin 4) (f : MetPort → MetPort) : (s.modPort p f).tel = s.tel := rfl
@[simp] theorem modPort_dom (p : Fin 4) (f : MetPort → MetPort) : (s.modPort p f).dom = s.dom := rfl
@[simp] theorem modPort_links (p : Fin 4) (f : MetPort → MetPort) : (s.modPort p f).links = s.links := rfl
@[simp] theorem modPort_hold (p : Fin 4) (f : MetPort → MetPort) : (s.modPort p f).hold = s.hold := rfl
@[simp] theorem modPort_saves (p : Fin 4) (f : MetPort → MetPort) : (s.modPort p f).saves = s.saves := rfl
@[simp] theorem modPort_rtc (p : Fin 4) (f : MetPort → MetPort) : (s.modPort p f).rtc = s.rtc := rfl
@[simp] theorem modPort_seq (p : Fin 4) (f : MetPort → MetPort) : (s.modPort p f).seq = s.seq := rfl
@[simp] theorem modPort_dev (p : Fin 4) (f : MetPort → MetPort) : (s.modPort p f).dev = s.dev := rfl
@[simp] theorem modPort_flt (p : Fin 4) (f : MetPort → MetPort) : (s.modPort p f).flt = s.flt := rfl
@[simp] theorem modPort_ic (p : Fin 4) (f : MetPort → MetPort) : (s.modPort p f).ic = s.ic := rfl
@[simp] theorem modPort_wdt (p : Fin 4) (f : MetPort → MetPort) : (s.modPort p f).wdt = s.wdt := rfl
@[simp] theorem modPort_sec (p : Fin 4) (f : MetPort → MetPort) : (s.modPort p f).sec = s.sec := rfl
@[simp] theorem modPort_tw (p : Fin 4) (f : MetPort → MetPort) : (s.modPort p f).tw = s.tw := rfl
@[simp] theorem modPort_log (p : Fin 4) (f : MetPort → MetPort) : (s.modPort p f).log = s.log := rfl
@[simp] theorem modPort_freeCount (p : Fin 4) (f : MetPort → MetPort) : (s.modPort p f).freeCount = s.freeCount := rfl
@[simp] theorem modPort_outbox (p : Fin 4) (f : MetPort → MetPort) : (s.modPort p f).outbox = s.outbox := rfl
@[simp] theorem modPort_pending (p : Fin 4) (f : MetPort → MetPort) : (s.modPort p f).pending = s.pending := rfl

/-! ### modTray -/

@[simp] theorem modTray_beat (t : Fin 4) (f : Tray → Tray) : (s.modTray t f).beat = s.beat := rfl
@[simp] theorem modTray_phases (t : Fin 4) (f : Tray → Tray) : (s.modTray t f).phases = s.phases := rfl
@[simp] theorem modTray_chans (t : Fin 4) (f : Tray → Tray) : (s.modTray t f).chans = s.chans := rfl
@[simp] theorem modTray_groups (t : Fin 4) (f : Tray → Tray) : (s.modTray t f).groups = s.groups := rfl
@[simp] theorem modTray_lane (t : Fin 4) (f : Tray → Tray) : (s.modTray t f).lane = s.lane := rfl
@[simp] theorem modTray_gov (t : Fin 4) (f : Tray → Tray) : (s.modTray t f).gov = s.gov := rfl
@[simp] theorem modTray_met (t : Fin 4) (f : Tray → Tray) : (s.modTray t f).met = s.met := rfl
@[simp] theorem modTray_store (t : Fin 4) (f : Tray → Tray) : (s.modTray t f).store = s.store := rfl
@[simp] theorem modTray_host (t : Fin 4) (f : Tray → Tray) : (s.modTray t f).host = s.host := rfl
@[simp] theorem modTray_tel (t : Fin 4) (f : Tray → Tray) : (s.modTray t f).tel = s.tel := rfl
@[simp] theorem modTray_dom (t : Fin 4) (f : Tray → Tray) : (s.modTray t f).dom = s.dom := rfl
@[simp] theorem modTray_links (t : Fin 4) (f : Tray → Tray) : (s.modTray t f).links = s.links := rfl
@[simp] theorem modTray_hold (t : Fin 4) (f : Tray → Tray) : (s.modTray t f).hold = s.hold := rfl
@[simp] theorem modTray_saves (t : Fin 4) (f : Tray → Tray) : (s.modTray t f).saves = s.saves := rfl
@[simp] theorem modTray_rtc (t : Fin 4) (f : Tray → Tray) : (s.modTray t f).rtc = s.rtc := rfl
@[simp] theorem modTray_seq (t : Fin 4) (f : Tray → Tray) : (s.modTray t f).seq = s.seq := rfl
@[simp] theorem modTray_dev (t : Fin 4) (f : Tray → Tray) : (s.modTray t f).dev = s.dev := rfl
@[simp] theorem modTray_flt (t : Fin 4) (f : Tray → Tray) : (s.modTray t f).flt = s.flt := rfl
@[simp] theorem modTray_ic (t : Fin 4) (f : Tray → Tray) : (s.modTray t f).ic = s.ic := rfl
@[simp] theorem modTray_wdt (t : Fin 4) (f : Tray → Tray) : (s.modTray t f).wdt = s.wdt := rfl
@[simp] theorem modTray_tw (t : Fin 4) (f : Tray → Tray) : (s.modTray t f).tw = s.tw := rfl
@[simp] theorem modTray_log (t : Fin 4) (f : Tray → Tray) : (s.modTray t f).log = s.log := rfl
@[simp] theorem modTray_freeCount (t : Fin 4) (f : Tray → Tray) : (s.modTray t f).freeCount = s.freeCount := rfl
@[simp] theorem modTray_outbox (t : Fin 4) (f : Tray → Tray) : (s.modTray t f).outbox = s.outbox := rfl
@[simp] theorem modTray_pending (t : Fin 4) (f : Tray → Tray) : (s.modTray t f).pending = s.pending := rfl

/-! ### modSlot -/

@[simp] theorem modSlot_beat (k : Fin 12) (f : Slot → Slot) : (s.modSlot k f).beat = s.beat := rfl
@[simp] theorem modSlot_phases (k : Fin 12) (f : Slot → Slot) : (s.modSlot k f).phases = s.phases := rfl
@[simp] theorem modSlot_chans (k : Fin 12) (f : Slot → Slot) : (s.modSlot k f).chans = s.chans := rfl
@[simp] theorem modSlot_groups (k : Fin 12) (f : Slot → Slot) : (s.modSlot k f).groups = s.groups := rfl
@[simp] theorem modSlot_lane (k : Fin 12) (f : Slot → Slot) : (s.modSlot k f).lane = s.lane := rfl
@[simp] theorem modSlot_gov (k : Fin 12) (f : Slot → Slot) : (s.modSlot k f).gov = s.gov := rfl
@[simp] theorem modSlot_met (k : Fin 12) (f : Slot → Slot) : (s.modSlot k f).met = s.met := rfl
@[simp] theorem modSlot_store (k : Fin 12) (f : Slot → Slot) : (s.modSlot k f).store = s.store := rfl
@[simp] theorem modSlot_host (k : Fin 12) (f : Slot → Slot) : (s.modSlot k f).host = s.host := rfl
@[simp] theorem modSlot_tel (k : Fin 12) (f : Slot → Slot) : (s.modSlot k f).tel = s.tel := rfl
@[simp] theorem modSlot_dom (k : Fin 12) (f : Slot → Slot) : (s.modSlot k f).dom = s.dom := rfl
@[simp] theorem modSlot_links (k : Fin 12) (f : Slot → Slot) : (s.modSlot k f).links = s.links := rfl
@[simp] theorem modSlot_hold (k : Fin 12) (f : Slot → Slot) : (s.modSlot k f).hold = s.hold := rfl
@[simp] theorem modSlot_saves (k : Fin 12) (f : Slot → Slot) : (s.modSlot k f).saves = s.saves := rfl
@[simp] theorem modSlot_rtc (k : Fin 12) (f : Slot → Slot) : (s.modSlot k f).rtc = s.rtc := rfl
@[simp] theorem modSlot_dev (k : Fin 12) (f : Slot → Slot) : (s.modSlot k f).dev = s.dev := rfl
@[simp] theorem modSlot_flt (k : Fin 12) (f : Slot → Slot) : (s.modSlot k f).flt = s.flt := rfl
@[simp] theorem modSlot_ic (k : Fin 12) (f : Slot → Slot) : (s.modSlot k f).ic = s.ic := rfl
@[simp] theorem modSlot_wdt (k : Fin 12) (f : Slot → Slot) : (s.modSlot k f).wdt = s.wdt := rfl
@[simp] theorem modSlot_sec (k : Fin 12) (f : Slot → Slot) : (s.modSlot k f).sec = s.sec := rfl
@[simp] theorem modSlot_tw (k : Fin 12) (f : Slot → Slot) : (s.modSlot k f).tw = s.tw := rfl
@[simp] theorem modSlot_log (k : Fin 12) (f : Slot → Slot) : (s.modSlot k f).log = s.log := rfl
@[simp] theorem modSlot_freeCount (k : Fin 12) (f : Slot → Slot) : (s.modSlot k f).freeCount = s.freeCount := rfl
@[simp] theorem modSlot_outbox (k : Fin 12) (f : Slot → Slot) : (s.modSlot k f).outbox = s.outbox := rfl
@[simp] theorem modSlot_pending (k : Fin 12) (f : Slot → Slot) : (s.modSlot k f).pending = s.pending := rfl

/-! ### modStream -/

@[simp] theorem modStream_beat (k : Fin 8) (f : Stream → Stream) : (s.modStream k f).beat = s.beat := rfl
@[simp] theorem modStream_phases (k : Fin 8) (f : Stream → Stream) : (s.modStream k f).phases = s.phases := rfl
@[simp] theorem modStream_chans (k : Fin 8) (f : Stream → Stream) : (s.modStream k f).chans = s.chans := rfl
@[simp] theorem modStream_groups (k : Fin 8) (f : Stream → Stream) : (s.modStream k f).groups = s.groups := rfl
@[simp] theorem modStream_lane (k : Fin 8) (f : Stream → Stream) : (s.modStream k f).lane = s.lane := rfl
@[simp] theorem modStream_gov (k : Fin 8) (f : Stream → Stream) : (s.modStream k f).gov = s.gov := rfl
@[simp] theorem modStream_met (k : Fin 8) (f : Stream → Stream) : (s.modStream k f).met = s.met := rfl
@[simp] theorem modStream_store (k : Fin 8) (f : Stream → Stream) : (s.modStream k f).store = s.store := rfl
@[simp] theorem modStream_host (k : Fin 8) (f : Stream → Stream) : (s.modStream k f).host = s.host := rfl
@[simp] theorem modStream_dom (k : Fin 8) (f : Stream → Stream) : (s.modStream k f).dom = s.dom := rfl
@[simp] theorem modStream_links (k : Fin 8) (f : Stream → Stream) : (s.modStream k f).links = s.links := rfl
@[simp] theorem modStream_hold (k : Fin 8) (f : Stream → Stream) : (s.modStream k f).hold = s.hold := rfl
@[simp] theorem modStream_saves (k : Fin 8) (f : Stream → Stream) : (s.modStream k f).saves = s.saves := rfl
@[simp] theorem modStream_rtc (k : Fin 8) (f : Stream → Stream) : (s.modStream k f).rtc = s.rtc := rfl
@[simp] theorem modStream_seq (k : Fin 8) (f : Stream → Stream) : (s.modStream k f).seq = s.seq := rfl
@[simp] theorem modStream_dev (k : Fin 8) (f : Stream → Stream) : (s.modStream k f).dev = s.dev := rfl
@[simp] theorem modStream_flt (k : Fin 8) (f : Stream → Stream) : (s.modStream k f).flt = s.flt := rfl
@[simp] theorem modStream_ic (k : Fin 8) (f : Stream → Stream) : (s.modStream k f).ic = s.ic := rfl
@[simp] theorem modStream_wdt (k : Fin 8) (f : Stream → Stream) : (s.modStream k f).wdt = s.wdt := rfl
@[simp] theorem modStream_sec (k : Fin 8) (f : Stream → Stream) : (s.modStream k f).sec = s.sec := rfl
@[simp] theorem modStream_tw (k : Fin 8) (f : Stream → Stream) : (s.modStream k f).tw = s.tw := rfl
@[simp] theorem modStream_log (k : Fin 8) (f : Stream → Stream) : (s.modStream k f).log = s.log := rfl
@[simp] theorem modStream_freeCount (k : Fin 8) (f : Stream → Stream) : (s.modStream k f).freeCount = s.freeCount := rfl
@[simp] theorem modStream_outbox (k : Fin 8) (f : Stream → Stream) : (s.modStream k f).outbox = s.outbox := rfl
@[simp] theorem modStream_pending (k : Fin 8) (f : Stream → Stream) : (s.modStream k f).pending = s.pending := rfl

/-! ### modBus -/

@[simp] theorem modBus_beat (b : Fin 6) (f : Bus → Bus) : (s.modBus b f).beat = s.beat := rfl
@[simp] theorem modBus_phases (b : Fin 6) (f : Bus → Bus) : (s.modBus b f).phases = s.phases := rfl
@[simp] theorem modBus_chans (b : Fin 6) (f : Bus → Bus) : (s.modBus b f).chans = s.chans := rfl
@[simp] theorem modBus_groups (b : Fin 6) (f : Bus → Bus) : (s.modBus b f).groups = s.groups := rfl
@[simp] theorem modBus_lane (b : Fin 6) (f : Bus → Bus) : (s.modBus b f).lane = s.lane := rfl
@[simp] theorem modBus_gov (b : Fin 6) (f : Bus → Bus) : (s.modBus b f).gov = s.gov := rfl
@[simp] theorem modBus_met (b : Fin 6) (f : Bus → Bus) : (s.modBus b f).met = s.met := rfl
@[simp] theorem modBus_store (b : Fin 6) (f : Bus → Bus) : (s.modBus b f).store = s.store := rfl
@[simp] theorem modBus_host (b : Fin 6) (f : Bus → Bus) : (s.modBus b f).host = s.host := rfl
@[simp] theorem modBus_tel (b : Fin 6) (f : Bus → Bus) : (s.modBus b f).tel = s.tel := rfl
@[simp] theorem modBus_dom (b : Fin 6) (f : Bus → Bus) : (s.modBus b f).dom = s.dom := rfl
@[simp] theorem modBus_links (b : Fin 6) (f : Bus → Bus) : (s.modBus b f).links = s.links := rfl
@[simp] theorem modBus_hold (b : Fin 6) (f : Bus → Bus) : (s.modBus b f).hold = s.hold := rfl
@[simp] theorem modBus_saves (b : Fin 6) (f : Bus → Bus) : (s.modBus b f).saves = s.saves := rfl
@[simp] theorem modBus_rtc (b : Fin 6) (f : Bus → Bus) : (s.modBus b f).rtc = s.rtc := rfl
@[simp] theorem modBus_seq (b : Fin 6) (f : Bus → Bus) : (s.modBus b f).seq = s.seq := rfl
@[simp] theorem modBus_dev (b : Fin 6) (f : Bus → Bus) : (s.modBus b f).dev = s.dev := rfl
@[simp] theorem modBus_flt (b : Fin 6) (f : Bus → Bus) : (s.modBus b f).flt = s.flt := rfl
@[simp] theorem modBus_ic (b : Fin 6) (f : Bus → Bus) : (s.modBus b f).ic = s.ic := rfl
@[simp] theorem modBus_wdt (b : Fin 6) (f : Bus → Bus) : (s.modBus b f).wdt = s.wdt := rfl
@[simp] theorem modBus_sec (b : Fin 6) (f : Bus → Bus) : (s.modBus b f).sec = s.sec := rfl
@[simp] theorem modBus_log (b : Fin 6) (f : Bus → Bus) : (s.modBus b f).log = s.log := rfl
@[simp] theorem modBus_freeCount (b : Fin 6) (f : Bus → Bus) : (s.modBus b f).freeCount = s.freeCount := rfl
@[simp] theorem modBus_outbox (b : Fin 6) (f : Bus → Bus) : (s.modBus b f).outbox = s.outbox := rfl
@[simp] theorem modBus_pending (b : Fin 6) (f : Bus → Bus) : (s.modBus b f).pending = s.pending := rfl

/-! ### modCmp -/

@[simp] theorem modCmp_beat (p : PhaseNo) (f : Cmp → Cmp) : (s.modCmp p f).beat = s.beat := rfl
@[simp] theorem modCmp_phases (p : PhaseNo) (f : Cmp → Cmp) : (s.modCmp p f).phases = s.phases := rfl
@[simp] theorem modCmp_chans (p : PhaseNo) (f : Cmp → Cmp) : (s.modCmp p f).chans = s.chans := rfl
@[simp] theorem modCmp_lane (p : PhaseNo) (f : Cmp → Cmp) : (s.modCmp p f).lane = s.lane := rfl
@[simp] theorem modCmp_gov (p : PhaseNo) (f : Cmp → Cmp) : (s.modCmp p f).gov = s.gov := rfl
@[simp] theorem modCmp_met (p : PhaseNo) (f : Cmp → Cmp) : (s.modCmp p f).met = s.met := rfl
@[simp] theorem modCmp_store (p : PhaseNo) (f : Cmp → Cmp) : (s.modCmp p f).store = s.store := rfl
@[simp] theorem modCmp_host (p : PhaseNo) (f : Cmp → Cmp) : (s.modCmp p f).host = s.host := rfl
@[simp] theorem modCmp_tel (p : PhaseNo) (f : Cmp → Cmp) : (s.modCmp p f).tel = s.tel := rfl
@[simp] theorem modCmp_dom (p : PhaseNo) (f : Cmp → Cmp) : (s.modCmp p f).dom = s.dom := rfl
@[simp] theorem modCmp_links (p : PhaseNo) (f : Cmp → Cmp) : (s.modCmp p f).links = s.links := rfl
@[simp] theorem modCmp_hold (p : PhaseNo) (f : Cmp → Cmp) : (s.modCmp p f).hold = s.hold := rfl
@[simp] theorem modCmp_saves (p : PhaseNo) (f : Cmp → Cmp) : (s.modCmp p f).saves = s.saves := rfl
@[simp] theorem modCmp_rtc (p : PhaseNo) (f : Cmp → Cmp) : (s.modCmp p f).rtc = s.rtc := rfl
@[simp] theorem modCmp_seq (p : PhaseNo) (f : Cmp → Cmp) : (s.modCmp p f).seq = s.seq := rfl
@[simp] theorem modCmp_dev (p : PhaseNo) (f : Cmp → Cmp) : (s.modCmp p f).dev = s.dev := rfl
@[simp] theorem modCmp_flt (p : PhaseNo) (f : Cmp → Cmp) : (s.modCmp p f).flt = s.flt := rfl
@[simp] theorem modCmp_ic (p : PhaseNo) (f : Cmp → Cmp) : (s.modCmp p f).ic = s.ic := rfl
@[simp] theorem modCmp_wdt (p : PhaseNo) (f : Cmp → Cmp) : (s.modCmp p f).wdt = s.wdt := rfl
@[simp] theorem modCmp_sec (p : PhaseNo) (f : Cmp → Cmp) : (s.modCmp p f).sec = s.sec := rfl
@[simp] theorem modCmp_tw (p : PhaseNo) (f : Cmp → Cmp) : (s.modCmp p f).tw = s.tw := rfl
@[simp] theorem modCmp_log (p : PhaseNo) (f : Cmp → Cmp) : (s.modCmp p f).log = s.log := rfl
@[simp] theorem modCmp_freeCount (p : PhaseNo) (f : Cmp → Cmp) : (s.modCmp p f).freeCount = s.freeCount := rfl
@[simp] theorem modCmp_outbox (p : PhaseNo) (f : Cmp → Cmp) : (s.modCmp p f).outbox = s.outbox := rfl
@[simp] theorem modCmp_pending (p : PhaseNo) (f : Cmp → Cmp) : (s.modCmp p f).pending = s.pending := rfl

/-! ### modTarget -/

@[simp] theorem modTarget_beat (v : Bool) (f : Target → Target) : (s.modTarget v f).beat = s.beat := rfl
@[simp] theorem modTarget_phases (v : Bool) (f : Target → Target) : (s.modTarget v f).phases = s.phases := rfl
@[simp] theorem modTarget_chans (v : Bool) (f : Target → Target) : (s.modTarget v f).chans = s.chans := rfl
@[simp] theorem modTarget_groups (v : Bool) (f : Target → Target) : (s.modTarget v f).groups = s.groups := rfl
@[simp] theorem modTarget_lane (v : Bool) (f : Target → Target) : (s.modTarget v f).lane = s.lane := rfl
@[simp] theorem modTarget_gov (v : Bool) (f : Target → Target) : (s.modTarget v f).gov = s.gov := rfl
@[simp] theorem modTarget_met (v : Bool) (f : Target → Target) : (s.modTarget v f).met = s.met := rfl
@[simp] theorem modTarget_store (v : Bool) (f : Target → Target) : (s.modTarget v f).store = s.store := rfl
@[simp] theorem modTarget_host (v : Bool) (f : Target → Target) : (s.modTarget v f).host = s.host := rfl
@[simp] theorem modTarget_tel (v : Bool) (f : Target → Target) : (s.modTarget v f).tel = s.tel := rfl
@[simp] theorem modTarget_dom (v : Bool) (f : Target → Target) : (s.modTarget v f).dom = s.dom := rfl
@[simp] theorem modTarget_links (v : Bool) (f : Target → Target) : (s.modTarget v f).links = s.links := rfl
@[simp] theorem modTarget_hold (v : Bool) (f : Target → Target) : (s.modTarget v f).hold = s.hold := rfl
@[simp] theorem modTarget_saves (v : Bool) (f : Target → Target) : (s.modTarget v f).saves = s.saves := rfl
@[simp] theorem modTarget_rtc (v : Bool) (f : Target → Target) : (s.modTarget v f).rtc = s.rtc := rfl
@[simp] theorem modTarget_seq (v : Bool) (f : Target → Target) : (s.modTarget v f).seq = s.seq := rfl
@[simp] theorem modTarget_dev (v : Bool) (f : Target → Target) : (s.modTarget v f).dev = s.dev := rfl
@[simp] theorem modTarget_flt (v : Bool) (f : Target → Target) : (s.modTarget v f).flt = s.flt := rfl
@[simp] theorem modTarget_ic (v : Bool) (f : Target → Target) : (s.modTarget v f).ic = s.ic := rfl
@[simp] theorem modTarget_wdt (v : Bool) (f : Target → Target) : (s.modTarget v f).wdt = s.wdt := rfl
@[simp] theorem modTarget_sec (v : Bool) (f : Target → Target) : (s.modTarget v f).sec = s.sec := rfl
@[simp] theorem modTarget_log (v : Bool) (f : Target → Target) : (s.modTarget v f).log = s.log := rfl
@[simp] theorem modTarget_freeCount (v : Bool) (f : Target → Target) : (s.modTarget v f).freeCount = s.freeCount := rfl
@[simp] theorem modTarget_outbox (v : Bool) (f : Target → Target) : (s.modTarget v f).outbox = s.outbox := rfl
@[simp] theorem modTarget_pending (v : Bool) (f : Target → Target) : (s.modTarget v f).pending = s.pending := rfl

/-- What is sent is appended (log entry 6). -/
@[simp] theorem send_outbox (o : Out) : (s.send o).outbox = s.outbox ++ [o] := rfl

end Sys2Proof.Laws
end

