-- ==== Sys2Proof/Laws/Settle.lean ====
section
/-!
SUPPORT. What the settling of a command can change (R288, R469 to R473, R512): the words of the OTP counter, the inputs
and pending bits of the interrupt sources, IRQ_N, WAKE_N and MSI-X vector 0. Everything else is as the command left it.
-/
namespace Sys2Proof.Laws
open Sys2Proof.Machine

/-- A raise of the counter changes the two copies of the OTP alone (R512). -/
theorem svnRaise_form (s : State) (v : Nat) :
    ∃ a b, s.svnRaise v = { s with sec := { s.sec with otpA := a, otpB := b } } := by
  unfold State.svnRaise
  generalize List.range 256 = l
  induction l generalizing s with
  | nil => exact ⟨s.sec.otpA, s.sec.otpB, rfl⟩
  | cons i l ih =>
    simp only [List.foldl_cons]
    split
    · obtain ⟨a, b, h⟩ := ih (s.burnWord (320 + i / 32) (1#32 <<< (i % 32)) 0 0)
      rw [h]
      unfold State.burnWord
      split
      · exact ⟨a, b, rfl⟩
      · exact ⟨a, b, rfl⟩
    · exact ih s

/-- The raise that waits for READY changes the OTP and its own mark alone (R512). -/
theorem svnReady_form (s : State) :
    ∃ a b r, s.svnReady = { s with sec := { s.sec with otpA := a, otpB := b, raiseSvn := r } } := by
  unfold State.svnReady
  split
  · split
    · obtain ⟨a, b, h⟩ := svnRaise_form s ‹Nat›
      exact ⟨a, b, none, by rw [h]; rfl⟩
    · exact ⟨_, _, _, rfl⟩
  · exact ⟨_, _, _, rfl⟩

/-- Nothing changes while no raise of the counter waits. -/
theorem svnReady_none (s : State) (h : s.sec.raiseSvn = none) : s.svnReady = s := by
  unfold State.svnReady; rw [h]

/-- Vector 0 goes out or stays pending (R288). -/
theorem vector_form (s : State) (v : Nat) :
    ∃ p o, s.vector v = { s with host := { s.host with msixPend := p }, outbox := o } := by
  unfold State.vector
  split
  · exact ⟨_, _, rfl⟩
  · split
    · exact ⟨_, _, rfl⟩
    · exact ⟨_, _, rfl⟩

/-- The outputs that follow what T2 can be delivered. -/
theorem settleT2_form (s : State) :
    ∃ d n w p o, s.settleT2 = { s with ic := { s.ic with delivered := d, irqN := n }
                                       host := { s.host with wakeN := w, msixPend := p }, outbox := o } := by
  unfold State.settleT2
  dsimp only
  split
  · obtain ⟨p, o, hv⟩ := vector_form
      { s with ic := { s.ic with delivered := (s.ic.best 2).isSome, irqN := !((s.ic.best 2).isSome || s.dev.state == .cocoon) }
               host := { s.host with wakeN := !(s.host.d3 && s.host.pmeEn && (s.ic.best 2).isSome)
                                     msixPend := if (s.ic.best 2).isSome then s.host.msixPend
                                                 else s.host.msixPend &&& ~~~1#32 } } 0
    exact ⟨_, _, _, p, o, hv⟩
  · exact ⟨_, _, _, _, s.outbox, rfl⟩

/-- What a new latency changes (R247). -/
theorem settleLtr_form (s : State) :
    ∃ l o, s.settleLtr = { s with host := { s.host with ltrSent := l }, outbox := o } := by
  unfold State.settleLtr
  split
  · exact ⟨_, _, rfl⟩
  · exact ⟨_, _, rfl⟩

/-- Everything that settling can change, in one equation. -/
theorem settle_form (s : State) :
    ∃ a b r src d n w p l o, settle s =
      { s with sec := { s.sec with otpA := a, otpB := b, raiseSvn := r }
               ic := { s.ic with src := src, delivered := d, irqN := n }
               host := { s.host with wakeN := w, msixPend := p, ltrSent := l }, outbox := o } := by
  obtain ⟨a, b, r, h⟩ := svnReady_form s
  obtain ⟨d, n, w, p, o, h2⟩ := settleT2_form s.svnReady.settleInputs
  obtain ⟨l, o', h3⟩ := settleLtr_form s.svnReady.settleInputs.settleT2
  refine ⟨a, b, r, Vector.ofFn s.svnReady.settledSrc, d, n, w, p, l, o', ?_⟩
  unfold settle
  rw [h3, h2]
  unfold State.settleInputs
  generalize Vector.ofFn s.svnReady.settledSrc = src
  rw [h]

section Fields
variable (s : State)

@[simp] theorem settle_beat : (settle s).beat = s.beat := by
  obtain ⟨_, _, _, _, _, _, _, _, _, _, h⟩ := settle_form s; rw [h]
@[simp] theorem settle_phases : (settle s).phases = s.phases := by
  obtain ⟨_, _, _, _, _, _, _, _, _, _, h⟩ := settle_form s; rw [h]
@[simp] theorem settle_chans : (settle s).chans = s.chans := by
  obtain ⟨_, _, _, _, _, _, _, _, _, _, h⟩ := settle_form s; rw [h]
@[simp] theorem settle_groups : (settle s).groups = s.groups := by
  obtain ⟨_, _, _, _, _, _, _, _, _, _, h⟩ := settle_form s; rw [h]
@[simp] theorem settle_lane : (settle s).lane = s.lane := by
  obtain ⟨_, _, _, _, _, _, _, _, _, _, h⟩ := settle_form s; rw [h]
@[simp] theorem settle_gov : (settle s).gov = s.gov := by
  obtain ⟨_, _, _, _, _, _, _, _, _, _, h⟩ := settle_form s; rw [h]
@[simp] theorem settle_met : (settle s).met = s.met := by
  obtain ⟨_, _, _, _, _, _, _, _, _, _, h⟩ := settle_form s; rw [h]
@[simp] theorem settle_store : (settle s).store = s.store := by
  obtain ⟨_, _, _, _, _, _, _, _, _, _, h⟩ := settle_form s; rw [h]
@[simp] theorem settle_tel : (settle s).tel = s.tel := by
  obtain ⟨_, _, _, _, _, _, _, _, _, _, h⟩ := settle_form s; rw [h]
@[simp] theorem settle_dom : (settle s).dom = s.dom := by
  obtain ⟨_, _, _, _, _, _, _, _, _, _, h⟩ := settle_form s; rw [h]
@[simp] theorem settle_links : (settle s).links = s.links := by
  obtain ⟨_, _, _, _, _, _, _, _, _, _, h⟩ := settle_form s; rw [h]
@[simp] theorem settle_hold : (settle s).hold = s.hold := by
  obtain ⟨_, _, _, _, _, _, _, _, _, _, h⟩ := settle_form s; rw [h]
@[simp] theorem settle_saves : (settle s).saves = s.saves := by
  obtain ⟨_, _, _, _, _, _, _, _, _, _, h⟩ := settle_form s; rw [h]
@[simp] theorem settle_rtc : (settle s).rtc = s.rtc := by
  obtain ⟨_, _, _, _, _, _, _, _, _, _, h⟩ := settle_form s; rw [h]
@[simp] theorem settle_seq : (settle s).seq = s.seq := by
  obtain ⟨_, _, _, _, _, _, _, _, _, _, h⟩ := settle_form s; rw [h]
@[simp] theorem settle_dev : (settle s).dev = s.dev := by
  obtain ⟨_, _, _, _, _, _, _, _, _, _, h⟩ := settle_form s; rw [h]
@[simp] theorem settle_flt : (settle s).flt = s.flt := by
  obtain ⟨_, _, _, _, _, _, _, _, _, _, h⟩ := settle_form s; rw [h]
@[simp] theorem settle_wdt : (settle s).wdt = s.wdt := by
  obtain ⟨_, _, _, _, _, _, _, _, _, _, h⟩ := settle_form s; rw [h]
@[simp] theorem settle_tw : (settle s).tw = s.tw := by
  obtain ⟨_, _, _, _, _, _, _, _, _, _, h⟩ := settle_form s; rw [h]
@[simp] theorem settle_log : (settle s).log = s.log := by
  obtain ⟨_, _, _, _, _, _, _, _, _, _, h⟩ := settle_form s; rw [h]
@[simp] theorem settle_freeCount : (settle s).freeCount = s.freeCount := by
  obtain ⟨_, _, _, _, _, _, _, _, _, _, h⟩ := settle_form s; rw [h]
@[simp] theorem settle_pending : (settle s).pending = s.pending := by
  obtain ⟨_, _, _, _, _, _, _, _, _, _, h⟩ := settle_form s; rw [h]

/-- The host interface after settling: only WAKE_N, the pending vectors and the latency reported may differ. -/
theorem settle_host : ∃ w p l, (settle s).host = { s.host with wakeN := w, msixPend := p, ltrSent := l } := by
  obtain ⟨_, _, _, _, _, _, w, p, l, _, h⟩ := settle_form s; exact ⟨w, p, l, by rw [h]⟩
/-- The security block after settling: only the OTP copies and the mark of a waiting raise may differ. -/
theorem settle_sec : ∃ a b r, (settle s).sec = { s.sec with otpA := a, otpB := b, raiseSvn := r } := by
  obtain ⟨a, b, r, _, _, _, _, _, _, _, h⟩ := settle_form s; exact ⟨a, b, r, by rw [h]⟩
/-- The interrupt controller after settling. -/
theorem settle_ic : ∃ src d n, (settle s).ic = { s.ic with src := src, delivered := d, irqN := n } := by
  obtain ⟨_, _, _, src, d, n, _, _, _, _, h⟩ := settle_form s; exact ⟨src, d, n, by rw [h]⟩

end Fields

/-- A vector is appended to what is sent, or nothing is. -/
theorem vector_outbox (s : State) (v : Nat) : ∃ l, (s.vector v).outbox = s.outbox ++ l := by
  unfold State.vector
  split
  · exact ⟨[], by simp⟩
  · split
    · exact ⟨[], by simp⟩
    · exact ⟨[.msix v], rfl⟩

/-- What is sent while a command acts stays sent: settling only appends. -/
theorem settle_outbox (s : State) : ∃ l, (settle s).outbox = s.outbox ++ l := by
  obtain ⟨a, b, r, h⟩ := svnReady_form s
  have hu : s.svnReady.settleInputs.outbox = s.outbox := by
    simp only [State.settleInputs]
    rw [h]
  unfold settle
  rw [← hu]
  generalize s.svnReady.settleInputs = u
  obtain ⟨l, h1⟩ : ∃ l, u.settleT2.outbox = u.outbox ++ l := by
    unfold State.settleT2
    dsimp only
    split
    · exact vector_outbox _ 0
    · exact ⟨[], by simp⟩
  unfold State.settleLtr
  split
  · exact ⟨l ++ [.ltr u.settleT2.ltrUs], by simp [h1]⟩
  · exact ⟨l, h1⟩

end Sys2Proof.Laws
end

