-- ==== Sys2Proof/Laws/Fault.lean ====
section
/-!
SUPPORT. What trips, stops of the alive output, orderly stops, power-downs of the board and raises of a fault source leave
as it was: the beat unit, the slices and windows, the lane, the governor, the metrology ports, the stores, the domain, the
clock, the watchdog, the security block, the two-wire buses and the queue; and the FLT_HIT bit that a raise sets (R450).
-/
namespace Sys2Proof.Laws
open Sys2Proof.Machine

/-- The parts of State that no trip, stop or fault action changes. -/
def far (s : State) :=
  (s.beat, s.groups, s.lane, s.gov, s.met, s.store, s.tel, s.dom, s.rtc, s.wdt, s.sec, s.tw, s.freeCount, s.pending)

/-- What every element keeps, the whole list keeps. -/
theorem forEach_keep {α β : Type} (π : State → β) (l : List α) (f : State → α → State)
    (h : ∀ s a, π (f s a) = π s) (s : State) : π (forEach l s f) = π s := by
  unfold forEach
  induction l generalizing s with
  | nil => rfl
  | cons a l ih => rw [List.foldl_cons, ih, h]

/-- What no step of a fold undoes holds after it. -/
theorem forEach_holds {α : Type} (P : State → Prop) (l : List α) (f : State → α → State)
    (h : ∀ s a, P s → P (f s a)) (s : State) (hs : P s) : P (forEach l s f) := by
  unfold forEach
  induction l generalizing s with
  | nil => exact hs
  | cons a l ih => rw [List.foldl_cons]; exact ih _ (h _ _ hs)

/-- What one element brings about and none undoes holds after the fold. -/
theorem forEach_reach {α : Type} (P : State → Prop) (l : List α) (f : State → α → State)
    (h : ∀ s a, P s → P (f s a)) (a : α) (ha : a ∈ l) (hp : ∀ s, P (f s a)) (s : State) : P (forEach l s f) := by
  unfold forEach
  induction l generalizing s with
  | nil => cases ha
  | cons b l ih =>
    rw [List.foldl_cons]
    rcases List.mem_cons.mp ha with hb | hb
    · subst hb; exact forEach_holds P l f h _ (hp _)
    · exact ih hb _

/-- What both branches keep, a choice between them keeps. -/
theorem ite_keep {β : Type} (π : State → β) (c : Prop) [Decidable c] {x y : State} {v : β} (hx : π x = v) (hy : π y = v) :
    π (if c then x else y) = v := by split <;> assumption

@[simp] theorem modPhase_far (s : State) (n : PhaseNo) (f : Phase → Phase) : far (s.modPhase n f) = far s := rfl
@[simp] theorem modChan_far (s : State) (n : ChanNo) (f : Chan → Chan) : far (s.modChan n f) = far s := rfl
@[simp] theorem modHost_far (s : State) (f : HostIf → HostIf) : far (s.modHost f) = far s := rfl
@[simp] theorem modHold_far (s : State) (f : Holdup → Holdup) : far (s.modHold f) = far s := rfl
@[simp] theorem modSeq_far (s : State) (f : Seqr → Seqr) : far (s.modSeq f) = far s := rfl
@[simp] theorem modDev_far (s : State) (f : Device → Device) : far (s.modDev f) = far s := rfl
@[simp] theorem modFlt_far (s : State) (f : Faults → Faults) : far (s.modFlt f) = far s := rfl
@[simp] theorem modIc_far (s : State) (f : Irq → Irq) : far (s.modIc f) = far s := rfl
@[simp] theorem modSaves_far (s : State) (f : Saves → Saves) : far (s.modSaves f) = far s := rfl
@[simp] theorem modLink_far (s : State) (x : Fin 2) (f : LinkPort → LinkPort) : far (s.modLink x f) = far s := rfl
@[simp] theorem modSlot_far (s : State) (k : Fin 12) (f : Slot → Slot) : far (s.modSlot k f) = far s := rfl
@[simp] theorem event_far (s : State) (k : Kind) (n t : Nat) (d : List Byte) : far (s.event k n t d) = far s := rfl
@[simp] theorem devEvent_far (s : State) (t : Nat) (d : List Byte) : far (s.devEvent t d) = far s := rfl
@[simp] theorem irq_far (s : State) (k : Fin 64) : far (s.irq k) = far s := rfl
@[simp] theorem irqPriv_far (s : State) (t : Fin 3) (m : Fin 16) : far (s.irqPriv t m) = far s := rfl
@[simp] theorem send_far (s : State) (o : Out) : far (s.send o) = far s := rfl
@[simp] theorem logRec_far (s : State) (a b : Nat) (d : List Byte) : far (s.logRec a b d) = far s := rfl
@[simp] theorem slotOff_far (s : State) (k : Fin 12) : far (s.slotOff k) = far s := rfl
@[simp] theorem lowResets_far (s : State) (q : Fin 4 → Bool) : far (s.lowResets q) = far s := rfl
@[simp] theorem request_far (s : State) (n : ChanNo) (r : Request) (d : Beat) (c : Option Nat) : far (s.request n r d c) = far s := rfl
@[simp] theorem allGatesLow_far (s : State) : far (s.allGatesLow) = far s := rfl
@[simp] theorem linkOpen_far (s : State) (x : Fin 2) : far (s.linkOpen x) = far s := rfl

@[simp] theorem logRec_flt (s : State) (a b : Nat) (d : List Byte) : (s.logRec a b d).flt = s.flt := rfl
@[simp] theorem slotOff_flt (s : State) (k : Fin 12) : (s.slotOff k).flt = s.flt := rfl
@[simp] theorem lowResets_flt (s : State) (q : Fin 4 → Bool) : (s.lowResets q).flt = s.flt := rfl
@[simp] theorem request_flt (s : State) (n : ChanNo) (r : Request) (d : Beat) (c : Option Nat) : (s.request n r d c).flt = s.flt := rfl
@[simp] theorem allGatesLow_flt (s : State) : (s.allGatesLow).flt = s.flt := rfl
@[simp] theorem linkOpen_flt (s : State) (x : Fin 2) : (s.linkOpen x).flt = s.flt := rfl

@[simp] theorem forEach_far {α : Type} (l : List α) (s : State) (f : State → α → State)
    (h : ∀ s a, far (f s a) = far s) : far (forEach l s f) = far s := forEach_keep far l f h s
@[simp] theorem forEach_flt {α : Type} (l : List α) (s : State) (f : State → α → State)
    (h : ∀ s a, (f s a).flt = s.flt) : (forEach l s f).flt = s.flt := forEach_keep State.flt l f h s
@[simp] theorem forEach_hit {α : Type} (l : List α) (s : State) (f : State → α → State)
    (h : ∀ s a, (f s a).flt.hit = s.flt.hit) : (forEach l s f).flt.hit = s.flt.hit :=
  forEach_keep (fun s => s.flt.hit) l f h s

@[simp] theorem goState_far (s : State) (d : DevState) : far (s.goState d) = far s := by
  unfold State.goState; split <;> rfl
@[simp] theorem goState_flt (s : State) (d : DevState) : (s.goState d).flt = s.flt := by
  unfold State.goState; split <;> rfl

@[simp] theorem lowAll_far (s : State) (ps : List PhaseNo) : far (s.lowAll ps) = far s :=
  forEach_far _ _ _ fun _ _ => rfl
@[simp] theorem lowAll_flt (s : State) (ps : List PhaseNo) : (s.lowAll ps).flt = s.flt :=
  forEach_flt _ _ _ fun _ _ => rfl

@[simp] theorem interrupt_far (s : State) (n : ChanNo) (r : Reason) (b : Bool) (l : Beat) :
    far (s.interrupt n r b l) = far s := by
  unfold State.interrupt
  exact ite_keep far _ (ite_keep far _ rfl rfl) rfl
@[simp] theorem interrupt_flt (s : State) (n : ChanNo) (r : Reason) (b : Bool) (l : Beat) :
    (s.interrupt n r b l).flt = s.flt := by
  unfold State.interrupt
  exact ite_keep State.flt _ (ite_keep State.flt _ rfl rfl) rfl

@[simp] theorem trip_far (s : State) (n : ChanNo) (c : TripCause) : far (s.trip n c) = far s := by
  simp [State.trip, apply_ite far]
@[simp] theorem trip_flt (s : State) (n : ChanNo) (c : TripCause) : (s.trip n c).flt = s.flt := by
  simp [State.trip, apply_ite State.flt]

@[simp] theorem wbStop_far (s : State) (c : Nat) : far (s.wbStop c) = far s := by
  unfold State.wbStop; dsimp only; split <;> rfl
@[simp] theorem wbStop_hit (s : State) (c : Nat) : (s.wbStop c).flt.hit = s.flt.hit := by
  unfold State.wbStop; dsimp only; split <;> rfl

@[simp] theorem linkEvent_far (s : State) (x : Fin 2) (t : Nat) (d : List Byte) (e : Option Nat) :
    far (s.linkEvent x t d e) = far s := by
  unfold State.linkEvent; dsimp only; split <;> rfl
@[simp] theorem linkEvent_flt (s : State) (x : Fin 2) (t : Nat) (d : List Byte) (e : Option Nat) :
    (s.linkEvent x t d e).flt = s.flt := by
  unfold State.linkEvent; dsimp only; split <;> rfl

@[simp] theorem hardReset_far (s : State) (x : Fin 2) (r : Bool) (c : Byte) : far (s.hardReset x r c) = far s := by
  simp only [State.hardReset, apply_ite far, linkEvent_far, modLink_far, send_far, ite_self]
@[simp] theorem hardReset_flt (s : State) (x : Fin 2) (r : Bool) (c : Byte) : (s.hardReset x r c).flt = s.flt := by
  simp only [State.hardReset, apply_ite State.flt, linkEvent_flt, modLink_flt, send_flt, ite_self]

@[simp] theorem linksStop_far (s : State) : far s.linksStop = far s := by
  refine forEach_far _ _ _ fun s x => ?_
  simp only [apply_ite far, hardReset_far, modLink_far, ite_self]
@[simp] theorem linksStop_flt (s : State) : s.linksStop.flt = s.flt := by
  refine forEach_flt _ _ _ fun s x => ?_
  simp only [apply_ite State.flt, hardReset_flt, modLink_flt, ite_self]

@[simp] theorem askStop_far (s : State) (n : ChanNo) (r : Reason) : far (s.askStop n r) = far s := by
  unfold State.askStop; split <;> rfl
@[simp] theorem askStop_flt (s : State) (n : ChanNo) (r : Reason) : (s.askStop n r).flt = s.flt := by
  unfold State.askStop; split <;> rfl

@[simp] theorem orderlyStop_far (s : State) (c : StopCause) : far (s.orderlyStop c) = far s := by
  unfold State.orderlyStop
  split <;> simp only [irq_far, wbStop_far, devEvent_far, linksStop_far, forEach_far _ _ _ fun s n => askStop_far s n c.reason, modSaves_far, modDev_far,
    modHost_far, goState_far, apply_ite far, modHold_far, ite_self]
@[simp] theorem orderlyStop_hit (s : State) (c : StopCause) : (s.orderlyStop c).flt.hit = s.flt.hit := by
  unfold State.orderlyStop
  split <;> simp only [irq_flt, wbStop_hit, devEvent_flt, linksStop_flt, forEach_flt _ _ _ fun s n => askStop_flt s n c.reason, modSaves_flt, modDev_flt,
    modHost_flt, goState_flt, apply_ite State.flt, modHold_flt, ite_self]

@[simp] theorem seqRec_far (s : State) (c : Nat) (d : List Byte) (e : Option (Nat × Option Nat × List Byte)) :
    far (s.seqRec c d e) = far s := by
  unfold State.seqRec; split
  · rfl
  · dsimp only; split
    · split <;> rfl
    · rfl
@[simp] theorem seqRec_flt (s : State) (c : Nat) (d : List Byte) (e : Option (Nat × Option Nat × List Byte)) :
    (s.seqRec c d e).flt = s.flt := by
  unfold State.seqRec; split
  · rfl
  · dsimp only; split
    · split <;> rfl
    · rfl

@[simp] theorem seqCause_far (s : State) (c : DownCause) : far (s.seqCause c) = far s :=
  forEach_far _ _ _ fun _ _ => rfl
@[simp] theorem seqCause_flt (s : State) (c : DownCause) : (s.seqCause c).flt = s.flt :=
  forEach_flt _ _ _ fun _ _ => rfl

@[simp] theorem seqDownStart_far (s : State) (c : DownCause) : far (s.seqDownStart c) = far s := by
  unfold State.seqDownStart
  exact (forEach_far _ _ _ (by intros; rfl)).trans ((forEach_far _ _ _ (by intros; rfl)).trans
    ((seqRec_far _ _ _ _).trans (modSeq_far _ _)))
@[simp] theorem seqDownStart_flt (s : State) (c : DownCause) : (s.seqDownStart c).flt = s.flt := by
  unfold State.seqDownStart
  exact (forEach_flt _ _ _ (by intros; rfl)).trans ((forEach_flt _ _ _ (by intros; rfl)).trans
    ((seqRec_flt _ _ _ _).trans (modSeq_flt _ _)))

@[simp] theorem seqDown_far (s : State) (c : DownCause) : far (s.seqDown c) = far s := by
  simp [State.seqDown, apply_ite far]
@[simp] theorem seqDown_flt (s : State) (c : DownCause) : (s.seqDown c).flt = s.flt := by
  simp [State.seqDown, apply_ite State.flt]

@[simp] theorem immediateOff_far (s : State) (k : Fin 128) : far (s.immediateOff k) = far s := by
  unfold State.immediateOff; dsimp only
  rw [modDev_far, seqDown_far, modSaves_far, forEach_far _ _ _ fun s n => trip_far s n _, linkOpen_far, linkOpen_far,
    allGatesLow_far]
@[simp] theorem immediateOff_flt (s : State) (k : Fin 128) : (s.immediateOff k).flt = s.flt := by
  unfold State.immediateOff; dsimp only
  rw [modDev_flt, seqDown_flt, modSaves_flt, forEach_flt _ _ _ fun s n => trip_flt s n _, linkOpen_flt, linkOpen_flt,
    allGatesLow_flt]

@[simp] theorem latchFirst_far (s : State) (r : FirstFault) : far (s.latchFirst r) = far s := by
  unfold State.latchFirst; split <;> rfl
@[simp] theorem latchFirst_hit (s : State) (r : FirstFault) : (s.latchFirst r).flt.hit = s.flt.hit := by
  unfold State.latchFirst; split <;> rfl

/-- The severity actions of R451 to R455 leave the far parts alone. -/
@[simp] theorem faultAct_far (s : State) (k : Fin 128) (sev subj : Nat) (d : Word) (i : Bool) :
    far (s.faultAct k sev subj d i) = far s := by
  unfold State.faultAct
  simp only [apply_ite far, orderlyStop_far, immediateOff_far, wbStop_far, irq_far, event_far, latchFirst_far,
    modFlt_far, forEach_far _ _ _ fun s n => trip_far s n _, ite_self]

/-- The severity actions change no FLT_HIT bit. -/
@[simp] theorem faultAct_hit (s : State) (k : Fin 128) (sev subj : Nat) (d : Word) (i : Bool) :
    (s.faultAct k sev subj d i).flt.hit = s.flt.hit := by
  have trips : ∀ (l : List ChanNo) (u : State), (forEach l u fun s n => s.trip n (.fault k)).flt.hit = u.flt.hit :=
    fun l u => forEach_hit l u _ fun s n => by rw [trip_flt]
  unfold State.faultAct
  simp only [apply_ite (fun s : State => s.flt.hit), orderlyStop_hit, immediateOff_flt, wbStop_hit, irq_flt,
    event_flt, latchFirst_hit, modFlt_flt, trips, ite_self]

/-- A raise leaves the far parts alone (R450 to R455). -/
theorem raise_far (s : State) (k : Fin 128) (subj : Nat) (d : Word) (l i : Bool) : far (s.raise k subj d l i) = far s := by
  unfold State.raise
  simp [apply_ite far]

/-- A raise of a source that exists and is not ACTIVE sets its FLT_HIT bit and no other (R450). -/
theorem raise_hit (s : State) (k : Fin 128) (subj : Nat) (d : Word) (l i : Bool) :
    (s.raise k subj d l i).flt.hit =
      if !srcExists k.val || s.flt.active.getLsbD k.val then s.flt.hit else s.flt.hit ||| (1#128 <<< k.val) := by
  unfold State.raise
  simp [apply_ite (fun s : State => s.flt.hit)]

section
variable (s : State) (k : Fin 128) (subj : Nat) (d : Word) (l i : Bool)
@[simp] theorem raise_beat : (s.raise k subj d l i).beat = s.beat := congrArg (·.1) (raise_far s k subj d l i)
@[simp] theorem raise_groups : (s.raise k subj d l i).groups = s.groups := congrArg (·.2.1) (raise_far s k subj d l i)
@[simp] theorem raise_lane : (s.raise k subj d l i).lane = s.lane := congrArg (·.2.2.1) (raise_far s k subj d l i)
@[simp] theorem raise_gov : (s.raise k subj d l i).gov = s.gov := congrArg (·.2.2.2.1) (raise_far s k subj d l i)
@[simp] theorem raise_met : (s.raise k subj d l i).met = s.met := congrArg (·.2.2.2.2.1) (raise_far s k subj d l i)
@[simp] theorem raise_store : (s.raise k subj d l i).store = s.store :=
  congrArg (·.2.2.2.2.2.1) (raise_far s k subj d l i)
@[simp] theorem raise_tel : (s.raise k subj d l i).tel = s.tel := congrArg (·.2.2.2.2.2.2.1) (raise_far s k subj d l i)
@[simp] theorem raise_dom : (s.raise k subj d l i).dom = s.dom := congrArg (·.2.2.2.2.2.2.2.1) (raise_far s k subj d l i)
@[simp] theorem raise_rtc : (s.raise k subj d l i).rtc = s.rtc := congrArg (·.2.2.2.2.2.2.2.2.1) (raise_far s k subj d l i)
@[simp] theorem raise_wdt : (s.raise k subj d l i).wdt = s.wdt :=
  congrArg (·.2.2.2.2.2.2.2.2.2.1) (raise_far s k subj d l i)
@[simp] theorem raise_sec : (s.raise k subj d l i).sec = s.sec :=
  congrArg (·.2.2.2.2.2.2.2.2.2.2.1) (raise_far s k subj d l i)
@[simp] theorem raise_tw : (s.raise k subj d l i).tw = s.tw :=
  congrArg (·.2.2.2.2.2.2.2.2.2.2.2.1) (raise_far s k subj d l i)
@[simp] theorem raise_pending : (s.raise k subj d l i).pending = s.pending :=
  congrArg (·.2.2.2.2.2.2.2.2.2.2.2.2.2) (raise_far s k subj d l i)
@[simp] theorem raiseDev_beat : (s.raiseDev k d).beat = s.beat := raise_beat _ _ _ _ _ _
@[simp] theorem raiseDev_groups : (s.raiseDev k d).groups = s.groups := raise_groups _ _ _ _ _ _
@[simp] theorem raiseDev_met : (s.raiseDev k d).met = s.met := raise_met _ _ _ _ _ _
@[simp] theorem raiseDev_dom : (s.raiseDev k d).dom = s.dom := raise_dom _ _ _ _ _ _
@[simp] theorem raiseDev_rtc : (s.raiseDev k d).rtc = s.rtc := raise_rtc _ _ _ _ _ _
@[simp] theorem raiseDev_wdt : (s.raiseDev k d).wdt = s.wdt := raise_wdt _ _ _ _ _ _
@[simp] theorem raiseDev_sec : (s.raiseDev k d).sec = s.sec := raise_sec _ _ _ _ _ _
@[simp] theorem raiseDev_tw : (s.raiseDev k d).tw = s.tw := raise_tw _ _ _ _ _ _
@[simp] theorem raiseDev_lane : (s.raiseDev k d).lane = s.lane := raise_lane _ _ _ _ _ _
@[simp] theorem raiseDev_gov : (s.raiseDev k d).gov = s.gov := raise_gov _ _ _ _ _ _
@[simp] theorem raiseDev_store : (s.raiseDev k d).store = s.store := raise_store _ _ _ _ _ _
@[simp] theorem raiseDev_tel : (s.raiseDev k d).tel = s.tel := raise_tel _ _ _ _ _ _
@[simp] theorem raiseDev_pending : (s.raiseDev k d).pending = s.pending := raise_pending _ _ _ _ _ _
/-- A raise of a source that exists and is not ACTIVE sets its own FLT_HIT bit (R450). -/
theorem raise_sets (hk : srcExists k.val = true) (ha : s.flt.active.getLsbD k.val = false) :
    (s.raise k subj d l i).flt.hit.getLsbD k.val = true := by
  rw [raise_hit, hk, ha]
  simp
/-- The same for an event source of the whole device. -/
theorem raiseDev_sets (hk : srcExists k.val = true) (ha : s.flt.active.getLsbD k.val = false) :
    (s.raiseDev k d).flt.hit.getLsbD k.val = true := raise_sets _ _ _ _ _ _ hk ha
end

end Sys2Proof.Laws
end

