-- ==== Sys2Proof/Laws/Frame.lean ====
section
/-!
SUPPORT. Every command answers a settled next state, and what settling leaves as it was (R288, R469 to R473, R512).
-/
namespace Sys2Proof.Laws
open Sys2Proof.Machine

/-- Every command answers a next state, and that state is settled. -/
theorem exec_settled (c : Instr) (s : State) : ∃ u, exec c s = .next (settle u) := by
  cases c <;> first | exact ⟨_, rfl⟩ | (dsimp only [exec, execIcT2Claim]; split <;> exact ⟨_, rfl⟩)

/-- What holds of the settled effect holds of the state answered. -/
theorem next_done {u : State} {P : State → Prop} (h : P (settle u)) : ∃ t, done u = .next t ∧ P t := ⟨_, rfl, h⟩

/-- Settling keeps every part. -/
theorem same_settle {s u : State} {p : Part} (h : Same s u p) : Same s (settle u) p := by
  obtain ⟨a, b, r, src, d, n, w, q, l, o, hs⟩ := settle_form u
  rw [hs]
  cases p <;> exact h

/-- Settling keeps a frame. -/
theorem frame_settle {s u : State} {ps : List Part} (h : Frame s u ps) : Frame s (settle u) ps :=
  fun p hp => same_settle (h p hp)

/-- Nothing changed. -/
theorem frame_refl (s : State) (ps : List Part) : Frame s s ps := by
  intro p _; cases p <;> exact rfl

/-- Two effects one after the other. -/
theorem frame_trans {s t u : State} {ps qs : List Part} (h : Frame s t ps) (k : Frame t u qs) : Frame s u (ps ++ qs) := by
  intro p hp
  simp only [List.mem_append, not_or] at hp
  have a := h p hp.1
  have b := k p hp.2
  cases p <;> simp only [Same] at a b ⊢ <;> first | exact b.trans a | skip
  all_goals (rw [← a]; try rw [← b])

/-- A frame with more parts set free. -/
theorem frame_mono {s t : State} {ps qs : List Part} (h : Frame s t ps) (k : ∀ p ∈ ps, p ∈ qs) : Frame s t qs :=
  fun p hp => h p fun hm => hp (k p hm)

end Sys2Proof.Laws
end

