-- ==== Sys2Proof/WellFormed.lean ====
section
/-!
DEFINITION. Which terms of the command type are commands that the world outside can give: a cycle lies in its beat (R20),
a tick in its tenth period (R70), a register offset is aligned and in BAR0 (R12, R15), a descriptor has 32 bytes (R258),
ring messages have the lengths of R312 to R315, link packets those of R351. The device's meanings are total on every term.
-/
namespace Sys2Proof

/-- The operands have the ranges and lengths that the spec gives them. -/
def Instr.wellFormed : Instr → Bool
  | .sampleAperture _ => true
  | .beatBoundary => true
  | .enginePickup _ => true
  | .beatJob _ _ _ => true
  | .tenthBeatJob _ _ _ => true
  | .milliJob _ _ _ => true
  | .overrunClassify => true
  | .residueTrip _ => true
  | .progressTimeout _ => true
  | .jobOvertime _ => true
  | .budgetWrite _ _ cyc => cyc < 500
  | .beatNumLoRead => true
  | .beatPeakClear _ => true
  | .upperEdgeCrossing _ tick => tick < 4000
  | .lowerEdgeCrossing _ tick => tick < 4000
  | .deadTimeEnd _ tick => tick < 4000
  | .minOnTimeEnd _ tick => tick < 4000
  | .minOffTimeEnd _ tick => tick < 4000
  | .interleaveSlot _ tick => tick < 4000
  | .slotDelayCap _ tick => tick < 4000
  | .phaseStopTimeout _ => true
  | .currentWindowCrossing _ _ => true
  | .latchNvWrite => true
  | .phOcClr _ _ cyc => cyc < 500
  | .chCommit _ _ cyc => cyc < 500
  | .chClr _ _ cyc => cyc < 500
  | .laneSlot _ _ cyc => cyc < 500
  | .calibrationSlot _ => true
  | .substitutionTakeover _ _ => true
  | .substitutionVerdict _ _ => true
  | .seriesTestStart _ _ => true
  | .seriesTestDone _ _ _ => true
  | .metCtrlGo _ _ => true
  | .metrologyDone _ _ => true
  | .calZero _ => true
  | .calZeroDone _ _ _ => true
  | .calFull _ => true
  | .calFullDone _ _ _ => true
  | .calStore _ => true
  | .calAbort _ => true
  | .calAbandonTimeout _ => true
  | .ownershipChange _ => true
  | .transferDue _ => true
  | .metXferGo _ => true
  | .transferStart _ => true
  | .transferDone _ _ _ => true
  | .transferAged _ _ => true
  | .crossCheckDone _ _ => true
  | .xchkTimeout _ => true
  | .voltageTripCrossing _ _ => true
  | .windowCrossingEnd _ _ _ => true
  | .mothDecision _ _ _ => true
  | .windowThresholdWrite _ _ _ => true
  | .comparatorSettled _ => true
  | .tripHoldExpiry _ _ => true
  | .thresholdReadback _ _ _ => true
  | .barrierTimeout _ => true
  | .tempLost _ => true
  | .referenceStale _ => true
  | .forget _ _ cyc => cyc < 500
  | .lifetimeWrite => true
  | .hsNtcConversion _ _ _ _ _ => true
  | .hsHistogramTick => true
  | .perstNAssert => true
  | .hotReset => true
  | .linkDown => true
  | .functionLevelReset => true
  | .d3hotToD0 => true
  | .busMasterEnableChange _ _ _ _ _ => true
  | .hrgCmdqCfg _ => true
  | .hrgCplqCfg _ => true
  | .hrgEvtqCfg _ => true
  | .hrgDbCmdq _ => true
  | .hrgDbCplq _ => true
  | .hrgDbEvtq _ => true
  | .hrgDbTsq _ _ => true
  | .descriptorFetch descs => descs.all fun d => d.length == 32
  | .fetchError _ => true
  | .nop => true
  | .configWrite _ cyc => cyc < 500
  | .commit _ cyc => cyc < 500
  | .commitAtBeat => true
  | .recipeLoad _ => true
  | .recipeStart cyc => cyc < 500
  | .channelStop cyc => cyc < 500
  | .channelResume cyc => cyc < 500
  | .readState _ => true
  | .logRead _ => true
  | .streamConfig _ cyc => cyc < 500
  | .calSystem => true
  | .trayAuth _ _ => true
  | .linkPolicy _ => true
  | .budgetSet => true
  | .timeSet => true
  | .digestQuery _ => true
  | .updateStage _ => true
  | .updateActivate => true
  | .updateConfirm => true
  | .eventRelease => true
  | .interruptHoldoff _ => true
  | .blockWrite => true
  | .tsqCfg _ _ cyc => cyc < 500
  | .linkRetrain _ _ => true
  | .ringPortChange _ _ => true
  | .trainReceive _ hdr slots _ _ => hdr.length == 10 && slots.length == 3 && slots.all fun x => x.isEmpty || x.length == 12
  | .alignedEntry => true
  | .alignmentLoss => true
  | .ringSwitch => true
  | .leaderLost => true
  | .electionWin => true
  | .electionRestart => true
  | .leaderCompare _ => true
  | .reepoch => true
  | .epoch _ addr _ _ => addr < 1024
  | .info _ addr _ _ _ _ => addr < 1024
  | .ringRelease _ addr _ _ _ _ => addr < 1024
  | .activate _ addr _ _ _ _ => addr < 1024
  | .activateCommit => true
  | .mismatch _ addr trunc => addr < 1024 && trunc.length == 8
  | .updReset _ addr _ _ _ _ => addr < 1024
  | .updResetAction => true
  | .status _ addr _ _ _ => addr < 1024
  | .digest _ addr trunc => addr < 1024 && trunc.length == 8
  | .barReport _ addr _ _ _ dg => addr < 1024 && dg.length == 4
  | .staged _ addr _ _ => addr < 1024
  | .updStagedMessage _ addr trunc => addr < 1024 && trunc.length == 8
  | .ping _ addr _ _ => addr < 1024
  | .pong _ addr _ _ _ => addr < 1024
  | .claim _ addr _ _ => addr < 1024
  | .barrierReleaseIssue _ => true
  | .domBarRel _ => true
  | .barReportSend _ => true
  | .digestSend => true
  | .stagedSend => true
  | .updStagedSend => true
  | .pingSend _ => true
  | .sweepEnd => true
  | .domStage _ => true
  | .domActGo _ => true
  | .domActCancel _ => true
  | .activationSend => true
  | .activationTimeout => true
  | .domCtrlEn _ => true
  | .rlastClr _ => true
  | .digestRecompute => true
  | .accReading _ _ => true
  | .togglePeriod _ => true
  | .attachDebounce _ => true
  | .detach _ => true
  | .reversedWithdraw _ => true
  | .reversedReturn _ => true
  | .packetSend _ _ _ _ => true
  | .offer _ hdr objs _ => hdr < 65536 && objs.length ≤ 7
  | .bid _ hdr objs _ => hdr < 65536 && objs.length ≤ 7
  | .accept _ hdr objs _ => hdr < 65536 && objs.length ≤ 7
  | .reject _ hdr objs _ => hdr < 65536 && objs.length ≤ 7
  | .live _ hdr objs _ => hdr < 65536 && objs.length ≤ 7
  | .askOffer _ hdr objs _ => hdr < 65536 && objs.length ≤ 7
  | .swapReq _ hdr objs _ => hdr < 65536 && objs.length ≤ 7
  | .wait _ hdr objs _ => hdr < 65536 && objs.length ≤ 7
  | .accordRelease _ hdr objs _ => hdr < 65536 && objs.length ≤ 7
  | .unhandled _ hdr objs _ => hdr < 65536 && objs.length ≤ 7
  | .unknownPacket _ hdr objs _ => hdr < 65536 && objs.length ≤ 7
  | .echo _ hdr objs _ => hdr < 65536 && objs.length ≤ 7
  | .hardResetReceived _ => true
  | .echoTimeout _ => true
  | .answerTimeout _ => true
  | .offerRepeat _ => true
  | .drainComplete _ _ _ => true
  | .drainTimeout _ => true
  | .prechargeDone _ _ _ => true
  | .prechargeTimeout _ => true
  | .defaultOvercurrent _ _ => true
  | .settleTimeout _ => true
  | .liveTimeout _ => true
  | .sinkClose _ _ _ => true
  | .closeTimeout _ => true
  | .windowViolation _ _ => true
  | .contractOvercurrent _ _ => true
  | .reverseFlow _ _ => true
  | .noFlow _ _ => true
  | .sourceVlinkFault _ _ => true
  | .linkOcpTrip _ _ => true
  | .swapHandover _ _ => true
  | .swapTimeout _ => true
  | .swapBackoffEnd _ => true
  | .hardResetRecovery _ _ => true
  | .roleHoldExpiry _ => true
  | .exportDesire _ _ _ => true
  | .importDesire _ _ _ => true
  | .askOfferRepeat _ => true
  | .policyApply _ => true
  | .lnkCtrlEn _ _ => true
  | .lnkCtrlHrst _ _ => true
  | .lnkCtrlSwap _ _ => true
  | .lnkCtrlRel _ _ => true
  | .mainLost _ => true
  | .mainReturned => true
  | .rideThroughEnd => true
  | .vstopReached _ => true
  | .vlinkCollapse _ => true
  | .saveSeal => true
  | .idealDiodeReverse => true
  | .chgEnWrite _ => true
  | .chgShortTestEnd _ => true
  | .chgPrechargeEnd _ => true
  | .chgPrechargeTimeout => true
  | .chgVregReached _ => true
  | .chgTermination _ => true
  | .chgSafetyTimer => true
  | .chgNtcRange _ _ => true
  | .chgNtcRecovered _ => true
  | .chgRecharge _ => true
  | .presenceTest _ _ => true
  | .learn _ => true
  | .learnAbort _ => true
  | .holdupLearnRest => true
  | .rtcSwitch _ => true
  | .rtcReset => true
  | .rtcSecond => true
  | .rtcOscFail => true
  | .rtcSubsecRead _ => true
  | .rtcYearRead => true
  | .shadowTimeout => true
  | .rtcLoad _ => true
  | .vbackValid _ => true
  | .powerUpStart => true
  | .slotOn _ _ => true
  | .pgChange _ mv _ => mv ≤ 3300
  | .pgTimeout _ _ => true
  | .fltExt => true
  | .slotOff _ _ => true
  | .offTimeout _ _ => true
  | .gapEnd => true
  | .retryCountReset => true
  | .fltNRise => true
  | .resetRelease _ => true
  | .seqRstHold _ _ => true
  | .marginWrite _ _ => true
  | .marginStep => true
  | .profileStore _ _ => true
  | .suppliesValid _ _ => true
  | .selftestStepDone _ => true
  | .glbReset _ => true
  | .glbChrysalis _ => true
  | .glbWake _ => true
  | .coreSupplyFault => true
  | .censusAccept _ => true
  | .noPulseWrite _ => true
  | .svcDataLoRead _ => true
  | .svcDataHiRead => true
  | .holdResponderRead _ => true
  | .supplyMonitorTrip _ _ => true
  | .clockMonitorTrip _ _ => true
  | .dieOvertemp _ => true
  | .fltHitClear _ _ => true
  | .fltFirstClear _ => true
  | .fltSoft _ => true
  | .fltInject _ => true
  | .fltTestkey _ => true
  | .fltSevWrite _ _ => true
  | .wbRestart _ => true
  | .wbHold _ => true
  | .wingbeatToggle => true
  | .faultNPulseEnd => true
  | .configCheck => true
  | .heartbeat _ => true
  | .icT2Claim => true
  | .icT2Complete _ => true
  | .icSrcWrite _ _ => true
  | .wdtEn _ => true
  | .wdtKey _ => true
  | .wdtCheckin _ => true
  | .wdtOpen => true
  | .wdtEarly => true
  | .wdtWindowEnd => true
  | .wdtKeyTimeout => true
  | .wdtDeferredExpiry => true
  | .supervisorRestart => true
  | .otpBurn _ => true
  | .otpFinalise _ => true
  | .otpRead _ => true
  | .otpOperationDone _ => true
  | .attest _ => true
  | .attestDone => true
  | .dbgOpen _ => true
  | .debugAccess _ => true
  | .trayMapWrite _ _ _ => true
  | .trayRemoved _ => true
  | .trayInserted _ _ _ => true
  | .tagResponseRead _ _ _ => true
  | .twXctlGo _ _ => true
  | .twTransferDone _ _ _ _ => true
  | .pollPeriod _ => true
  | .pollReadDone _ _ => true
  | .sclTimeout _ => true
  | .sdaTimeout _ _ => true
  | .arbitrationLost => true
  | .arbitrationRetry => true
  | .pointerFrame _ _ _ => true
  | .writeFrame _ _ _ cyc => cyc < 500
  | .readWord _ _ => true
  | .chTsensWrite _ _ => true
  | .registerWrite off _ cyc width => cyc < 500 && off < 0x40000 && 1 ≤ width && width ≤ 8
  | .pcieLinkUp _ _ => true
  | .perstNDeassert => true
  | .d0ToD3hot _ => true
  | .vbackLost => true
  | .nvDone _ => true
  | .dieThermal => true
  | .thermLim _ => true
  | .supplyMonitorRecovery _ => true

end Sys2Proof
end

