-- ==== Sys2Proof/Tests/Slice0.lean ====
section
/-!
SUPPORT. Tests: WellFormed refuses an ill-formed term of every check, values that the spec works out, and for every statement
with hypotheses a state and operands that meet them, clause by clause.
-/
open Sys2Proof Sys2Proof.Machine

/-! ### States for the tests -/

/-- A state in which a descriptor waits at the front. -/
def Sys2Proof.Machine.State.front (s : State) (d : Desc) : State := s.modHost fun h => { h with fetched := [d] }
/-- A channel whose context halves have a step state. -/
def Sys2Proof.Machine.Chan.withStep (c : Chan) (x : StepState) : Chan := { c with halves := Vector.replicate 2 { Context.reset with step := x } }
/-- The state of a code bank changed. -/
def Sys2Proof.Machine.State.bankState (s : State) (i : Fin 2) (x : BankState) : State := s.setBank i { s.sec.banks[i] with state := x }
/-- The domain of a state taken to a domain state, at ring address 3, with ring A up and ring B down. -/
def Sys2Proof.Machine.State.inDom (s : State) (st : DomState) (f : Domain → Domain) : State :=
  s.modDom fun d => f { d with state := st, en := true, cfg := 3, leader := if st = .leading then 3 else 5
                               ports := d.ports.set 0 { d.ports[0] with up := true } }
namespace Sys2Proof.Tests
set_option linter.unusedVariables false
set_option Elab.async false

/-- A device in READY with its beat running, linked to a host whose rings are enabled, with channel 0 of one phase. -/
def rdy : State :=
  let s : State := State.reset
  let ring : Ring := { Ring.reset with size := 8, baseReg := 4096, base := 4096 }
  let p : PhaseCfg := { PhaseCfg.reset with gang := 1, shunt := 1000 }
  { s with
    phases := s.phases.set 0 { Phase.reset with staged := p, run := p }
    dev := { s.dev with state := .ready }
    beat := { s.beat with running := true, number := 1000, uptime := 5000000 }
    host := { s.host with perstN := true, linkUp := true, speed := 3, width := 1, bme := true, cmdq := ring, cplq := ring, evtq := ring }
    hold := { s.hold with main := true }
    lane := { s.lane with en := true } }
/-- The inputs of a job of channel 0 with nothing measured. -/
def noInputs : JobIn :=
  { latched := [], temp := -32768, tempOld := true, zTemp := -32768, vHist := [], govK := 65536, deferrable := false, wake := 0
    stopped := false, band := 0 }
/-- A job of channel 0. -/
def aJob (c : JobClass) (k : Claim) : Job := { cls := c, chan := 0, beat := 1000, home := 0, claim := k, ran := none, late := false, ended := none, inp := noInputs }
/-- `rdy` with one job. -/
def withJob (c : JobClass) (k : Claim) : State := rdy.modBeat fun b => { b with jobs := [aJob c k] }
/-- Phase 0 of `rdy` changed. -/
def ph (f : Phase → Phase) : State := rdy.modPhase 0 f
/-- Channel 0 of `rdy` changed. -/
def ch (f : Chan → Chan) : State := rdy.modChan 0 f
/-- Group 0 of `rdy` changed. -/
def grp (f : Group → Group) : State := rdy.modGroup 0 f
/-- The comparators of position 0 of group 0 changed. -/
def cmp0 (f : Cmp → Cmp) : State := grp fun g => { g with cmp := g.cmp.set 0 (f g.cmp[0]) }
/-- Metrology port 0 of `rdy` changed, which the host owns. -/
def port0 (f : MetPort → MetPort) : State := rdy.modMet fun m => { m with ports := m.ports.set 0 (f m.ports[0]), own := 0, ownReg := 0 }
/-- The state answered. -/
def after (o : Host.Outcome State Fault Refusal) : State := match o with | .next t => t | _ => rdy
/-- A channel of two phases, interleaved, both switching, the second waiting for its slot. -/
def twoPhases : State :=
  let p : PhaseCfg := { PhaseCfg.reset with gang := 2, shunt := 1000, base := { BaseCfg.reset with flock := 0x00010001 } }
  let x : Phase := { Phase.reset with switching := true, enabled := true, run := p, period := 400, slot := 200 }
  { rdy with phases := (rdy.phases.set 0 { x with riseReady := true }).set 1 x }
/-- A substitution of current slice 3 by slice 16 in group 0. -/
def aSubst : Subst :=
  { voltage := false, suspect := 3, spare := 16, pos := 3, start := 900, testAt := 900, trigger := .plaus, tookOver := false
    spareRail := false, calTest := false, sums := [] }
/-- Sums of the DIRECT test that pass (R135). -/
def goodSums : List Int := [-40960000, 0, 40960000]
/-- An event of the device. -/
def anEvent : Event := { beat := 1000, kind := .device, subject := 0, typ := 30, seq := 1, data := [] }
/-- A step record. -/
def aStep (typ p1 p2 : Nat) (terms : List Term) : StepRec :=
  { typ := typ, flags := 0, dnext := 0xFF, count := 0, duration := 0, set1 := 0, set2 := 0, param1 := p1, param2 := p2, ilim := 0, vsoft := 0
    terms := terms }
/-- `rdy` with a recipe 1 of one step, at which channel 0 stands. -/
def atStep (x : StepRec) (base : BaseState) (f : Chan → Chan) : State :=
  let r : Recipe := { number := 1, shared := false, nomCharge := 0, gradeTable := 0, version := 0, crc := 0, steps := [x], image := [] }
  let c : Context := { Context.reset with step := { StepState.reset with base := base, running := true, recipe := 1, holdBeats := 1000 } }
  ((rdy.modChan 0 fun k => { k with halves := #v[c, c] }).modChan 0 f).modStore fun t => { t with recipes := [r] }
/-- An OCV reference of beat 0. -/
def aRef : OcvRef := { value := 3700000, temp := 2500, soc := 5000, unc := 100, beat := 0, savedAge := 0, corr := 0 }
/-- A descriptor. -/
def dsc (op target len a0 a1 : Nat) : Desc :=
  { opcode := op, flags := 0, cid := 7, target := target, rsv := 0, addr := 0x2000, len := len, arg0 := a0, arg1 := a1 }
/-- The bytes of the image of recipe 1: one END step (R177). -/
def recipeImage : List Byte :=
  [0x52, 0x51, 1, 1, 1, 0, 0, 0] ++ leBytes 8 1000 ++ List.replicate 44 0 ++ leBytes 4 3698788726 ++ 0x13 :: List.replicate 63 0
/-- A policy block of port 0 (R372): role source, everything inside its limits. -/
def policyImage : List Byte :=
  let h := [0x50, 0x4C, 1, 0, 0, 0, 1, 50, 0, 0, 0, 0] ++ leBytes 4 50000000 ++ leBytes 4 40000000 ++ leBytes 4 1000000 ++ leBytes 4 20000000 ++
    leBytes 4 55000000 ++ leBytes 4 5000000 ++ leBytes 4 5000000 ++ List.replicate 20 0
  h ++ leBytes 4 2482274133
/-- An interruption record of recipe 1. -/
def anIntr : Intr := { recipe := 1, step := 0, reason := .hostStop, crc := 0, stack := [] }
/-- A holdup cell charged to 50 %. -/
def charged (s : State) : State := s.modHold fun h => { h with est := { h.est with soc := 5000 }, missing := false }
/-- A log record. -/
def aRec : LogRec := { slot := 0, seq := 5, time := 0, beat := 0, source := 1, code := 2, flags := 0, data := List.replicate 16 0 }
/-- A stream that runs. -/
def aRun : StreamRun :=
  { base := 65536, size := 8, unit := 64, filter := 1, quant := 1, periods := 10, decim := 1, irqBlk := 1, maskId := 0, chans := [0], startAt := 1001 }
/-- A block of stream 0 that waits to be written. -/
def aBlock : Block :=
  { stream := 0, gen := 0, pad := none, addr := 65536, header := List.replicate 64 1, body := List.replicate 64 2, units := 2, bytes := 128, seq := 1
    nextAt := 2, nextPhase := true, message := false }
/-- `rdy` in a domain state. -/
def dm (st : DomState) (f : Domain → Domain) : State := rdy.inDom st f
/-- Channel 0 waits at barrier 5. -/
def atBarrier : State := atStep (aStep 0x12 5 0 []) .hold id
def aKey (a : Nat) : DomKey := { strap := false, addr := a, serial := 1 }
def anOrder : ActOrder := { tag := 9, all := false, bar := none, since := 0 }
/-- Port 0 enabled and changed; the device runs the links. -/
def lk (f : LinkPort → LinkPort) : State := rdy.modLink 0 fun p => f { p with en := true }
/-- A packet whose echo is awaited: an ASK_OFFER. -/
def aTx : LinkTx := { msg := { typ := 7, objs := [], swap := false }, hdr := 7, retries := 0, due := false }
/-- A capability object of 20.0 V to 55.0 V and 5.0 A. -/
def aCap : Word := 0x22632032
def aPolicy : Policy := parsePolicy policyImage
/-- The charger in a state. -/
def hd (st : Chg) (f : Holdup → Holdup) : State := rdy.modHold fun h => f { h with state := st }
/-- The sequencer in a state. -/
def seqr (st : SeqState) (f : Seqr → Seqr) : State := rdy.modSeq fun q => f { q with state := st, vback := true }
/-- A device state. -/
def dv (st : DevState) : State := rdy.modDev fun d => { d with state := st }
/-- Slot 0 of the running profile in PG_MODE 1, FLT_STOP clear, and the slot as it runs. -/
def slot0 (st : SeqState) (f : Slot → Slot) : State :=
  let good : SlotCfg := { SlotCfg.reset 0 with cfg := 0xC1053205 }
  let none_ : SlotCfg := { SlotCfg.reset 0 with cfg := 0x40053205 }
  seqr st fun q =>
    { q with profile := { q.profile with cfg := 0x00021402 }, run := { q.run with cfg := 0x00021402, slots := (Vector.replicate 12 none_).set 0 good },
             slots := q.slots.set 0 (f q.slots[0]) }
def noPins : Pins := { domLead := false, testEn := false, baddr := 0, vddIo := 3300, refin := true }
/-- The end of a self-test step without a failure of its own. -/
def stepOk : StepResult :=
  { code := 0, data := 0, durUs := 1, engFail := 0, sliceFail := [], census := [], badBanks := 0, vlink := 0, hold := (0, 0)
    cal := Vector.replicate 340 (Vector.replicate 17 0) }
/-- The self-test at a step. -/
def selftest (n : Nat) : State := rdy.modDev fun d => { d with state := .selftest, step := n }
/-- Words of both OTP copies. -/
def otp (l : List (Fin 512 × Word)) : State :=
  rdy.modSec fun c => { c with otpA := l.foldl (fun v x => v.set x.1 x.2) c.otpA, otpB := l.foldl (fun v x => v.set x.1 x.2) c.otpB }
/-- The watchdog runs, in the open part or not. -/
def wd (isOpen : Bool) (f : Wdt → Wdt) : State := rdy.modWdt fun w => f { w with en := true, openPart := isOpen }
/-- An exchange with the tag of tray 0. -/
def anExch : TagExchange := { serial := List.replicate 8 1, challenge := List.replicate 32 2, cmd := none }
def tray0 (f : Tray → Tray) : State := rdy.modTray 0 f
/-- Tray bus 0 changed. -/
def bus0 (f : Bus → Bus) : State := rdy.modBus 0 f
/-- Channel 0 has a sensor at address 72, register 1 of bus 0. -/
def sensed : State := ch fun c => { c with temp := { c.temp with map := 0x80480100 } }
/-- A frame to the board target at 0x50 with its PEC. -/
def framed (bs : List Byte) : List Byte := bs ++ [crc8 (0xA0 :: bs)]
/-- A finite check that the interrupt lines are settled. -/
def settledOk (s : State) : Bool :=
  s.ic.irqN == !((s.ic.best 2).isSome || s.dev.state == .cocoon) && s.ic.delivered == (s.ic.best 2).isSome &&
    (allFin 64).all fun k => match s.levelInput k.val with | some i => (s.ic.src[k]).input == i | none => true
theorem settled_of_check (s : State) (h : settledOk s = true) : LinesSettled s := by
  simp only [settledOk, Bool.and_eq_true, beq_iff_eq, List.all_eq_true] at h
  refine ⟨h.1.1, h.1.2, fun k i hi => ?_⟩
  have := h.2 k (List.mem_finRange k)
  simpa only [hi, beq_iff_eq] using this
/-- An OCV table that rises by 50 mV for every 5 %. -/
def aTable : OcvTable :=
  { unc := 100, beta := 0, points := (List.range 21).map fun i : Nat => 3000000 + 50000 * (i : Int), shared := false, image := [] }
/-- The holdup cell at the end of a learning rest, its OCV at half charge. -/
def learnEnd : State :=
  (hd .done fun h => { h with learn := .rest 10000 0, restMs := 1800000, temp := 2500, v := 3500000, estCfg := 0x1E180000 }).modStore fun t =>
    { t with ocv := t.ocv.set 0 (some aTable) }
/-- The CRC-32 of the recipe image, its header and its steps apart (R177). -/
theorem recipeImage_crc : recipeCrc recipeImage 1 = (parseRecipe recipeImage).crc := by
  unfold recipeCrc crc32
  rw [List.foldl_append, show (slice recipeImage 0 0x3C).foldl crc32Byte 0xFFFFFFFF#32 = 1200468518#32 by decide +kernel]
  decide +kernel
/-- The recipe image passes every check of R199 and R271. -/
theorem recipeImage_accepted : (rdy.front (dsc 3 0 128 1 0)).recipeCheck 1 recipeImage = none := by
  have h : getLe recipeImage 4 2 = 1 := by decide +kernel
  unfold State.recipeCheck
  simp only [h, recipeImage_crc, ne_eq, not_true_eq_false, if_false]
  decide +kernel
/-- The image of OCV table 1: points from 3.0 V in steps of 50 mV (R269). -/
def ocvImage : List Byte :=
  [0x43, 0x4F, 1, 1] ++ List.replicate 8 0 ++ (List.range 21).flatMap (fun i => leBytes 4 (3000000 + 50000 * i)) ++ leBytes 4 4233416405
/-- The STREAM_CONFIG block of a stream of channel 0 in units of 1 period, the stream as `aRun` has it. -/
def streamImage (on : Nat) : List Byte := [0x53, 0x54, 1, 0, byte on] ++ List.replicate 59 0
/-- A STREAM_CONFIG block that passes R306: channel 0, quantity bit 0, boxcar, 10 periods, 64 bytes, 256 entries. -/
def goodStream : List Byte :=
  [0x53, 0x54, 1, 0, 8, 0, 1, 1] ++ leBytes 2 10 ++ leBytes 2 1 ++ [1, 0, 0, 0] ++ leBytes 8 65536 ++ leBytes 4 1 ++ List.replicate 36 0
/-- A member at address 7 in ALIGNED. -/
def aMember : Member :=
  { addr := 7, state := 3, flags := 1, dly := 0, at_ := 1000, digest := none, differs := none, staged := none, upd := none }
/-- An UPDATE_STAGE image whose first 256 bytes are staged: its length field alone matters. -/
def aStaging : Staging := { image := List.replicate 0x18 0 ++ leBytes 4 4096 ++ List.replicate 228 0 }
/-- The same rest, begun at a charge less than 30 % above. -/
def learnEnd2 : State := learnEnd.modHold fun h => { h with learn := .rest 7999 0 }
/-- The CRC-32 of the OCV image, its halves apart. -/
theorem ocvImage_crc : crc32 (slice ocvImage 0 0x60) = 4233416405#32 := by
  unfold crc32
  rw [show slice ocvImage 0 0x60 = slice ocvImage 0 48 ++ slice ocvImage 48 48 by decide +kernel, List.foldl_append,
    show (slice ocvImage 0 48).foldl crc32Byte 0xFFFFFFFF#32 = 3414195335#32 by decide +kernel]
  decide +kernel
/-- The OCV image passes every check of R269. -/
theorem ocvImage_accepted : ocvCheck ocvImage = 0 := by
  unfold ocvCheck
  simp only [ocvImage_crc]
  decide +kernel

/-! ### WellFormed refuses an ill-formed term of every check -/

theorem test_wf_cycle : Instr.wellFormed (.budgetWrite 0 0 500) = false ∧ Instr.wellFormed (.chCommit 0 1 500) = false ∧
    Instr.wellFormed (.laneSlot 48 0 500) = false ∧ Instr.wellFormed (.tsqCfg 0 0 500) = false ∧
    Instr.wellFormed (.writeFrame false [] true 500) = false := by decide
theorem test_wf_tick : Instr.wellFormed (.upperEdgeCrossing 0 4000) = false ∧ Instr.wellFormed (.lowerEdgeCrossing 0 4000) = false ∧
    Instr.wellFormed (.deadTimeEnd 0 4000) = false ∧ Instr.wellFormed (.minOnTimeEnd 0 4000) = false ∧
    Instr.wellFormed (.minOffTimeEnd 0 4000) = false ∧ Instr.wellFormed (.interleaveSlot 0 4000) = false ∧
    Instr.wellFormed (.slotDelayCap 0 4000) = false := by decide
theorem test_wf_descriptor : Instr.wellFormed (.descriptorFetch [List.replicate 31 0]) = false ∧
    Instr.wellFormed (.descriptorFetch [List.replicate 32 0]) = true := by decide
theorem test_wf_train : Instr.wellFormed (.trainReceive false (List.replicate 9 0) [[], [], []] 0 0) = false ∧
    Instr.wellFormed (.trainReceive false (List.replicate 10 0) [[], []] 0 0) = false ∧
    Instr.wellFormed (.trainReceive false (List.replicate 10 0) [[], [1], []] 0 0) = false ∧
    Instr.wellFormed (.trainReceive false (List.replicate 10 0) [[], List.replicate 12 0, []] 0 0) = true := by decide
theorem test_wf_address : Instr.wellFormed (.epoch false 1024 false 0) = false ∧ Instr.wellFormed (.info false 1024 0 0 0 0) = false ∧
    Instr.wellFormed (.ringRelease false 1024 0 0 0 0) = false ∧ Instr.wellFormed (.activate false 1024 0 0 0 0) = false ∧
    Instr.wellFormed (.updReset false 1024 0 0 [] 0) = false ∧ Instr.wellFormed (.status false 1024 0 0 0) = false ∧
    Instr.wellFormed (.staged false 1024 0 0) = false ∧ Instr.wellFormed (.ping false 1024 0 0) = false ∧
    Instr.wellFormed (.pong false 1024 0 0 0) = false ∧ Instr.wellFormed (.claim false 1024 false 0) = false := by decide
theorem test_wf_truncation : Instr.wellFormed (.digest false 3 [1]) = false ∧ Instr.wellFormed (.mismatch false 3 [1]) = false ∧
    Instr.wellFormed (.updStagedMessage false 3 [1]) = false ∧ Instr.wellFormed (.barReport false 3 5 true true [1]) = false := by decide
theorem test_wf_packet : Instr.wellFormed (.offer 0 65536 [] 0) = false ∧ Instr.wellFormed (.bid 0 0 (List.replicate 8 0) 0) = false ∧
    Instr.wellFormed (.accept 0 65536 [] 0) = false ∧ Instr.wellFormed (.reject 0 65536 [] 0) = false ∧
    Instr.wellFormed (.live 0 65536 [] 0) = false ∧ Instr.wellFormed (.askOffer 0 65536 [] 0) = false ∧
    Instr.wellFormed (.swapReq 0 65536 [] 0) = false ∧ Instr.wellFormed (.wait 0 65536 [] 0) = false ∧
    Instr.wellFormed (.accordRelease 0 65536 [] 0) = false ∧ Instr.wellFormed (.unhandled 0 65536 [] 0) = false ∧
    Instr.wellFormed (.unknownPacket 0 65536 [] 0) = false ∧ Instr.wellFormed (.echo 0 65536 [] 0) = false := by decide
theorem test_wf_offset : Instr.wellFormed (.pgChange 0 3301 0) = false ∧
    Instr.wellFormed (.registerWrite 0x40000 0 0 4) = false ∧ Instr.wellFormed (.registerWrite 0x400 0 0 0) = false ∧
    Instr.wellFormed (.registerWrite 0x400 0 500 4) = false ∧ Instr.wellFormed (.registerWrite 0x3FFFC 0 499 4) = true := by decide

/-! ### Worked values of the spec -/

/-- The frame of R538 that resets a device in COCOON carries CRC 0x7B. -/
theorem test_reset_frame_crc : crc8 [0x58, 0x0C, 0, 0, 1, 0, 0, 0x5A] = 0x7B := by decide +kernel
/-- The answer of R538 to a read of GLB_STATE carries CRC 0x4F. -/
theorem test_read_frame_crc : crc8 [4, 0, 0, 3, 0, 0, 0] = 0x4F := by decide +kernel
/-- Frame 1 of the timeline of spec/03: channel 48, tag 3, 65,536, SLEW 0x0F. -/
theorem test_lane_frame_one :
    parseFrame 0x303100000FC4 = { chan := 48, tag := 3, kind := 0, target := 65536, slew := 0x0F, crcOk := true } := by decide +kernel
/-- Frame 2: channel 48, tag 4, 24,576, SLEW 0x2F. -/
theorem test_lane_frame_two :
    parseFrame 0x304060002FC5 = { chan := 48, tag := 4, kind := 0, target := 24576, slew := 0x2F, crcOk := true } := by decide +kernel
/-- The window words of channel 48 in the worked example of spec/05. -/
theorem test_window_words : winCodes .current 0x079A0866 = (1946, -1946) ∧ winCodes .vtrip 0x0CCD0777 = (3277, 1911) ∧
    winCodes .vwarn 0x0CAB07DE = (3243, 2014) := by decide
/-- 1,946 codes of the current DAC are 95,019.5 µV; 3,277 of the voltage DAC 4,300,293.0 µV. -/
theorem test_window_levels : winLevel .current 1946 = 24325000 ∧ winLevel .vtrip 3277 = 1100875000 := by decide
/-- The tray sensor of spec/17: 0x1980 in 1/256 °C is 25.50 °C. -/
theorem test_sensor_value : sensorValue 0 0x1980 = some 2550 := by decide
/-- ZERO of the worked example of spec/04: 1,037 codes hold as 265,472. -/
theorem test_zero_mean : ∃ t, exec (.calZeroDone 0 265472 (256 * 1037 * 1037)) (port0 fun x => { x with job := .zero }) = .next t ∧
    (t.met.ports[0]).zeroMean = 265472 ∧ (t.met.ports[0]).state = .zeroHeld := ⟨_, rfl, by decide +kernel⟩
/-- The budget example of spec/01: a CV step of gang 1 reserves 36, REST 18. -/
theorem test_reservations :
    (let f := figures none { StepState.reset with base := .run } 1 .cv; f.1 + ceilDiv f.2.1 10 + ceilDiv f.2.2 1000) = 36 ∧
    (let f := figures none { StepState.reset with base := .run } 1 .rest; f.1 + ceilDiv f.2.1 10 + ceilDiv f.2.2 1000) = 18 := by decide
/-- Grade table 3 of the worked example of spec/07. -/
def table3 : GradeTable :=
  { required := 3, fallback := 15, alphas := [-1500, 12000, 15000, -100, -50000], us := [360000000, 10, 15, 200, 5]
    bins := [{ code := 1, mask := 0x1F, mins := [181800000000, 0, 0, 3735000, -2147483648], maxs := [189000000000, 600, 950, 3760000, 60] },
      { code := 2, mask := 0x1F, mins := [176400000000, 0, 0, 3730000, -2147483648], maxs := [194400000000, 750, 1200, 3765000, 120] },
      { code := 3, mask := 0x13, mins := [169200000000, 0, 0, 0, -2147483648], maxs := [18446744073709551615, 1000, 0, 0, 250] }]
    shared := false, image := [] }
/-- Channel 60's values at 25 °C. -/
theorem test_normalised : (normal table3 0 { raw := 183960000000, temp := 3100 }, normal table3 1 { raw := 560, temp := 3300 },
    normal table3 2 { raw := 870, temp := 3300 }, normal table3 3 { raw := 3746000, temp := 2800 },
    normal table3 4 { raw := 38, temp := 2800 }) = (182304360000, 614, 974, 3746300, 32) := by decide
/-- Channels 48, 52 and 60: confidence 255, 11 and 102. -/
theorem test_confidence :
    let floor := fun (q : Nat × Nat) => 255 * q.1 / q.2
    floor (confFrac table3 0 [some 185274504000, some 526, some 822, some 3748340, some 30]) = 255 ∧
    floor (confFrac table3 1 [some 181734498000, some 592, some 939, some 3751080, some 42]) = 11 ∧
    floor (confFrac table3 1 [some 182304360000, some 614, some 974, some 3746300, some 32]) = 102 := by decide +kernel
/-- The calendar has leap days by the Gregorian rule (R404). -/
theorem test_leap_days : (({ Cal.reset with year := 2100, month := 2, day := 28, hour := 23, min := 59, sec := 59 } : Cal).tick).1.month = 3 ∧
    (({ Cal.reset with year := 2096, month := 2, day := 28, hour := 23, min := 59, sec := 59 } : Cal).tick).1.day = 29 := by decide
/-- CH_SETI of channel 40 lies at 0x12814 (spec/00). -/
theorem test_channel_window : ∃ t, exec (.registerWrite 0x12814 77 0 4)
    (rdy.modPhase 40 fun p => { p with staged := { p.staged with gang := 1 } }) = .next t ∧ (t.chans[40]).staged.setI = 77 := ⟨_, rfl, by decide +kernel⟩
/-- No word spells a command: the table gives no bits. -/
theorem test_no_word : decodeTableWord 32 0x12345678 = none ∧ (rdy.withFetchWord 32 5) = rdy := ⟨rfl, rfl⟩

/-! ### The hypotheses of every statement can be met -/

/-- States and operands that meet the hypotheses of StepRunsTheFrontCommand, clause by clause. -/
theorem test_met_StepRunsTheFrontCommand :
    (∃ (s : State), s.pending = []) :=
  ⟨rdy, by decide +kernel⟩

/-- States and operands that meet the hypotheses of EveryStepSettlesTheInterruptLines, clause by clause. -/
theorem test_met_EveryStepSettlesTheInterruptLines :
    (∃ (s : State) (t : State), LinesSettled s ∧ step s = .next t) :=
  ⟨{ State.reset with pending := [.beatBoundary] }, _, ⟨settled_of_check _ (by decide +kernel), rfl⟩⟩

/-- States and operands that meet the hypotheses of BoundaryAndAperturesAdvanceTheBeat, clause by clause. -/
theorem test_met_BoundaryAndAperturesAdvanceTheBeat :
    (∃ (s : State), s.beat.running = true) ∧
    (∃ (s : State), s.beat.running = false) ∧
    (∃ (s : State), s.beat.running = true ∧ s.beat.formed < 2) ∧
    (∃ (s : State), (s.beat.running = false ∨ 2 ≤ s.beat.formed)) :=
  ⟨⟨rdy, by decide +kernel⟩,
    ⟨State.reset, by decide +kernel⟩,
    ⟨rdy, by decide +kernel⟩,
    ⟨State.reset, by decide +kernel⟩⟩

/-- States and operands that meet the hypotheses of EnginesClaimOrLeave, clause by clause. -/
theorem test_met_EnginesClaimOrLeave :
    (∃ (s : State) (e : EngineNo) (j : Job) (stolen : Bool), s.beat.running = true ∧ e ∈ s.beat.engines ∧ (∀ x ∈ s.beat.lost, x.1 ≠ e) ∧ s.engineBusy
      e = false ∧ pickJob s.beat.jobs s.beat.engines e = some (j, stolen)) ∧
    (∃ (s : State) (e : EngineNo), e ∈ s.beat.engines ∧ (∀ x ∈ s.beat.lost, x.1 ≠ e)) ∧
    (∃ (s : State) (e : EngineNo), e ∈ s.beat.engines ∧ (∀ x ∈ s.beat.lost, x.1 ≠ e) ∧ s.engineBusy e = true) ∧
    (∃ (s : State) (e : EngineNo), (∃ x ∈ s.beat.lost, x.1 = e)) :=
  ⟨⟨withJob .beat .free, 0, aJob .beat .free, false, by decide +kernel⟩,
    ⟨rdy, 0, by decide +kernel⟩,
    ⟨withJob .beat (.claimed 0), 0, by decide +kernel⟩,
    ⟨rdy.modBeat fun b => { b with lost := [(0, .residue)] }, 0, by decide +kernel⟩⟩

/-- States and operands that meet the hypotheses of JobsWriteTheirOwnArea, clause by clause. -/
theorem test_met_JobsWriteTheirOwnArea :
    (∃ (s : State) (n : ChanNo) (j : Job) (e : EngineNo), s.claimedJob n JobClass.fast = some (j, e) ∧ j.cls = .beat) ∧
    (∃ (s : State) (n : ChanNo) (j : Job) (e : EngineNo), s.claimedJob n JobClass.fast = some (j, e)) ∧
    (∃ (s : State) (n : ChanNo) (j : Job) (e : EngineNo), s.claimedJob n (· == .tenth) = some (j, e)) ∧
    (∃ (s : State) (n : ChanNo) (j : Job) (e : EngineNo), s.claimedJob n (· == .milli) = some (j, e)) :=
  ⟨⟨withJob .beat (.claimed 0), 0, aJob .beat (.claimed 0), 0, by decide +kernel⟩,
    ⟨withJob .beat (.claimed 0), 0, aJob .beat (.claimed 0), 0, by decide +kernel⟩,
    ⟨withJob .tenth (.claimed 0), 0, aJob .tenth (.claimed 0), 0, by decide +kernel⟩,
    ⟨withJob .milli (.claimed 0), 0, aJob .milli (.claimed 0), 0, by decide +kernel⟩⟩

/-- States and operands that meet the hypotheses of OverrunsAndBeatRegisters, clause by clause. -/
theorem test_met_OverrunsAndBeatRegisters :
    (∃ (s : State), (∀ j ∈ s.beat.jobs, j.late = false)) ∧
    (∃ (s : State) (j : Job), j ∈ s.beat.jobs ∧ j.late = true ∧ j.claim ≠ .failed) ∧
    (∃ (s : State), s.live = true) ∧
    (∃ (s : State), s.reads = true) :=
  ⟨⟨rdy, by decide +kernel⟩,
    ⟨rdy.modBeat fun b => { b with jobs := [{ aJob .beat .free with late := true }] }, { aJob .beat .free with late := true }, by decide +kernel⟩,
    ⟨rdy, by decide +kernel⟩,
    ⟨rdy, by decide +kernel⟩⟩

/-- States and operands that meet the hypotheses of BandEdgesMoveTheGates, clause by clause. -/
theorem test_met_BandEdgesMoveTheGates :
    (∃ (s : State) (n : PhaseNo), let x := (s.phases[n]); x.switching = true ∧ x.gh = true ∧ x.minOn = false ∧ x.stopping = false) ∧
    (∃ (s : State) (n : PhaseNo), let x := (s.phases[n]); x.switching = true ∧ x.gh = true ∧ x.minOn = true) ∧
    (∃ (s : State) (n : PhaseNo), let x := (s.phases[n]); x.switching = true ∧ x.stopping = true ∧ (x.gh = true → x.minOn = false)) ∧
    (∃ (s : State) (n : PhaseNo), let x := (s.phases[n]); x.switching = true ∧ x.gh = false ∧ x.riseReady = false ∧ x.dead ≠ .lh ∧ fld x.run.cfg 8 6 ≠
      0) ∧
    (∃ (s : State) (n : PhaseNo), let x := (s.phases[n]); let free := (x.slotDue = true ∨ s.interleaved n = false); x.switching = true ∧ x.gh = false
      ∧ x.riseReady = false ∧ x.dead ≠ .lh ∧ fld x.run.cfg 8 6 = 0 ∧ x.minOff = false ∧ free) ∧
    (∃ (s : State) (n : PhaseNo), let x := (s.phases[n]); x.dead = .hl) ∧
    (∃ (s : State) (n : PhaseNo), let x := (s.phases[n]); let free := (x.slotDue = true ∨ s.interleaved n = false); x.dead = .lh ∧ x.switching = true
      ∧ x.minOff = false ∧ free) ∧
    (∃ (s : State) (n : PhaseNo), let x := (s.phases[n]); let free := (x.slotDue = true ∨ s.interleaved n = false); x.dead = .lh ∧ (x.minOff = true ∨
      ¬free)) ∧
    (∃ (s : State) (n : PhaseNo), let x := (s.phases[n]); x.gh = true ∧ x.minOn = true ∧ x.upperPending = true) ∧
    (∃ (s : State) (n : PhaseNo), let x := (s.phases[n]); x.upperPending = false) ∧
    (∃ (s : State) (n : PhaseNo), let x := (s.phases[n]); let free := (x.slotDue = true ∨ s.interleaved n = false); x.switching = true ∧ x.riseReady =
      true ∧ free) ∧
    (∃ (s : State) (n : PhaseNo), let x := (s.phases[n]); x.riseReady = false) :=
  ⟨⟨ph fun p => { p with switching := true, gh := true }, 0, by dsimp only; decide +kernel⟩,
    ⟨ph fun p => { p with switching := true, gh := true, minOn := true }, 0, by dsimp only; decide +kernel⟩,
    ⟨ph fun p => { p with switching := true, stopping := true }, 0, by dsimp only; decide +kernel⟩,
    ⟨ph fun p => { p with switching := true }, 0, by dsimp only; decide +kernel⟩,
    ⟨ph fun p => { p with switching := true, run := { p.run with cfg := 0 } }, 0, by dsimp only; decide +kernel⟩,
    ⟨ph fun p => { p with dead := .hl }, 0, by dsimp only; decide +kernel⟩,
    ⟨ph fun p => { p with dead := .lh, switching := true }, 0, by dsimp only; decide +kernel⟩,
    ⟨ph fun p => { p with switching := true, dead := .lh, minOff := true }, 0, by dsimp only; decide +kernel⟩,
    ⟨ph fun p => { p with gh := true, minOn := true, upperPending := true }, 0, by dsimp only; decide +kernel⟩,
    ⟨rdy, 0, by dsimp only; decide +kernel⟩,
    ⟨ph fun p => { p with switching := true, riseReady := true }, 0, by dsimp only; decide +kernel⟩,
    ⟨rdy, 0, by dsimp only; decide +kernel⟩⟩

/-- States and operands that meet the hypotheses of SlotsCapsAndStops, clause by clause. -/
theorem test_met_SlotsCapsAndStops :
    (∃ (s : State) (n : PhaseNo), let x := (s.phases[n]); x.switching = true ∧ x.riseReady = true ∧ x.minOff = false) ∧
    (∃ (s : State) (n : PhaseNo), let x := (s.phases[n]); x.switching = true ∧ x.riseReady = false) ∧
    (∃ (s : State) (n : PhaseNo), let x := (s.phases[n]); x.switching = true ∧ x.gh = false ∧ x.slotDue = false ∧ x.slot ≠ 0 ∧ x.riseReady = true ∧
      x.minOff = false) ∧
    (∃ (s : State) (n : PhaseNo), let x := (s.phases[n]); x.switching = true ∧ x.gh = false ∧ x.slotDue = false ∧ x.slot ≠ 0 ∧ x.riseReady = false ∧
      x.dead = .lh) ∧
    (∃ (s : State) (n : PhaseNo), let x := (s.phases[n]); x.stopping = true) ∧
    (∃ (s : State) (n : PhaseNo), let x := (s.phases[n]); x.stopping = false) :=
  ⟨⟨twoPhases, 0, by dsimp only; decide +kernel⟩,
    ⟨ph fun p => { p with switching := true }, 0, by dsimp only; decide +kernel⟩,
    ⟨twoPhases, 0, by dsimp only; decide +kernel⟩,
    ⟨ph fun p => { p with switching := true, slot := 200, dead := .lh }, 0, by dsimp only; decide +kernel⟩,
    ⟨ph fun p => { p with stopping := true }, 0, by dsimp only; decide +kernel⟩,
    ⟨rdy, 0, by dsimp only; decide +kernel⟩⟩

/-- States and operands that meet the hypotheses of PhaseCommandsKeepTheInterlock, clause by clause. -/
theorem test_met_PhaseCommandsKeepTheInterlock :
    (∃ (s : State) (n : PhaseNo) (tick : Nat) (cyc : Nat) (v : Word) (c : Instr), GatesSafe s ∧ c ∈ [.upperEdgeCrossing n tick, .lowerEdgeCrossing n
      tick, .deadTimeEnd n tick, .minOnTimeEnd n tick, .minOffTimeEnd n tick, .interleaveSlot n tick, .slotDelayCap n tick, .phaseStopTimeout n,
      .latchNvWrite, .phOcClr n v cyc, .chCommit n v cyc, .chClr n v cyc]) :=
  ⟨rdy, 0, 0, 0, 0, .latchNvWrite, ⟨by unfold GatesSafe; decide +kernel, by simp⟩⟩

/-- States and operands that meet the hypotheses of LatchesHoldTheGatesLow, clause by clause. -/
theorem test_met_LatchesHoldTheGatesLow :
    (∃ (s : State) (n : PhaseNo) (high : Bool), (s.cmpOf n).moth .current = false ∧ (s.cmpOf n).get .current high = false) ∧
    (∃ (s : State) (n : PhaseNo) (v : Word) (cyc : Nat) (q : PhaseNo) (t : _), s.live = true ∧ fld v 0 8 = 0xA7 ∧ s.phases[n].latched = true ∧ q ≠ n ∧
      exec (.phOcClr n v cyc) s = .next t) ∧
    (∃ (s : State) (n : PhaseNo) (v : Word), let ok := (s.clearOk n = true ∧ s.phases[n].latchNow = false ∧ ¬(s.phases[n].latchScope = true ∧
      (s.ownerOf n).isSome = true)); s.live = true ∧ fld v 0 8 = 0xA7 ∧ s.phases[n].latched = true ∧ ok) ∧
    (∃ (s : State) (n : PhaseNo) (v : Word), let ok := (s.clearOk n = true ∧ s.phases[n].latchNow = false ∧ ¬(s.phases[n].latchScope = true ∧
      (s.ownerOf n).isSome = true)); s.live = true ∧ fld v 0 8 = 0xA7 ∧ s.phases[n].latched = true ∧ ¬ok) ∧
    (∃ (s : State) (n : ChanNo) (v : Word), let ok := (fun p : PhaseNo => s.clearOk p = true ∧ s.phases[p].latchNow = false); s.live = true ∧ fld v 0
      8 = 0xA7 ∧ s.isRun n = true ∧ (s.chans[n].latched = true ∨ ∃ p ∈ s.phasesOf n, s.phases[p].latched = true ∧ s.phases[p].latchScope = true) ∧ (∀
      p ∈ s.phasesOf n, ok p) ∧ s.chans[n].tripNow = false ∧ (∀ x ∈ s.chans[n].latchWins, (s.cmpOf x.1).inWin x.2 = false ∧ (s.groups[groupOf
      x.1]).dacFailed (x.1.val % 16) x.2 = false)) ∧
    (∃ (s : State) (n : ChanNo) (v : Word) (p : _), let ok := (fun p : PhaseNo => s.clearOk p = true ∧ s.phases[p].latchNow = false); s.live = true ∧
      fld v 0 8 = 0xA7 ∧ s.isRun n = true ∧ (s.chans[n].latched = true ∨ ∃ p ∈ s.phasesOf n, s.phases[p].latched = true ∧ s.phases[p].latchScope =
      true) ∧ p ∈ s.phasesOf n ∧ ¬ok p) ∧
    (∃ (v : Word), fld v 0 8 ≠ 0xA7) :=
  ⟨⟨rdy, 0, false, by decide +kernel⟩,
    ⟨ph fun p => { p with latched := true }, 0, 0xA7, 0, 1, _, ⟨by decide +kernel, by decide +kernel, by decide +kernel, by decide +kernel, rfl⟩⟩,
    ⟨ph fun p => { p with latched := true }, 0, 0xA7, by dsimp only; decide +kernel⟩,
    ⟨(ph fun p => { p with latched := true }).modGroup 0 fun g => { g with cmp := g.cmp.set 0 { g.cmp[0] with hi := true } }, 0, 0xA7,
      by dsimp only; decide +kernel⟩,
    ⟨ch fun c => { c with latched := true }, 0, 0xA7, by dsimp only; decide +kernel⟩,
    ⟨((ph fun p => { p with latched := true, latchScope := true }).modChan 0 fun c => { c with latched := true }).modGroup 0 fun g => { g with cmp := g.cmp.set 0 { g.cmp[0] with hi := true } },
      0, 0xA7, 0, by dsimp only; decide +kernel⟩,
    ⟨0, by decide +kernel⟩⟩

/-- States and operands that meet the hypotheses of CommitSnapshotsTheStagedWords, clause by clause. -/
theorem test_met_CommitSnapshotsTheStagedWords :
    (∃ (s : State) (n : ChanNo) (v : Word), s.live = true ∧ v.getLsbD 0 = true ∧ s.isConf n = true) ∧
    (∃ (s : State) (n : ChanNo) (v : Word), (v.getLsbD 0 = false ∨ s.isConf n = false)) :=
  ⟨⟨rdy, 0, 1, by decide +kernel⟩,
    ⟨rdy, 0, 0, by decide +kernel⟩⟩

/-- States and operands that meet the hypotheses of LaneSlotTakesAFrame, clause by clause. -/
theorem test_met_LaneSlotTakesAFrame :
    (∃ (s : State), s.lane.en = true) ∧
    (∃ (s : State) (clocks : Nat), s.lane.en = true ∧ clocks ≠ 48 ∧ s.lane.frameErr ≠ 0xFFFF#16) ∧
    (∃ (s : State), s.lane.en = false) :=
  ⟨⟨rdy, by decide +kernel⟩,
    ⟨rdy, 0, by decide +kernel⟩,
    ⟨rdy.modLane fun l => { l with en := false }, by decide +kernel⟩⟩

/-- States and operands that meet the hypotheses of RotationSubstitutionAndSeries, clause by clause. -/
theorem test_met_RotationSubstitutionAndSeries :
    (∃ (s : State) (g : GroupNo), s.beat.running = true ∧ s.beat.number.toNat % 256 = 0 ∧ (s.groups[g]).slotAt ≠ some s.beat.number) ∧
    (∃ (s : State), s.beat.number.toNat % 256 ≠ 0) ∧
    (∃ (s : State) (g : GroupNo) (voltage : Bool) (y : Subst), ((s.groups[g]).substs.find? fun y => y.voltage == voltage && y.spare != 0x1F &&
      !y.tookOver && !y.spareRail && !y.calTest && decide (y.start + 6 ≤ s.beat.number)) = some y ∧ ((s.groups[g]).slice voltage y.spare).railLen < 8) ∧
    (∃ (s : State) (g : GroupNo) (voltage : Bool) (y : Subst), ((s.groups[g]).substs.find? fun y => y.voltage == voltage && y.spare != 0x1F &&
      !y.tookOver && !y.spareRail && !y.calTest && decide (y.start + 6 ≤ s.beat.number)) = some y ∧ 8 ≤ ((s.groups[g]).slice voltage y.spare).railLen) ∧
    (∃ (s : State) (g : GroupNo) (voltage : Bool) (y : Subst), ((s.groups[g]).substs.find? fun y => y.voltage == voltage && decide (y.testAt + 6 ≤
      s.beat.number) && (y.tookOver || y.spareRail || y.calTest || y.spare == 0x1F)) = some y ∧ y.tookOver = true ∧ y.calTest = false ∧ y.spareRail =
      false ∧ directOk voltage y.sums = true) ∧
    (∃ (s : State) (g : GroupNo) (voltage : Bool) (y : Subst), ((s.groups[g]).substs.find? fun y => y.voltage == voltage && decide (y.testAt + 6 ≤
      s.beat.number) && (y.tookOver || y.spareRail || y.calTest || y.spare == 0x1F)) = some y ∧ y.tookOver = true ∧ y.calTest = false ∧ y.spareRail =
      false ∧ directOk voltage y.sums = false ∧ y.suspect < 17) ∧
    (∃ (s : State) (g : GroupNo) (v : Word), s.live = true ∧ (s.groups[g]).diagRun = false ∧ v.getLsbD 31 = true) ∧
    (∃ (s : State) (g : GroupNo), (s.groups[g]).diagRun = true) :=
  ⟨⟨rdy.modBeat fun b => { b with number := 1024 }, 0, by decide +kernel⟩,
    ⟨rdy, by decide +kernel⟩,
    ⟨grp fun g => { g with substs := [aSubst] }, 0, false, aSubst, by decide +kernel⟩,
    ⟨grp fun g => (({ g with substs := [aSubst] } : Group).modSlice false 16 fun x => { x with railLen := 8 }), 0, false, aSubst, by decide +kernel⟩,
    ⟨grp fun g => { g with substs := [{ aSubst with tookOver := true, sums := goodSums }] }, 0, false,
      { aSubst with tookOver := true, sums := goodSums }, by decide +kernel⟩,
    ⟨grp fun g => { g with substs := [{ aSubst with tookOver := true, sums := [0, 0, 0] }] }, 0, false,
      { aSubst with tookOver := true, sums := [0, 0, 0] }, by decide +kernel⟩,
    ⟨rdy, 0, 0x80000000, by decide +kernel⟩,
    ⟨grp fun g => { g with diagRun := true }, 0, by decide +kernel⟩⟩

/-- States and operands that meet the hypotheses of MetrologyPortsWorkInOrder, clause by clause. -/
theorem test_met_MetrologyPortsWorkInOrder :
    (∃ (s : State) (v : Word), s.live = true ∧ v.getLsbD 31 = true) ∧
    (∃ (s : State) (p : Fin 4) (c : Word), let x := (s.met.ports[p]); let stays := (s.met.checks = [] ∨ s.met.ownReg.getLsbD p.val = false); x.job =
      .host c ∧ stays) ∧
    (∃ (s : State), s.live = true) ∧
    (∃ (s : State) (p : Fin 4) (sum : Int) (sumSq : Nat), let x := (s.met.ports[p]); x.job = .zero ∧ sum.natAbs ≤ 8388 * 256 ∧ noisy sum sumSq =
      false) ∧
    (∃ (s : State) (p : Fin 4) (sum : Int), let x := (s.met.ports[p]); let stays := (s.met.checks = [] ∨ s.met.ownReg.getLsbD p.val = false); x.job =
      .zero ∧ stays ∧ 8388 * 256 < sum.natAbs) ∧
    (∃ (s : State) (p : Fin 4) (sum : Int) (sumSq : Nat), let x := (s.met.ports[p]); let stays := (s.met.checks = [] ∨ s.met.ownReg.getLsbD p.val =
      false); x.job = .zero ∧ stays ∧ sum.natAbs ≤ 8388 * 256 ∧ noisy sum sumSq = true) ∧
    (∃ (s : State) (p : Fin 4), let x := (s.met.ports[p]); s.live = true ∧ x.state = .zeroHeld) ∧
    (∃ (s : State) (p : Fin 4), let x := (s.met.ports[p]); s.live = true ∧ x.state = .busy) ∧
    (∃ (s : State) (p : Fin 4), let x := (s.met.ports[p]); let stays := (s.met.checks = [] ∨ s.met.ownReg.getLsbD p.val = false); x.job = .full ∧
      stays) ∧
    (∃ (s : State) (p : Fin 4), let x := (s.met.ports[p]); let stays := (s.met.checks = [] ∨ s.met.ownReg.getLsbD p.val = false); s.live = true ∧
      x.state = .ready ∧ stays) ∧
    (∃ (s : State) (p : Fin 4), let x := (s.met.ports[p]); let stays := (s.met.checks = [] ∨ s.met.ownReg.getLsbD p.val = false); s.live = true ∧
      (x.state = .zeroHeld ∨ x.state = .ready ∨ x.job = .zero ∨ x.job = .full) ∧ stays) ∧
    (∃ (s : State) (p : Fin 4), let x := (s.met.ports[p]); let stays := (s.met.checks = [] ∨ s.met.ownReg.getLsbD p.val = false); (x.state = .zeroHeld
      ∨ x.state = .ready) ∧ stays) ∧
    (∃ (s : State) (p : Fin 4), let x := (s.met.ports[p]); x.free = true) ∧
    (∃ (s : State) (p : Fin 4), let x := (s.met.ports[p]); x.free = false) :=
  ⟨⟨port0 id, 0x80000000, by decide +kernel⟩,
    ⟨port0 fun x => { x with job := .host 1, state := .busy }, 0, 1, by dsimp only; decide +kernel⟩,
    ⟨rdy, by decide +kernel⟩,
    ⟨port0 fun x => { x with job := .zero, state := .busy }, 0, 0, 0, by dsimp only; decide +kernel⟩,
    ⟨port0 fun x => { x with job := .zero, state := .busy }, 0, 2147329, by dsimp only; decide +kernel⟩,
    ⟨port0 fun x => { x with job := .zero, state := .busy }, 0, 0, 65537, by dsimp only; decide +kernel⟩,
    ⟨port0 fun x => { x with state := .zeroHeld }, 0, by dsimp only; decide +kernel⟩,
    ⟨port0 fun x => { x with state := .busy }, 0, by dsimp only; decide +kernel⟩,
    ⟨port0 fun x => { x with job := .full, state := .busy }, 0, by dsimp only; decide +kernel⟩,
    ⟨port0 fun x => { x with state := .ready }, 0, by dsimp only; decide +kernel⟩,
    ⟨port0 fun x => { x with state := .ready }, 0, by dsimp only; decide +kernel⟩,
    ⟨port0 fun x => { x with state := .ready }, 0, by dsimp only; decide +kernel⟩,
    ⟨rdy, 0, by dsimp only; decide +kernel⟩,
    ⟨port0 fun x => { x with state := .busy }, 0, by dsimp only; decide +kernel⟩⟩

/-- States and operands that meet the hypotheses of TransfersAndCrossChecks, clause by clause. -/
theorem test_met_TransfersAndCrossChecks :
    (∃ (s : State) (g : GroupNo) (d : Nat), s.ageSecs (s.groups[g]).xferTime = some d ∧ fld s.met.xferCfg 0 5 ≠ 0 ∧ fld s.met.xferCfg 0 5 * 86400 ≤ d
      ∧ ((s.groups[g]).xferV.isSome = true ∨ (s.groups[g]).xferI.isSome = true) ∧ (s.groups[g]).xfer = false ∧ g ∉ s.met.queue) ∧
    (∃ (s : State), s.live = true) ∧
    (∃ (s : State) (p : Fin 4) (g : GroupNo), let free := (fun h : GroupNo => (s.groups[h]).substituting false = false ∧ (s.groups[h]).substituting
      true = false); s.portOwned p = true ∧ (s.met.ports[p]).free = true ∧ s.met.checks = [] ∧ s.beat.number.toNat % 256 = 0 ∧ s.dev.state ≠
      .chrysalis ∧ s.met.queue.contains g = true ∧ free g ∧ (∀ h : GroupNo, h < g → s.met.queue.contains h = true → ¬free h)) ∧
    (∃ (s : State), s.beat.number.toNat % 256 ≠ 0) ∧
    (∃ (s : State) (p : Fin 4) (g : GroupNo), (s.met.ports[p]).job = .transfer g ∧ (s.met.checks = [] ∨ s.met.ownReg.getLsbD p.val = false)) ∧
    (∃ (s : State) (g : GroupNo), s.transferOld g true = true ∧ (s.groups[g]).xferV.isSome = true) ∧
    (∃ (s : State) (g : GroupNo), s.transferOld g false = true ∧ (s.groups[g]).xferI.isSome = true) ∧
    (∃ (s : State) (p : Fin 4) (n : ChanNo) (ph : PhaseNo) (code : Int), (s.met.ports[p]).job = .check n ph ∧ (s.met.checks = [] ∨
      s.met.ownReg.getLsbD p.val = false) ∧ s.xchkPass false ph ((s.met.ports[p]).value256 true code 1) = true) :=
  ⟨⟨(grp fun g => { g with xferV := some 1073741824, xferTime := 0 }).modRtc fun r => { r with valid := true, now := { r.now with day := 31 } }, 0,
      2592000, by decide +kernel⟩,
    ⟨rdy, by decide +kernel⟩,
    ⟨(rdy.modMet fun m => { m with queue := [0] }).modBeat fun b => { b with number := 1024 }, 1, 0, by dsimp only; decide +kernel⟩,
    ⟨rdy, by decide +kernel⟩,
    ⟨rdy.modMet fun m => { m with ports := m.ports.set 1 { m.ports[1] with job := .transfer 0, state := .busy } }, 1, 0, by decide +kernel⟩,
    ⟨(grp fun g => { g with xferV := some 1073741824, xferTime := 0 }).modRtc fun r => { r with valid := true, now := { r.now with day := 31 } }, 0,
      by decide +kernel⟩,
    ⟨(grp fun g => { g with xferI := some 1073741824, xferTimeI := 0 }).modRtc fun r => { r with valid := true, now := { r.now with day := 31 } }, 0,
      by decide +kernel⟩,
    ⟨(rdy.modMet fun m => { m with ports := m.ports.set 1 { m.ports[1] with job := .check 0 0, state := .busy } }).modPhase 0 fun p => { p with avIn := 1 },
      1, 0, 0, 0, by decide +kernel⟩⟩

/-- States and operands that meet the hypotheses of WindowsCrossActAndEnd, clause by clause. -/
theorem test_met_WindowsCrossActAndEnd :
    (∃ (s : State) (n : PhaseNo) (high : Bool), (s.cmpOf n).moth .vtrip = false ∧ s.isRun n = true ∧ (s.cmpOf n).get .vtrip high = false ∧ (s.cmpOf
      n).inV = false ∧ (s.groups[groupOf n]).action (posOf n.val) .vtrip = 0) ∧
    (∃ (s : State) (n : PhaseNo) (high : Bool), (s.cmpOf n).moth .vtrip = false ∧ s.isRun n = true ∧ (s.cmpOf n).get .vtrip high = false ∧ (s.cmpOf
      n).inV = false ∧ (s.groups[groupOf n]).action (posOf n.val) .vtrip = 1 ∧ s.flt.sevOf 19 ≤ 1 ∧ s.chans[n].state ≠ .off) ∧
    (∃ (s : State) (n : PhaseNo), s.isRun n = false) ∧
    (∃ (s : State) (n : PhaseNo) (voltage : Bool) (high : Bool), let w := (if voltage then Win.vtrip else Win.current); let g := (s.groups[groupOf
      n]); (s.cmpOf n).moth w = false ∧ (s.cmpOf n).get w (!high) = false ∧ g.dacBad (posOf n.val) w true = false ∧ g.dacBad (posOf n.val) w false =
      false) ∧
    (∃ (s : State) (n : PhaseNo) (voltage : Bool) (high : Bool), let w := (if voltage then Win.vtrip else Win.current); (s.cmpOf n).moth w = false ∧
      (s.cmpOf n).get w (!high) = true) ∧
    (∃ (s : State) (n : PhaseNo), let due := (s.beat.running = true ∧ (s.beat.number.toNat + n.val % 16) % mothN (s.groups[groupOf n]).wcfg[posOf
      n.val] = 0); ¬due) ∧
    (∃ (s : State) (n : PhaseNo) (shunt : Int), let due := (s.beat.running = true ∧ (s.beat.number.toNat + n.val % 16) % mothN (s.groups[groupOf
      n]).wcfg[posOf n.val] = 0); due ∧ (s.cmpOf n).moth .current = true ∧ (s.cmpOf n).moth .vtrip = false ∧ (s.cmpOf n).hi = false ∧ winLevel
      .current (winCodes .current (s.groups[groupOf n]).iwin[posOf n.val]).1 < shunt) ∧
    (∃ (s : State) (n : PhaseNo) (w : Fin 3), (s.cmpOf n).inWin (winOf w) = false) ∧
    (∃ (s : State) (n : PhaseNo) (w : Fin 3), (s.cmpOf n).inWin (winOf w) = true) :=
  ⟨⟨grp fun g => { g with wcfg := g.wcfg.set 0 0 }, 0, false, by decide +kernel⟩,
    ⟨(grp fun g => { g with wcfg := g.wcfg.set 0 0x00400C50 }).modChan 0 fun c => { c with halves := #v[{ Context.reset with step := { StepState.reset with base := .run } }, Context.reset] },
      0, false, by decide +kernel⟩,
    ⟨rdy, 1, by decide +kernel⟩,
    ⟨rdy, 0, false, false, by dsimp only; decide +kernel⟩,
    ⟨cmp0 fun c => { c with lo := true, hi := true }, 0, false, true, by dsimp only; decide +kernel⟩,
    ⟨rdy, 0, by dsimp only; decide +kernel⟩,
    ⟨((cmp0 fun c => { c with modeI := 3, nextI := 3 }).modBeat fun b => { b with number := 1024 }).modGroup 0 fun g => { g with iwin := g.iwin.set 0 0x079A0866 },
      0, 1000000000, by dsimp only; decide +kernel⟩,
    ⟨rdy, 0, 0, by decide +kernel⟩,
    ⟨cmp0 fun c => { c with inI := true, hi := true }, 0, 0, by decide +kernel⟩⟩

/-- States and operands that meet the hypotheses of ThresholdsAndReadback, clause by clause. -/
theorem test_met_ThresholdsAndReadback :
    (∃ (s : State), s.live = true) ∧
    (∃ (s : State) (n : PhaseNo), (s.cmpOf n).settling = true) ∧
    (∃ (s : State) (n : PhaseNo), (s.cmpOf n).settling = false) ∧
    (∃ (s : State) (g : GroupNo) (voltage : Bool), let x := (s.groups[g]); let b := (s.beat.number.toNat % 256); let visit := (s.beat.running = true ∧
      (x.cal voltage).active = true ∧ x.out voltage ≠ 0x1F ∧ b ∈ [216, 224, 232, 240]); ¬visit) ∧
    (∃ (s : State) (g : GroupNo) (voltage : Bool), let x := (s.groups[g]); let b := (s.beat.number.toNat % 256); let visit := (s.beat.running = true ∧
      (x.cal voltage).active = true ∧ x.out voltage ≠ 0x1F ∧ b ∈ [216, 224, 232, 240]); visit) :=
  ⟨⟨rdy, by decide +kernel⟩,
    ⟨cmp0 fun c => { c with nextI := 1 }, 0, by decide +kernel⟩,
    ⟨rdy, 0, by decide +kernel⟩,
    ⟨rdy, 0, false, by dsimp only; decide +kernel⟩,
    ⟨(grp fun g => { g with calI := { g.calI with active := true } }).modBeat fun b => { b with number := 1240 }, 0, false,
      by dsimp only; decide +kernel⟩⟩

/-- States and operands that meet the hypotheses of RecipesEstimatesAndLifetime, clause by clause. -/
theorem test_met_RecipesEstimatesAndLifetime :
    (∃ (s : State) (n : ChanNo), s.barrierExpired n = true) ∧
    (∃ (s : State) (n : ChanNo), s.barrierExpired n = false) ∧
    (∃ (s : State) (n : ChanNo), s.tempLost n = false) ∧
    (∃ (s : State) (n : ChanNo), s.tempLost n = true) ∧
    (∃ (s : State) (n : ChanNo), s.refTooOld n = true) ∧
    (∃ (s : State) (n : ChanNo), s.refTooOld n = false) ∧
    (∃ (s : State) (n : ChanNo) (v : Word), s.live = true ∧ v.getLsbD 0 = true ∧ s.isConf n = true) ∧
    (∃ (s : State), s.dev.lifetimeDue = true) ∧
    (∃ (s : State), s.dev.lifetimeDue = false) :=
  ⟨⟨atStep (aStep 0x12 5 1 []) .hold id, 0, by decide +kernel⟩,
    ⟨rdy, 0, by decide +kernel⟩,
    ⟨rdy, 0, by decide +kernel⟩,
    ⟨atStep (aStep 0x01 0 0 [{ kind := 8, next := 0xFF, qual := 1, value := 0 }]) .run fun c => { c with temp := { c.temp with value := 2500, age := 10000001 } },
      0, by decide +kernel⟩,
    ⟨(ch fun c => { c with estCur := { c.estCur with ref := some aRef } }).modBeat fun b => { b with number := 200000000000 }, 0, by decide +kernel⟩,
    ⟨rdy, 0, by decide +kernel⟩,
    ⟨rdy, 0, 1, by decide +kernel⟩,
    ⟨rdy.modDev fun d => { d with lifetimeDue := true }, by decide +kernel⟩,
    ⟨rdy, by decide +kernel⟩⟩

/-- States and operands that meet the hypotheses of HostLinkResets, clause by clause. -/
theorem test_met_HostLinkResets :
    (∃ (s : State), s.host.linkUp = true) ∧
    (∃ (s : State), s.host.linkUp = false) ∧
    (∃ (s : State) (speed : Nat) (width : Nat), 1 ≤ speed ∧ speed ≤ 4 ∧ 1 ≤ width ∧ width ≤ 2 ∧ s.host.linkUp = false ∧ s.mayTrain = true) ∧
    (∃ (s : State) (speed : Nat) (width : Nat), 1 ≤ speed ∧ speed ≤ 4 ∧ 1 ≤ width ∧ width ≤ 2 ∧ s.host.linkUp = false ∧ s.mayTrain = false) ∧
    (∃ (s : State), s.host.fetched = [] ∧ s.host.cplPend = [] ∧ s.host.heldEvents = [] ∧ s.host.dropped = 0) :=
  ⟨⟨rdy, by decide +kernel⟩,
    ⟨rdy.modHost fun h => { h with linkUp := false }, by decide +kernel⟩,
    ⟨rdy.modHost fun h => { h with linkUp := false }, 4, 2, by decide +kernel⟩,
    ⟨(rdy.modHost fun h => { h with linkUp := false }).modDev fun d => { d with state := .powerup }, 1, 1, by decide +kernel⟩,
    ⟨rdy, by decide +kernel⟩⟩

/-- States and operands that meet the hypotheses of RingsFollowTheirRules, clause by clause. -/
theorem test_met_RingsFollowTheirRules :
    (∃ (s : State), s.live = true ∧ s.host.fetched = [] ∧ s.host.heldEvents = [] ∧ s.host.dropped = 0) ∧
    (∃ (s : State) (l : List (List Byte)), s.mayFetch = true ∧ (∀ d ∈ s.host.fetched ++ l.map parseDesc, opcodeKnown d.opcode = true)) ∧
    (∃ (s : State), s.mayFetch = false) ∧
    (∃ (s : State), s.mayFetch = true) ∧
    (∃ (s : State) (e : Event), s.mayWrite = true ∧ s.host.evtq.room ≠ 0 ∧ s.host.heldEvents = [e] ∧ s.host.dropped = 0) ∧
    (∃ (s : State), s.mayWrite = false) ∧
    (∃ (s : State), s.host.msixEn = true ∧ s.host.msixMaskAll = false ∧ s.host.bme = true ∧ s.host.cplq.since ≠ 0 ∧ s.host.cplq.modUs ≠ 0 ∧
      s.host.cplq.size ≠ 0 ∧ s.host.msixMask.getLsbD 1 = false) ∧
    (∃ (s : State), s.host.msixEn = true ∧ s.host.msixMaskAll = false ∧ s.host.bme = true ∧ s.host.evtq.since ≠ 0 ∧ s.host.evtq.modUs ≠ 0 ∧
      s.host.evtq.size ≠ 0 ∧ s.host.msixMask.getLsbD 2 = false) :=
  ⟨⟨rdy, by decide +kernel⟩,
    ⟨rdy.modHost fun h => { h with cmdq := { h.cmdq with host := 1 } }, [], by decide +kernel⟩,
    ⟨rdy, by decide +kernel⟩,
    ⟨rdy.modHost fun h => { h with cmdq := { h.cmdq with host := 1 } }, by decide +kernel⟩,
    ⟨rdy.modHost fun h => { h with evtq := { h.evtq with host := 100 }, heldEvents := [anEvent] }, anEvent, by decide +kernel⟩,
    ⟨State.reset, by decide +kernel⟩,
    ⟨rdy.modHost fun h => { h with msixEn := true, msixMask := 0, cplq := { h.cplq with since := 1, modUs := 5 } }, by decide +kernel⟩,
    ⟨rdy.modHost fun h => { h with msixEn := true, msixMask := 0, evtq := { h.evtq with since := 1, modUs := 5 } }, by decide +kernel⟩⟩

/-- States and operands that meet the hypotheses of ShortCommandsComplete, clause by clause. -/
theorem test_met_ShortCommandsComplete :
    (∃ (s : State) (d : Desc), Front s d ∧ d.opcode = 0x00 ∧ d.target = 0 ∧ d.arg0 = 0 ∧ d.arg1 = 0 ∧ d.bare) ∧
    (∃ (s : State) (d : Desc), Front s d ∧ d.opcode = 0x00 ∧ d.target = 0 ∧ d.arg0 = 0 ∧ d.arg1 = 0 ∧ d.rsv ≠ 0) ∧
    (∃ (s : State) (d : Desc), Front s d ∧ d.opcode = 0x0D ∧ d.bare ∧ d.target = 0 ∧ d.arg1 = 0) ∧
    (∃ (s : State) (d : Desc), Front s d ∧ d.opcode = 0x0E ∧ d.bare ∧ d.target = 0 ∧ d.arg1 < 6311433600 ∧ d.arg0 < 32768) ∧
    (∃ (s : State) (d : Desc), Front s d ∧ d.opcode = 0x0E ∧ d.bare ∧ d.target = 0 ∧ (6311433600 ≤ d.arg1 ∨ 32768 ≤ d.arg0)) ∧
    (∃ (s : State) (d : Desc) (bs : List Byte) (b : Word), Front s d ∧ d.opcode = 0x01 ∧ d.buffer bs.length ∧ d.target = 0 ∧ d.arg1 = 0 ∧ d.arg0 = 0 ∧
      bs.length % 8 = 0 ∧ bs ≠ [] ∧ bs.length ≤ 4096 ∧ s.live = true ∧ bs = leBytes 4 0x400 ++ leBytes 4 b.toNat) ∧
    (∃ (s : State) (d : Desc) (bs : List Byte) (i : _), Front s d ∧ d.opcode = 0x01 ∧ d.buffer bs.length ∧ d.target = 0 ∧ d.arg1 = 0 ∧ d.arg0 = 0 ∧
      bs.length % 8 = 0 ∧ bs ≠ [] ∧ bs.length ≤ 4096 ∧ ((pairsIn bs).findIdx? fun p => !pairOk p.1) = some i) ∧
    (∃ (s : State) (d : Desc) (bs : List Byte), Front s d ∧ d.opcode = 0x01 ∧ d.buffer bs.length ∧ d.target = 0 ∧ d.arg1 = 0 ∧ d.arg0 = 0 ∧ bs.length
      % 8 = 0 ∧ bs ≠ [] ∧ bs.length ≤ 4096) ∧
    (∃ (s : State) (d : Desc) (bs : List Byte) (k : Fin 4), Front s d ∧ d.opcode = 0x01 ∧ d.buffer bs.length ∧ d.target = 0 ∧ d.arg1 = 0 ∧ d.arg0 = 1
      ∧ bs.length = 100 ∧ ocvCheck bs = 0 ∧ getLe bs 3 1 = k.val) ∧
    (∃ (s : State) (d : Desc) (bs : List Byte), Front s d ∧ d.opcode = 0x01 ∧ d.buffer bs.length ∧ d.target = 0 ∧ d.arg1 = 0 ∧ d.arg0 = 1 ∧ bs.length
      = 100 ∧ ocvCheck bs ≠ 0) ∧
    (∃ (s : State) (d : Desc) (m : Nat), let n := (d.arg0 % 256); let kind := (d.arg0 / 256 % 8); Front s d ∧ d.opcode = 0x07 ∧ d.arg1 = 0 ∧ 1 ≤ m ∧
      d.buffer m ∧ n * recordSize kind ≤ m ∧ n ≠ 0 ∧ d.target + n ≤ 160 ∧ kind ≤ 4) ∧
    (∃ (s : State) (d : Desc) (m : Nat), let n := (d.arg0 % 256); let kind := (d.arg0 / 256 % 8); Front s d ∧ d.opcode = 0x07 ∧ d.arg1 = 0 ∧ 1 ≤ m ∧
      d.buffer m ∧ (4 < kind ∨ n * recordSize kind ≤ m ∧ (n = 0 ∨ 160 < d.target + n))) ∧
    (∃ (s : State) (d : Desc) (m : Nat), let n := (d.arg0 % 256); let kind := (d.arg0 / 256 % 8); Front s d ∧ d.opcode = 0x07 ∧ d.arg1 = 0 ∧ 1 ≤ m ∧
      d.buffer m ∧ kind ≤ 4 ∧ m < n * recordSize kind) ∧
    (∃ (s : State) (d : Desc) (k : Nat), Front s d ∧ d.opcode = 0x08 ∧ d.target = 0 ∧ d.arg1 = 0 ∧ d.buffer (32 * k) ∧ 1 ≤ k ∧ k ≤ 2048) ∧
    (∃ (s : State) (d : Desc) (n : Nat), Front s d ∧ d.opcode = 0x0F ∧ d.buffer n ∧ d.target = 0 ∧ d.arg1 = 0 ∧ d.arg0 = 0 ∧ 72 ≤ n) ∧
    (∃ (s : State) (d : Desc) (n : Nat), Front s d ∧ d.opcode = 0x0F ∧ d.buffer n ∧ d.target = 0 ∧ d.arg1 = 0 ∧ d.arg0 = 1 ∧ 32 ≤ n ∧ (∀ c ∈
      s.host.running, c.opcode ≠ 0x0F) ∧ s.dom.state = .leading) ∧
    (∃ (s : State) (d : Desc) (n : Nat), Front s d ∧ d.opcode = 0x0F ∧ d.buffer n ∧ d.target = 0 ∧ d.arg1 = 0 ∧ d.arg0 = 1 ∧ 32 ≤ n ∧ (∀ c ∈
      s.host.running, c.opcode ≠ 0x0F) ∧ s.dom.state ≠ .leading) :=
  ⟨⟨rdy.front (dsc 0 0 0 0 0), dsc 0 0 0 0 0, by unfold Front Desc.bare; decide +kernel⟩,
    ⟨rdy.front { dsc 0 0 0 0 0 with rsv := 1 }, { dsc 0 0 0 0 0 with rsv := 1 }, by unfold Front; decide +kernel⟩,
    ⟨rdy.front (dsc 0x0D 0 0 500 0), dsc 0x0D 0 0 500 0, by unfold Front Desc.bare; decide +kernel⟩,
    ⟨rdy.front (dsc 0x0E 0 0 32767 6311433599), dsc 0x0E 0 0 32767 6311433599, by unfold Front Desc.bare; decide +kernel⟩,
    ⟨rdy.front (dsc 0x0E 0 0 0 6311433600), dsc 0x0E 0 0 0 6311433600, by unfold Front Desc.bare; decide +kernel⟩,
    ⟨rdy.front (dsc 1 0 8 0 0), dsc 1 0 8 0 0, leBytes 4 0x400 ++ leBytes 4 (5#32).toNat, 5, by unfold Front Desc.buffer; decide +kernel⟩,
    ⟨rdy.front (dsc 1 0 8 0 0), dsc 1 0 8 0 0, leBytes 4 0x1000 ++ leBytes 4 5, 0, by unfold Front Desc.buffer; decide +kernel⟩,
    ⟨rdy.front (dsc 1 0 8 0 0), dsc 1 0 8 0 0, List.replicate 8 0, by unfold Front Desc.buffer; decide +kernel⟩,
    ⟨rdy.front (dsc 1 0 100 1 0), dsc 1 0 100 1 0, ocvImage, 1,
      ⟨by unfold Front; decide +kernel, by decide +kernel, by unfold Desc.buffer; decide +kernel, by decide +kernel, by decide +kernel, by decide +kernel, by decide +kernel, ocvImage_accepted, by decide +kernel⟩⟩,
    ⟨rdy.front (dsc 1 0 100 1 0), dsc 1 0 100 1 0, List.replicate 100 0, by unfold Front Desc.buffer; decide +kernel⟩,
    ⟨rdy.front (dsc 7 0 128 1 0), dsc 7 0 128 1 0, 128, by unfold Front Desc.buffer; dsimp only; decide +kernel⟩,
    ⟨rdy.front (dsc 7 0 128 0 0), dsc 7 0 128 0 0, 128, by unfold Front Desc.buffer; dsimp only; decide +kernel⟩,
    ⟨rdy.front (dsc 7 0 127 1 0), dsc 7 0 127 1 0, 127, by unfold Front Desc.buffer; dsimp only; decide +kernel⟩,
    ⟨{ rdy.front (dsc 8 0 32 0 0) with log := { rdy.log with recs := [aRec, { aRec with seq := 6 }] } }, dsc 8 0 32 0 0, 1,
      by unfold Front Desc.buffer; decide +kernel⟩,
    ⟨rdy.front (dsc 15 0 72 0 0), dsc 15 0 72 0 0, 72, by unfold Front Desc.buffer; decide +kernel⟩,
    ⟨(dm .leading id).front (dsc 15 0 32 1 0), dsc 15 0 32 1 0, 32, by unfold Front Desc.buffer; decide +kernel⟩,
    ⟨(dm .aligned id).front (dsc 15 0 32 1 0), dsc 15 0 32 1 0, 32, by unfold Front Desc.buffer; decide +kernel⟩⟩

/-- States and operands that meet the hypotheses of ChannelCommands, clause by clause. -/
theorem test_met_ChannelCommands :
    (∃ (s : State) (d : Desc) (bs : List Byte) (n : ChanNo), let l := (selectedBy bs); Front s d ∧ d.opcode = 0x02 ∧ d.buffer 20 ∧ d.target = 0 ∧
      d.arg0 = 0 ∧ bs.length = 20 ∧ (l.find? fun n => !s.isConf n) = some n) ∧
    (∃ (s : State) (d : Desc) (bs : List Byte), let l := (selectedBy bs); Front s d ∧ d.opcode = 0x02 ∧ d.buffer 20 ∧ d.target = 0 ∧ d.arg0 = 0 ∧
      bs.length = 20 ∧ (∀ n ∈ l, s.isConf n = true) ∧ l ≠ [] ∧ d.arg1 = 0) ∧
    (∃ (s : State) (d : Desc) (bs : List Byte), let l := (selectedBy bs); Front s d ∧ d.opcode = 0x02 ∧ d.buffer 20 ∧ d.target = 0 ∧ d.arg0 = 0 ∧
      bs.length = 20 ∧ (∀ n ∈ l, s.isConf n = true) ∧ l ≠ [] ∧ d.arg1 ≠ 0 ∧ d.arg1 < s.now + 100) ∧
    (∃ (s : State) (d : Desc) (bs : List Byte), let l := (selectedBy bs); Front s d ∧ d.opcode = 0x02 ∧ d.buffer 20 ∧ d.target = 0 ∧ d.arg0 = 0 ∧
      bs.length = 20 ∧ (∀ n ∈ l, s.isConf n = true) ∧ l ≠ [] ∧ s.now + 4294967296 < d.arg1) ∧
    (∃ (s : State) (d : Desc) (bs : List Byte), let l := (selectedBy bs); Front s d ∧ d.opcode = 0x02 ∧ d.buffer 20 ∧ d.target = 0 ∧ d.arg0 = 0 ∧
      bs.length = 20 ∧ (∀ n ∈ l, s.isConf n = true) ∧ l ≠ [] ∧ s.now + 100 ≤ d.arg1 ∧ d.arg1 ≤ s.now + 4294967296) ∧
    (∃ (s : State) (id : Nat) (l : List ChanNo), s.host.waiters = [.commit id l (s.beat.number + 1) false] ∧ (∀ n ∈ l, s.isConf n = true)) ∧
    (∃ (s : State) (d : Desc) (bs : List Byte), Front s d ∧ d.opcode = 0x03 ∧ d.target = 0 ∧ d.arg1 = 0 ∧ d.buffer bs.length ∧ d.arg0 < 256 ∧
      bs.length % 64 = 0 ∧ 128 ≤ bs.length ∧ bs.length ≤ 16448 ∧ s.recipeCheck d.arg0 bs = none) ∧
    (∃ (s : State) (d : Desc) (bs : List Byte) (st : _) (det : _), Front s d ∧ d.opcode = 0x03 ∧ d.target = 0 ∧ d.arg1 = 0 ∧ d.buffer bs.length ∧
      d.arg0 < 256 ∧ bs.length % 64 = 0 ∧ 128 ≤ bs.length ∧ bs.length ≤ 16448 ∧ s.recipeCheck d.arg0 bs = some (st, det)) ∧
    (∃ (s : State) (d : Desc) (bs : List Byte), Front s d ∧ d.opcode = 0x03 ∧ d.target = 0 ∧ d.arg1 = 0 ∧ d.buffer bs.length ∧ d.arg0 < 256 ∧
      bs.length % 64 = 0 ∧ 128 ≤ bs.length ∧ bs.length ≤ 16448) ∧
    (∃ (s : State) (d : Desc) (k : Nat), Front s d ∧ d.opcode = 0x03 ∧ d.target = 0 ∧ d.arg1 = 0 ∧ d.bare ∧ k < 256 ∧ d.arg0 = 256 + k ∧ s.recipeInUse
      k = true) ∧
    (∃ (s : State) (d : Desc) (k : Nat), Front s d ∧ d.opcode = 0x03 ∧ d.target = 0 ∧ d.arg1 = 0 ∧ d.bare ∧ k < 256 ∧ d.arg0 = 256 + k ∧ s.recipeInUse
      k = false ∧ s.recipeNo k = none) ∧
    (∃ (s : State) (d : Desc) (k : Nat), Front s d ∧ d.opcode = 0x03 ∧ d.target = 0 ∧ d.arg1 = 0 ∧ d.bare ∧ k < 256 ∧ d.arg0 = 256 + k ∧ s.recipeInUse
      k = false ∧ (s.recipeNo k).isSome = true) ∧
    (∃ (s : State) (d : Desc), Front s d ∧ d.bare ∧ d.arg1 = 0 ∧ s.chanOf d = none ∧ d.opcode = 0x04) ∧
    (∃ (s : State) (d : Desc), Front s d ∧ d.bare ∧ d.arg1 = 0 ∧ s.chanOf d = none ∧ d.opcode = 0x05 ∧ d.target ≠ 0xFFFF) ∧
    (∃ (s : State) (d : Desc), Front s d ∧ d.bare ∧ d.arg1 = 0 ∧ s.chanOf d = none ∧ d.opcode = 0x06) ∧
    (∃ (s : State) (d : Desc) (n : ChanNo), Front s d ∧ d.bare ∧ d.arg1 = 0 ∧ s.chanOf d = some n ∧ d.opcode = 0x04 ∧ s.startCheck n (d.arg0 % 256) =
      0) ∧
    (∃ (s : State) (d : Desc) (n : ChanNo), Front s d ∧ d.bare ∧ d.arg1 = 0 ∧ s.chanOf d = some n ∧ d.opcode = 0x04 ∧ s.startCheck n (d.arg0 % 256) ≠
      0) ∧
    (∃ (s : State) (d : Desc) (n : ChanNo), Front s d ∧ d.bare ∧ d.arg1 = 0 ∧ s.chanOf d = some n ∧ d.opcode = 0x05 ∧ d.arg0 % 4 = 3) ∧
    (∃ (s : State) (d : Desc) (n : ChanNo), let rests := (s.chans[n].state ≠ .tripped ∧ s.chans[n].state ≠ .latched); Front s d ∧ d.bare ∧ d.arg1 = 0
      ∧ s.chanOf d = some n ∧ d.opcode = 0x05 ∧ d.arg0 % 4 ≠ 3 ∧ ¬rests) ∧
    (∃ (s : State) (d : Desc) (n : ChanNo), let rests := (s.chans[n].state ≠ .tripped ∧ s.chans[n].state ≠ .latched); let target := (stopTargetOf
      d.arg0); Front s d ∧ d.bare ∧ d.arg1 = 0 ∧ s.chanOf d = some n ∧ d.opcode = 0x05 ∧ d.arg0 % 4 ≠ 3 ∧ rests ∧ s.alreadyThere n target = true) ∧
    (∃ (s : State) (d : Desc) (n : ChanNo), let rests := (s.chans[n].state ≠ .tripped ∧ s.chans[n].state ≠ .latched); let target := (stopTargetOf
      d.arg0); Front s d ∧ d.bare ∧ d.arg1 = 0 ∧ s.chanOf d = some n ∧ d.opcode = 0x05 ∧ d.arg0 % 4 ≠ 3 ∧ rests ∧ s.alreadyThere n target = false) ∧
    (∃ (s : State) (d : Desc) (n : ChanNo), Front s d ∧ d.bare ∧ d.arg1 = 0 ∧ s.chanOf d = some n ∧ d.opcode = 0x06 ∧ s.resumePre n = 0) ∧
    (∃ (s : State) (d : Desc) (n : ChanNo), Front s d ∧ d.bare ∧ d.arg1 = 0 ∧ s.chanOf d = some n ∧ d.opcode = 0x06 ∧ s.resumePre n ≠ 0) ∧
    (∃ (s : State) (d : Desc), Front s d ∧ d.opcode = 0x05 ∧ d.bare ∧ d.arg1 = 0 ∧ d.target = 0xFFFF ∧ d.arg0 % 4 ≠ 3) :=
  ⟨⟨rdy.front (dsc 2 0 20 0 0), dsc 2 0 20 0 0, [2] ++ List.replicate 19 0, 1, by unfold Front Desc.buffer; dsimp only; decide +kernel⟩,
    ⟨rdy.front (dsc 2 0 20 0 0), dsc 2 0 20 0 0, [1] ++ List.replicate 19 0, by unfold Front Desc.buffer; dsimp only; decide +kernel⟩,
    ⟨rdy.front (dsc 2 0 20 0 1099), dsc 2 0 20 0 1099, [1] ++ List.replicate 19 0, by unfold Front Desc.buffer; dsimp only; decide +kernel⟩,
    ⟨rdy.front (dsc 2 0 20 0 4294968297), dsc 2 0 20 0 4294968297, [1] ++ List.replicate 19 0,
      by unfold Front Desc.buffer; dsimp only; decide +kernel⟩,
    ⟨rdy.front (dsc 2 0 20 0 1100), dsc 2 0 20 0 1100, [1] ++ List.replicate 19 0, by unfold Front Desc.buffer; dsimp only; decide +kernel⟩,
    ⟨rdy.modHost fun h => { h with waiters := [.commit 3 [0] 1001 false] }, 3, [0], by decide +kernel⟩,
    ⟨rdy.front (dsc 3 0 128 1 0), dsc 3 0 128 1 0, recipeImage,
      ⟨by unfold Front; decide +kernel, by decide +kernel, by decide +kernel, by decide +kernel, by unfold Desc.buffer; decide +kernel, by decide +kernel, by decide +kernel, by decide +kernel, by decide +kernel, recipeImage_accepted⟩⟩,
    ⟨rdy.front (dsc 3 0 128 2 0), dsc 3 0 128 2 0, recipeImage, 16, 0, by unfold Front Desc.buffer; decide +kernel⟩,
    ⟨rdy.front (dsc 3 0 128 2 0), dsc 3 0 128 2 0, recipeImage, by unfold Front Desc.buffer; decide +kernel⟩,
    ⟨(atStep (aStep 1 0 0 []) .run id).front (dsc 3 0 0 257 0), dsc 3 0 0 257 0, 1, by unfold Front Desc.bare; decide +kernel⟩,
    ⟨rdy.front (dsc 3 0 0 258 0), dsc 3 0 0 258 0, 2, by unfold Front Desc.bare; decide +kernel⟩,
    ⟨(rdy.modStore fun t => { t with recipes := [parseRecipe recipeImage] }).front (dsc 3 0 0 257 0), dsc 3 0 0 257 0, 1,
      by unfold Front Desc.bare; decide +kernel⟩,
    ⟨rdy.front (dsc 4 1 0 1 0), dsc 4 1 0 1 0, by unfold Front Desc.bare; decide +kernel⟩,
    ⟨rdy.front (dsc 5 1 0 0 0), dsc 5 1 0 0 0, by unfold Front Desc.bare; decide +kernel⟩,
    ⟨rdy.front (dsc 6 1 0 0 0), dsc 6 1 0 0 0, by unfold Front Desc.bare; decide +kernel⟩,
    ⟨(rdy.modStore fun t => { t with recipes := [parseRecipe recipeImage] }).front (dsc 4 0 0 1 0), dsc 4 0 0 1 0, 0,
      by unfold Front Desc.bare; decide +kernel⟩,
    ⟨rdy.front (dsc 4 0 0 1 0), dsc 4 0 0 1 0, 0, by unfold Front Desc.bare; decide +kernel⟩,
    ⟨rdy.front (dsc 5 0 0 3 0), dsc 5 0 0 3 0, 0, by unfold Front Desc.bare; decide +kernel⟩,
    ⟨(ch fun c => { c with latched := true }).front (dsc 5 0 0 0 0), dsc 5 0 0 0 0, 0, by unfold Front Desc.bare; dsimp only; decide +kernel⟩,
    ⟨rdy.front (dsc 5 0 0 0 0), dsc 5 0 0 0 0, 0, by unfold Front Desc.bare; dsimp only; decide +kernel⟩,
    ⟨(ch fun c => c.withStep { StepState.reset with base := .run, mode := .cc }).front (dsc 5 0 0 1 0), dsc 5 0 0 1 0, 0,
      by unfold Front Desc.bare; dsimp only; decide +kernel⟩,
    ⟨((atStep (aStep 0x13 0 0 []) .run fun c => c.withStep { StepState.reset with base := .run, mode := .rest, intr := some anIntr })).front (dsc 6 0 0 0 0),
      dsc 6 0 0 0 0, 0, by unfold Front Desc.bare; decide +kernel⟩,
    ⟨rdy.front (dsc 6 0 0 0 0), dsc 6 0 0 0 0, 0, by unfold Front Desc.bare; decide +kernel⟩,
    ⟨rdy.front (dsc 5 0xFFFF 0 1 0), dsc 5 0xFFFF 0 1 0, by unfold Front Desc.bare; decide +kernel⟩⟩

/-- States and operands that meet the hypotheses of StreamLinkCalTrayAndUpdateCommands, clause by clause. -/
theorem test_met_StreamLinkCalTrayAndUpdateCommands :
    (∃ (s : State) (d : Desc) (k : Fin 8) (bs : List Byte), Front s d ∧ d.opcode = 0x09 ∧ d.buffer 64 ∧ d.target = k.val ∧ d.arg0 = 0 ∧ d.arg1 = 0 ∧
      bs.length = 64 ∧ streamMagic bs = false) ∧
    (∃ (s : State) (d : Desc) (k : Fin 8) (bs : List Byte), Front s d ∧ d.opcode = 0x09 ∧ d.buffer 64 ∧ d.target = k.val ∧ d.arg0 = 0 ∧ d.arg1 = 0 ∧
      bs.length = 64 ∧ streamMagic bs = true ∧ getLe bs 4 1 = 0) ∧
    (∃ (s : State) (d : Desc) (k : Fin 8) (bs : List Byte), let x := (s.tel.streams[k]); Front s d ∧ d.opcode = 0x09 ∧ d.buffer 64 ∧ d.target = k.val
      ∧ d.arg0 = 0 ∧ d.arg1 = 0 ∧ bs.length = 64 ∧ streamMagic bs = true ∧ getLe bs 4 1 ≠ 0 ∧ x.run.isSome = true) ∧
    (∃ (s : State) (d : Desc) (k : Fin 8) (bs : List Byte) (cyc : Nat), let x := (s.tel.streams[k]); let y := (x.put bs); let r := (y.config (s.dueAt
      cyc)); Front s d ∧ d.opcode = 0x09 ∧ d.buffer 64 ∧ d.target = k.val ∧ d.arg0 = 0 ∧ d.arg1 = 0 ∧ bs.length = 64 ∧ streamMagic bs = true ∧ getLe
      bs 4 1 ≠ 0 ∧ x.run = none ∧ s.blockCheck bs r ≠ 0) ∧
    (∃ (s : State) (d : Desc) (k : Fin 8) (bs : List Byte) (cyc : Nat), let x := (s.tel.streams[k]); let y := (x.put bs); let r := (y.config (s.dueAt
      cyc)); Front s d ∧ d.opcode = 0x09 ∧ d.buffer 64 ∧ d.target = k.val ∧ d.arg0 = 0 ∧ d.arg1 = 0 ∧ bs.length = 64 ∧ streamMagic bs = true ∧ getLe
      bs 4 1 ≠ 0 ∧ x.run = none ∧ s.blockCheck bs r = 0) ∧
    (∃ (s : State) (d : Desc) (x : Fin 2) (bs : List Byte), Front s d ∧ d.opcode = 0x0C ∧ d.buffer 64 ∧ d.target = x.val ∧ d.arg0 = 0 ∧ d.arg1 = 0 ∧
      bs.length = 64 ∧ policyCheck x bs = 0) ∧
    (∃ (s : State) (d : Desc) (x : Fin 2) (bs : List Byte), Front s d ∧ d.opcode = 0x0C ∧ d.buffer 64 ∧ d.target = x.val ∧ d.arg0 = 0 ∧ d.arg1 = 0 ∧
      bs.length = 64 ∧ policyCheck x bs ≠ 0) ∧
    (∃ (s : State) (d : Desc) (p : Fin 4), Front s d ∧ d.opcode = 0x0A ∧ d.bare ∧ d.target = p.val ∧ d.arg0 = 1 ∧ d.arg1 = 0 ∧ (s.met.ports[p]).calCmd
      = none ∧ s.portOwned p = false ∧ (s.met.ports[p]).free = true) ∧
    (∃ (s : State) (d : Desc) (p : Fin 4), Front s d ∧ d.opcode = 0x0A ∧ d.bare ∧ d.target = p.val ∧ d.arg0 = 1 ∧ d.arg1 = 0 ∧ (s.met.ports[p]).calCmd
      = none ∧ s.portOwned p = true) ∧
    (∃ (s : State) (d : Desc) (k : Fin 4), Front s d ∧ d.opcode = 0x0B ∧ d.bare ∧ d.target = k.val ∧ d.arg0 = 0 ∧ d.arg1 = 0 ∧ s.twin d s.host.nextId
      = false ∧ (s.sec.trays[k]).exch.isSome = true) ∧
    (∃ (s : State) (d : Desc) (k : Fin 4), let owned := (s.finalised 3 = true ∧ (s.traySecret.all fun b => b == 0) = false); Front s d ∧ d.opcode =
      0x0B ∧ d.bare ∧ d.target = k.val ∧ d.arg0 = 0 ∧ d.arg1 = 0 ∧ s.twin d s.host.nextId = false ∧ (s.sec.trays[k]).exch = none ∧ ¬owned) ∧
    (∃ (s : State) (d : Desc) (k : Fin 4), let owned := (s.finalised 3 = true ∧ (s.traySecret.all fun b => b == 0) = false); Front s d ∧ d.opcode =
      0x0B ∧ d.bare ∧ d.target = k.val ∧ d.arg0 = 0 ∧ d.arg1 = 0 ∧ s.twin d s.host.nextId = false ∧ (s.sec.trays[k]).exch = none ∧ owned ∧
      (s.sec.trays[k]).here = false) ∧
    (∃ (s : State) (d : Desc) (k : Fin 4) (serial : Option (List Byte)) (ack : Bool), let owned := (s.finalised 3 = true ∧ (s.traySecret.all fun b =>
      b == 0) = false); Front s d ∧ d.opcode = 0x0B ∧ d.bare ∧ d.target = k.val ∧ d.arg0 = 0 ∧ d.arg1 = 0 ∧ s.twin d s.host.nextId = false ∧
      (s.sec.trays[k]).exch = none ∧ owned ∧ (s.sec.trays[k]).here = true ∧ (serial = none ∨ ack = false)) ∧
    (∃ (s : State) (d : Desc) (k : Fin 4) (serial : Option (List Byte)) (ack : Bool) (id : _), let owned := (s.finalised 3 = true ∧ (s.traySecret.all
      fun b => b == 0) = false); Front s d ∧ d.opcode = 0x0B ∧ d.bare ∧ d.target = k.val ∧ d.arg0 = 0 ∧ d.arg1 = 0 ∧ s.twin d s.host.nextId = false ∧
      (s.sec.trays[k]).exch = none ∧ owned ∧ (s.sec.trays[k]).here = true ∧ ack = true ∧ serial = some id) ∧
    (∃ (s : State) (d : Desc) (bs : List Byte) (st : _), Front s d ∧ d.opcode = 0x10 ∧ d.buffer bs.length ∧ d.target = 0 ∧ d.arg0 = 0 ∧ 1 ≤ bs.length
      ∧ bs.length ≤ 65536 ∧ s.twin d s.host.nextId = false ∧ s.updRefused = some st) ∧
    (∃ (s : State) (d : Desc) (bs : List Byte), Front s d ∧ d.opcode = 0x10 ∧ d.buffer bs.length ∧ d.target = 0 ∧ d.arg0 = 0 ∧ 1 ≤ bs.length ∧
      bs.length ≤ 65536 ∧ s.twin d s.host.nextId = false ∧ s.updRefused = none ∧ s.trialRuns = true) ∧
    (∃ (s : State) (d : Desc) (bs : List Byte), Front s d ∧ d.opcode = 0x10 ∧ d.buffer bs.length ∧ d.target = 0 ∧ d.arg0 = 0 ∧ 1 ≤ bs.length ∧
      bs.length ≤ 65536 ∧ s.twin d s.host.nextId = false ∧ s.updRefused = none ∧ s.trialRuns = false ∧ d.arg1 ≠ 0 ∧ d.arg1 ≠ s.journal) ∧
    (∃ (s : State) (d : Desc) (bs : List Byte) (g : _), let img := (g.image ++ bs); Front s d ∧ d.opcode = 0x10 ∧ d.buffer bs.length ∧ d.target = 0 ∧
      d.arg0 = 0 ∧ 1 ≤ bs.length ∧ bs.length ≤ 65536 ∧ s.twin d s.host.nextId = false ∧ s.updRefused = none ∧ s.trialRuns = false ∧ s.sec.staging =
      some g ∧ d.arg1 = g.image.length ∧ d.arg1 ≠ 0 ∧ img.length ≤ imgLength img ∧ imageStatus img s.baseBank.parts = 0) ∧
    (∃ (s : State) (d : Desc) (st : _), Front s d ∧ d.opcode = 0x11 ∧ d.bare ∧ d.target = 0 ∧ d.arg0 = 0 ∧ d.arg1 = 0 ∧ s.updRefused = some st) ∧
    (∃ (s : State) (d : Desc), Front s d ∧ d.opcode = 0x11 ∧ d.bare ∧ d.target = 0 ∧ d.arg0 = 0 ∧ d.arg1 = 0 ∧ s.updRefused = none ∧ s.armable =
      false) ∧
    (∃ (s : State) (d : Desc), Front s d ∧ d.opcode = 0x11 ∧ d.bare ∧ d.target = 0 ∧ d.arg0 = 0 ∧ d.arg1 = 0 ∧ s.updRefused = none ∧
      s.stagedBank.state = .staged) ∧
    (∃ (s : State) (d : Desc), Front s d ∧ d.opcode = 0x12 ∧ d.bare ∧ d.target = 0 ∧ d.arg0 = 0 ∧ d.arg1 = 0 ∧ (s.sec.banks[s.sec.running]).state =
      .trial) ∧
    (∃ (s : State) (d : Desc), Front s d ∧ d.opcode = 0x12 ∧ d.bare ∧ d.target = 0 ∧ d.arg0 = 0 ∧ d.arg1 = 0 ∧ (s.sec.banks[s.sec.running]).state ≠
      .trial) :=
  ⟨⟨rdy.front (dsc 9 0 64 0 0), dsc 9 0 64 0 0, 0, List.replicate 64 0, by unfold Front Desc.buffer; decide +kernel⟩,
    ⟨rdy.front (dsc 9 0 64 0 0), dsc 9 0 64 0 0, 0, [0x53, 0x54, 1] ++ List.replicate 61 0, by unfold Front Desc.buffer; decide +kernel⟩,
    ⟨(rdy.modTel fun t => { t with streams := t.streams.set 0 { t.streams[0] with run := some aRun } }).front (dsc 9 0 64 0 0), dsc 9 0 64 0 0, 0,
      streamImage 1, by unfold Front Desc.buffer; dsimp only; decide +kernel⟩,
    ⟨rdy.front (dsc 9 0 64 0 0), dsc 9 0 64 0 0, 0, streamImage 1, 0, by unfold Front Desc.buffer; dsimp only; decide +kernel⟩,
    ⟨rdy.front (dsc 9 0 64 0 0), dsc 9 0 64 0 0, 0, goodStream, 0, by unfold Front Desc.buffer; dsimp only; decide +kernel⟩,
    ⟨rdy.front (dsc 12 0 64 0 0), dsc 12 0 64 0 0, 0, policyImage, by unfold Front Desc.buffer; decide +kernel⟩,
    ⟨rdy.front (dsc 12 0 64 0 0), dsc 12 0 64 0 0, 0, List.replicate 64 0, by unfold Front Desc.buffer; decide +kernel⟩,
    ⟨(port0 id).front (dsc 10 0 0 1 0), dsc 10 0 0 1 0, 0, by unfold Front Desc.bare; decide +kernel⟩,
    ⟨rdy.front (dsc 10 0 0 1 0), dsc 10 0 0 1 0, 0, by unfold Front Desc.bare; decide +kernel⟩,
    ⟨(tray0 fun t => { t with exch := some anExch }).front (dsc 11 0 0 0 0), dsc 11 0 0 0 0, 0, by unfold Front Desc.bare; decide +kernel⟩,
    ⟨rdy.front (dsc 11 0 0 0 0), dsc 11 0 0 0 0, 0, by unfold Front Desc.bare; dsimp only; decide +kernel⟩,
    ⟨(otp [(511, 0x40), (280, 1)]).front (dsc 11 0 0 0 0), dsc 11 0 0 0 0, 0, by unfold Front Desc.bare; dsimp only; decide +kernel⟩,
    ⟨((otp [(511, 0x40), (280, 1)]).modTray 0 fun t => { t with here := true }).front (dsc 11 0 0 0 0), dsc 11 0 0 0 0, 0, none, false,
      by unfold Front Desc.bare; dsimp only; decide +kernel⟩,
    ⟨((otp [(511, 0x40), (280, 1)]).modTray 0 fun t => { t with here := true }).front (dsc 11 0 0 0 0), dsc 11 0 0 0 0, 0, some [1], true, [1],
      by unfold Front Desc.bare; dsimp only; decide +kernel⟩,
    ⟨rdy.front (dsc 16 0 1 0 0), dsc 16 0 1 0 0, [0], 129, by unfold Front Desc.buffer; decide +kernel⟩,
    ⟨((charged rdy).bankState 0 .trial).front (dsc 16 0 1 0 0), dsc 16 0 1 0 0, [0], by unfold Front Desc.buffer; decide +kernel⟩,
    ⟨(charged rdy).front (dsc 16 0 1 0 256), dsc 16 0 1 0 256, [0], by unfold Front Desc.buffer; decide +kernel⟩,
    ⟨((charged rdy).modSec fun c => { c with staging := some aStaging }).front (dsc 16 0 1 0 256), dsc 16 0 1 0 256, [0], aStaging,
      by unfold Front Desc.buffer; dsimp only; decide +kernel⟩,
    ⟨rdy.front (dsc 17 0 0 0 0), dsc 17 0 0 0 0, 129, by unfold Front Desc.bare; decide +kernel⟩,
    ⟨(charged rdy).front (dsc 17 0 0 0 0), dsc 17 0 0 0 0, by unfold Front Desc.bare; decide +kernel⟩,
    ⟨(((charged rdy).bankState 1 .staged).bankState 0 .confirmed).front (dsc 17 0 0 0 0), dsc 17 0 0 0 0, by unfold Front Desc.bare; decide +kernel⟩,
    ⟨((charged rdy).bankState 0 .trial).front (dsc 18 0 0 0 0), dsc 18 0 0 0 0, by unfold Front Desc.bare; decide +kernel⟩,
    ⟨(charged rdy).front (dsc 18 0 0 0 0), dsc 18 0 0 0 0, by unfold Front Desc.bare; decide +kernel⟩⟩

/-- States and operands that meet the hypotheses of NvOperationsEnd, clause by clause. -/
theorem test_met_NvOperationsEnd :
    (∃ (s : State), s.host.nvOps = []) ∧
    (∃ (s : State) (op : NvOp) (rest : List NvOp), s.host.nvOps = op :: rest ∧ s.host.fetched = []) :=
  ⟨⟨rdy, by decide +kernel⟩,
    ⟨rdy.modHost fun h => { h with nvOps := [.confirm 3] }, .confirm 3, [], by decide +kernel⟩⟩

/-- States and operands that meet the hypotheses of StreamsRunAndWrite, clause by clause. -/
theorem test_met_StreamsRunAndWrite :
    (∃ (s : State) (v : Word), let w := (v &&& 0xFFFF1FFF#32); s.live = true ∧ fld w 0 5 = 0) ∧
    (∃ (s : State) (k : Fin 8) (v : Word) (cyc : Nat), let w := (v &&& 0xFFFF1FFF#32); let x := (s.tel.streams[k]); let r := (Stream.config { x with
      cfg := w } (s.dueAt cyc)); s.live = true ∧ fld w 0 5 ≠ 0 ∧ fld x.cfg 0 5 = 0 ∧ s.streamCheck r = 0) ∧
    (∃ (s : State) (k : Fin 8) (v : Word) (cyc : Nat), let w := (v &&& 0xFFFF1FFF#32); let x := (s.tel.streams[k]); let r := (Stream.config { x with
      cfg := w } (s.dueAt cyc)); s.live = true ∧ fld w 0 5 ≠ 0 ∧ fld x.cfg 0 5 = 0 ∧ s.streamCheck r ≠ 0) ∧
    (∃ (s : State) (k : Fin 8) (v : Word), let w := (v &&& 0xFFFF1FFF#32); let x := (s.tel.streams[k]); s.live = true ∧ fld w 0 5 ≠ 0 ∧ fld w 0 5 =
      fld x.cfg 0 5) ∧
    (∃ (s : State) (k : Fin 8) (v : Word), let w := (v &&& 0xFFFF1FFF#32); let x := (s.tel.streams[k]); s.live = true ∧ fld w 0 5 ≠ 0 ∧ fld x.cfg 0 5
      ≠ 0 ∧ fld w 0 5 ≠ fld x.cfg 0 5) ∧
    (∃ (s : State) (b : Block) (rest : List Block), s.tel.staged = b :: rest ∧ s.mayWrite = true ∧ s.tel.disableCmds = []) ∧
    (∃ (s : State) (b : Block) (rest : List Block), s.tel.staged = b :: rest ∧ s.mayWrite = false) ∧
    (∃ (s : State) (k : Fin 8) (v : Word) (r : _), s.live = true ∧ (s.tel.streams[k]).run = some r ∧ v.toNat < 2 ^ r.size) ∧
    (∃ (s : State) (k : Fin 8) (v : Word) (r : _), s.live = true ∧ (s.tel.streams[k]).run = some r ∧ 2 ^ r.size ≤ v.toNat) ∧
    (∃ (s : State) (k : Fin 8), s.live = true ∧ (s.tel.streams[k]).run = none) ∧
    (∃ (s : State) (speed : Nat) (width : Nat), 1 ≤ speed ∧ speed ≤ 4 ∧ 1 ≤ width ∧ width ≤ 2 ∧ s.host.linkUp = true) ∧
    (∃ (s : State) (speed : Nat) (width : Nat), 1 ≤ speed ∧ speed ≤ 4 ∧ 1 ≤ width ∧ width ≤ 2 ∧ s.host.linkUp = false) :=
  ⟨⟨rdy, 0, by dsimp only; decide +kernel⟩,
    ⟨rdy.modTel fun t => { t with streams := t.streams.set 0 { t.streams[0] with shape := 0x0001000A, baseLo := 65536, mask := t.streams[0].mask.set 0 1 } },
      0, 0x01010528, 0, by dsimp only; decide +kernel⟩,
    ⟨rdy, 0, 0x01010508, 0, by dsimp only; decide +kernel⟩,
    ⟨rdy.modTel fun t => { t with streams := t.streams.set 0 { t.streams[0] with cfg := 0x01010528 } }, 0, 0x01010528, by dsimp only; decide +kernel⟩,
    ⟨rdy.modTel fun t => { t with streams := t.streams.set 0 { t.streams[0] with cfg := 8 } }, 0, 0x09, by dsimp only; decide +kernel⟩,
    ⟨rdy.modTel fun t => { t with staged := [aBlock] }, aBlock, [], by decide +kernel⟩,
    ⟨(rdy.modTel fun t => { t with staged := [aBlock] }).modHost fun h => { h with bme := false }, aBlock, [], by decide +kernel⟩,
    ⟨rdy.modTel fun t => { t with streams := t.streams.set 0 { t.streams[0] with cfg := 8, run := some aRun } }, 0, 255, aRun, by decide +kernel⟩,
    ⟨rdy.modTel fun t => { t with streams := t.streams.set 0 { t.streams[0] with cfg := 8, run := some aRun } }, 0, 256, aRun, by decide +kernel⟩,
    ⟨rdy, 0, by decide +kernel⟩,
    ⟨rdy, 1, 1, by decide +kernel⟩,
    ⟨State.reset, 4, 2, by decide +kernel⟩⟩

/-- States and operands that meet the hypotheses of RingPortsCarryTrains, clause by clause. -/
theorem test_met_RingPortsCarryTrains :
    (∃ (s : State) (ring : Bool) (up : Bool), (s.dom.port ring).up = up) ∧
    (∃ (s : State) (ring : Bool) (up : Bool), (s.dom.port ring).up ≠ up) ∧
    (∃ (s : State) (ring : Bool), let p := (s.dom.port ring); p.up = false) ∧
    (∃ (s : State) (ring : Bool) (hdr : List Byte), let p := (s.dom.port ring); p.up = true ∧ s.beat.running = true ∧ s.dom.originating = false ∧ crc8
      (hdr.take 9) ≠ hdr.getD 9 0) ∧
    (∃ (s : State) (ring : Bool) (hdr : List Byte), let p := (s.dom.port ring); p.up = true ∧ s.beat.running = true ∧ s.dom.originating = false ∧ crc8
      (hdr.take 9) = hdr.getD 9 0) ∧
    (∃ (s : State), let takes := (s.dom.state.member = true ∨ s.dom.state.originates = true); takes) ∧
    (∃ (s : State) (ring : Bool), (s.dom.port ring).up = true) ∧
    (∃ (s : State) (ring : Bool) (a : _), let takes := (s.dom.state.member = true ∨ s.dom.state.originates = true); takes ∧ (s.dom.port ring).up =
      true ∧ (s.dom.port ring).pingAt = some a ∧ a + 1000 ≤ s.beat.uptime) ∧
    (∃ (s : State), s.dom.state.member = true ∧ 1000 ≤ s.dom.gain) ∧
    (∃ (s : State), s.dom.state.member = true ∧ 4 ≤ (s.dom.port s.dom.ringUsed).missing ∧ (s.dom.port (!s.dom.ringUsed)).usable = true) ∧
    (∃ (s : State), s.dom.state.member = true ∧ s.dom.gain < 1000 ∧ ((s.dom.port s.dom.ringUsed).missing < 4 ∨ (s.dom.port (!s.dom.ringUsed)).usable =
      false)) :=
  ⟨⟨rdy, false, false, by decide +kernel⟩,
    ⟨rdy, false, true, by decide +kernel⟩,
    ⟨rdy, false, by dsimp only; decide +kernel⟩,
    ⟨dm .aligned id, false, List.replicate 9 0 ++ [1], by dsimp only; decide +kernel⟩,
    ⟨dm .aligned id, false, [], by dsimp only; decide +kernel⟩,
    ⟨dm .aligned id, by dsimp only; decide +kernel⟩,
    ⟨dm .aligned id, false, by decide +kernel⟩,
    ⟨(dm .aligned id).modRing false fun p => { p with pingAt := some 0 }, false, 0, by dsimp only; decide +kernel⟩,
    ⟨(dm .aligned fun d => { d with gain := 1000 }), by decide +kernel⟩,
    ⟨(dm .aligned id).modDom fun d => { d with ports := (d.ports.set 0 { d.ports[0] with missing := 4 }).set 1 { d.ports[1] with up := true, missing := 3 } },
      by decide +kernel⟩,
    ⟨dm .aligned id, by decide +kernel⟩⟩

/-- States and operands that meet the hypotheses of DomainStatesFollowTheirRules, clause by clause. -/
theorem test_met_DomainStatesFollowTheirRules :
    (∃ (s : State) (v : Word), s.live = true ∧ bit v 0 = true ∧ s.dom.state = .off) ∧
    (∃ (s : State) (v : Word), s.live = true ∧ bit v 0 = false ∧ s.dom.state ≠ .leading) ∧
    (∃ (s : State) (v : Word), s.live = true ∧ bit v 0 = true ∧ bit v 2 = true ∧ s.dom.state = .leading) ∧
    (∃ (s : State) (addr : Nat) (serial : Nat), s.dom.state ∉ [.off, .conflict, .leading] ∧ addr = s.dom.addr ∧ serial ≠ s.serial) ∧
    (∃ (s : State) (addr : Nat) (strap : Bool), s.dom.state = .search ∧ addr ≠ s.dom.addr ∧ strap = true ∧ s.dom.strapped = true) ∧
    (∃ (s : State) (addr : Nat) (serial : Nat) (strap : Bool) (k : _), let key : DomKey := ({ strap := strap, addr := addr, serial := serial });
      s.dom.state = .search ∧ addr ≠ s.dom.addr ∧ (strap = false ∨ s.dom.strapped = false) ∧ s.dom.best = some k ∧ key.better k = true) ∧
    (∃ (s : State) (addr : Nat) (serial : Nat) (strap : Bool) (k : _), let key : DomKey := ({ strap := strap, addr := addr, serial := serial });
      s.dom.state = .search ∧ addr ≠ s.dom.addr ∧ (strap = false ∨ s.dom.strapped = false) ∧ s.dom.best = some k ∧ key.better k = false) ∧
    (∃ (s : State), s.dom.state = .search ∧ s.dom.best = some s.ownKey ∧ 2000 ≤ s.dom.still) ∧
    (∃ (s : State), s.dom.state = .search ∧ s.dom.still < 2000) ∧
    (∃ (s : State), s.dom.state = .search ∧ s.dom.best ≠ some s.ownKey ∧ 4000 ≤ s.dom.still ∧ s.dom.heardBest = false) ∧
    (∃ (s : State), s.dom.state = .search ∧ (s.dom.still < 4000 ∨ s.dom.heardBest = true)) ∧
    (∃ (s : State), s.dom.state = .acquire ∧ 1000 ≤ s.dom.ok) ∧
    (∃ (s : State), s.dom.state = .aligned ∧ 16 ≤ s.dom.bad) ∧
    (∃ (s : State), s.dom.state.member = true ∧ (∀ p ∈ s.dom.ports.toList, 16 ≤ p.missing)) ∧
    (∃ (s : State), s.dom.state.member = true ∧ (∃ p ∈ s.dom.ports.toList, p.missing < 16)) ∧
    (∃ (s : State) (addr : Nat) (delta : Int) (k : DomKey), addr ≠ s.dom.addr ∧ s.dom.state = .search ∧ s.dom.best = some k ∧ k.addr = addr ∧
      delta.natAbs ≤ 500) ∧
    (∃ (s : State) (addr : Nat) (delta : Int) (k : DomKey), addr ≠ s.dom.addr ∧ s.dom.state = .search ∧ s.dom.best = some k ∧ k.addr = addr ∧ 500 <
      delta.natAbs ∧ s.reepochOk = false) ∧
    (∃ (s : State) (addr : Nat), addr ≠ s.dom.addr ∧ s.dom.state.member = true ∧ addr = s.dom.leader ∧ s.dom.joining = false) ∧
    (∃ (s : State), s.dom.state = .outOfStep ∧ s.reepochOk = true) ∧
    (∃ (s : State), s.dom.state = .outOfStep ∧ s.reepochOk = false) ∧
    (∃ (s : State) (addr : Nat), s.dom.state.member = true ∧ addr = s.dom.leader) ∧
    (∃ (s : State) (addr : Nat), s.dom.state.member = true ∧ addr ≠ s.dom.leader) ∧
    (∃ (s : State) (ring : Bool) (addr : Nat) (roster : Nat), s.dom.state.member = true ∧ s.dom.otherInfo = some (addr, roster) ∧ (s.dom.port
      ring).otherAddr = addr ∧ 16 ≤ (s.dom.port ring).others ∧ (s.dom.port ring).otherStrap = false ∧ s.dom.leaderStrap = false ∧ s.dom.roster <
      roster) ∧
    (∃ (s : State) (ring : Bool) (addr : Nat) (roster : Nat), s.dom.state.member = true ∧ s.dom.otherInfo = some (addr, roster) ∧ (s.dom.port
      ring).otherAddr = addr ∧ 16 ≤ (s.dom.port ring).others ∧ (s.dom.port ring).otherStrap = false ∧ s.dom.leaderStrap = false ∧ roster <
      s.dom.roster) :=
  ⟨⟨rdy, 1, by decide +kernel⟩,
    ⟨rdy, 0, by decide +kernel⟩,
    ⟨dm .leading fun d => { d with rlast := 9 }, 5, by decide +kernel⟩,
    ⟨dm .search id, 3, 77, by decide +kernel⟩,
    ⟨dm .search fun d => { d with strapped := true }, 7, true, by decide +kernel⟩,
    ⟨dm .search fun d => { d with best := some (aKey 9) }, 8, 0, false, aKey 9, by dsimp only; decide +kernel⟩,
    ⟨dm .search fun d => { d with best := some (aKey 9) }, 10, 0, false, aKey 9, by dsimp only; decide +kernel⟩,
    ⟨(dm .search fun d => { d with still := 2000 }) |> fun s => s.modDom fun d => { d with best := some s.ownKey }, by decide +kernel⟩,
    ⟨dm .search id, by decide +kernel⟩,
    ⟨dm .search fun d => { d with still := 4000, best := some (aKey 1) }, by decide +kernel⟩,
    ⟨dm .search id, by decide +kernel⟩,
    ⟨dm .acquire fun d => { d with ok := 1000 }, by decide +kernel⟩,
    ⟨dm .aligned fun d => { d with bad := 16 }, by decide +kernel⟩,
    ⟨dm .aligned id, by decide +kernel⟩,
    ⟨dm .aligned fun d => { d with ports := Vector.replicate 2 { d.ports[0] with missing := 15 } }, by decide +kernel⟩,
    ⟨dm .search fun d => { d with best := some (aKey 5) }, 5, -500, aKey 5, by decide +kernel⟩,
    ⟨((dm .search fun d => { d with best := some (aKey 5) })).modChan 0 fun c => c.withStep { StepState.reset with base := .run, running := true, mode := .cc },
      5, 501, aKey 5, by decide +kernel⟩,
    ⟨dm .aligned id, 5, by decide +kernel⟩,
    ⟨dm .outOfStep id, by decide +kernel⟩,
    ⟨(dm .outOfStep id).modChan 0 fun c => c.withStep { StepState.reset with base := .run, running := true, mode := .cc }, by decide +kernel⟩,
    ⟨dm .aligned id, 5, by decide +kernel⟩,
    ⟨dm .aligned id, 0, by decide +kernel⟩,
    ⟨(dm .aligned fun d => { d with otherInfo := some (7, 4), roster := 3 }).modRing false fun p => { p with otherAddr := 7, others := 16 }, false, 7,
      4, by decide +kernel⟩,
    ⟨(dm .aligned fun d => { d with otherInfo := some (7, 2), roster := 3 }).modRing false fun p => { p with otherAddr := 7, others := 16 }, false, 7,
      2, by decide +kernel⟩⟩

/-- States and operands that meet the hypotheses of ReleasesAndActivationsFollowTheirConditions, clause by clause. -/
theorem test_met_ReleasesAndActivationsFollowTheirConditions :
    (∃ (s : State) (x : Nat), s.dom.state = .off ∧ s.dom.act.order = none ∧ someWaits (s.freshReports x) = true ∧ allReady (s.freshReports x) = true ∧
      s.roomForRelease x = true) ∧
    (∃ (s : State) (x : Nat), s.live = true ∧ 0 < x ∧ x < 4294967296 ∧ s.dom.state ≠ .leading) ∧
    (∃ (s : State) (x : Nat), s.live = true ∧ 0 < x ∧ x < 4294967296 ∧ s.dom.state = .leading ∧ s.dom.barMode = false) ∧
    (∃ (s : State) (x : Nat), s.live = true ∧ 0 < x ∧ x < 4294967296 ∧ s.dom.state = .leading ∧ s.dom.barMode = true ∧ s.quorumOk = false) ∧
    (∃ (s : State) (x : Nat), s.live = true ∧ 0 < x ∧ x < 4294967296 ∧ s.dom.state = .leading ∧ s.dom.barMode = true ∧ s.quorumOk = true ∧
      s.noneAcquiring = false) ∧
    (∃ (s : State) (x : Nat), s.live = true ∧ 0 < x ∧ x < 4294967296 ∧ s.dom.state = .leading ∧ s.dom.barMode = true ∧ s.quorumOk = true ∧
      s.noneAcquiring = true ∧ oneDigest (s.freshReports x) = false) ∧
    (∃ (s : State) (x : Nat), s.live = true ∧ 0 < x ∧ x < 4294967296 ∧ s.dom.state = .leading ∧ s.dom.barMode = true ∧ s.quorumOk = true ∧
      s.noneAcquiring = true ∧ oneDigest (s.freshReports x) = true ∧ s.roomForRelease x = false) ∧
    (∃ (s : State) (x : Nat), let fine := (s.quorumOk = true ∧ s.noneAcquiring = true ∧ oneDigest (s.freshReports x) = true ∧ s.roomForRelease x =
      true); s.dom.state = .leading ∧ s.dom.act.order = none ∧ s.dom.barMode = false ∧ s.dom.joining = false ∧ someWaits (s.freshReports x) = true ∧
      allReady (s.freshReports x) = true ∧ fine) ∧
    (∃ (s : State) (x : Nat), s.dom.state = .leading ∧ s.dom.act.order = none ∧ s.dom.barMode = false ∧ s.dom.joining = false ∧ someWaits
      (s.freshReports x) = true ∧ allReady (s.freshReports x) = true ∧ s.quorumOk = false ∧ (x, 1) ∉ s.dom.blocked) ∧
    (∃ (s : State), s.dom.state = .leading ∧ s.dom.act.order = none ∧ s.dom.barMode = true) ∧
    (∃ (s : State) (x : Nat), let fine := (s.quorumOk = true ∧ s.noneAcquiring = true ∧ oneDigest (s.freshReports x) = true ∧ s.roomForRelease x =
      true); s.dom.state = .leading ∧ s.dom.act.order = none ∧ s.live = true ∧ 0 < x ∧ x < 4294967296 ∧ s.dom.barMode = true ∧ fine) ∧
    (∃ (s : State), s.live = true) ∧
    (∃ (s : State) (v : Word), s.live = true ∧ bit v 31 = true ∧ s.dom.state = .leading) ∧
    (∃ (s : State) (v : Word), s.live = true ∧ bit v 31 = true ∧ s.dom.state ≠ .leading) ∧
    (∃ (s : State) (v : Word), s.live = true ∧ bit v 31 = false ∧ bit v 30 = true ∧ s.dom.act.order ≠ none) ∧
    (∃ (s : State) (o : ActOrder), s.dom.act.order = some o ∧ o.bar = none ∧ s.dom.state = .leading ∧ s.quorumOk = true ∧ s.noneAcquiring = true ∧
      s.stagedOk o = true) ∧
    (∃ (s : State) (o : ActOrder), s.dom.act.order = some o ∧ o.bar = none ∧ s.stagedOk o = false) ∧
    (∃ (s : State) (o : ActOrder), s.dom.act.order = some o ∧ o.bar = none ∧ o.since + 100000 ≤ s.now) ∧
    (∃ (s : State) (o : ActOrder), s.dom.act.order = some o ∧ o.bar = none ∧ s.now < o.since + 100000) ∧
    (∃ (s : State) (rseq : Nat), (s.dom.state = .acquire ∨ s.dom.state = .aligned) ∧ rseq ∈ s.dom.seenRel) ∧
    (∃ (s : State) (offset : Nat) (rseq : Nat) (b : Nat), let n := (beatNear s.beat.number (b + offset)); (s.dom.state = .acquire ∨ s.dom.state =
      .aligned) ∧ rseq ∉ s.dom.seenRel ∧ s.beat.number + 1 < n) ∧
    (∃ (s : State) (offset : Nat) (rseq : Nat) (b : Nat), let n := (beatNear s.beat.number (b + offset)); (s.dom.state = .acquire ∨ s.dom.state =
      .aligned) ∧ rseq ∉ s.dom.seenRel ∧ n ≤ s.beat.number + 1) ∧
    (∃ (s : State) (tag : Nat) (rseq : Nat), (s.dom.state = .acquire ∨ s.dom.state = .aligned) ∧ rseq ∉ s.dom.seenAct ∧ s.dom.stage.state = .armed ∧
      s.dom.stage.tag = tag) ∧
    (∃ (s : State) (n : Beat), s.dom.stage.actAt = some n ∧ s.beat.number + 1 = n) ∧
    (∃ (s : State) (n : Beat), s.dom.stage.actAt = some n ∧ s.beat.number + 1 ≠ n) :=
  ⟨⟨atBarrier, 5, by decide +kernel⟩,
    ⟨rdy, 5, by decide +kernel⟩,
    ⟨dm .leading id, 1, by decide +kernel⟩,
    ⟨dm .leading fun d => { d with barMode := true, rlast := 9 }, 5, by decide +kernel⟩,
    ⟨dm .leading fun d => { d with barMode := true, members := [{ aMember with state := 2 }] }, 5, by decide +kernel⟩,
    ⟨atBarrier.inDom .leading fun d => { d with barMode := true, members := [aMember], reports := [{ addr := 7, id := 5, digest := [1], ready := true, waiting := true, at_ := 1000 }] },
      5, by decide +kernel⟩,
    ⟨dm .leading fun d => { d with barMode := true, releases := [{ id := 5, beat := 2000, rseq := 0 }] }, 5, by decide +kernel⟩,
    ⟨atBarrier.inDom .leading id, 5, by dsimp only; decide +kernel⟩,
    ⟨atBarrier.inDom .leading fun d => { d with rlast := 8 }, 5, by decide +kernel⟩,
    ⟨dm .leading fun d => { d with barMode := true }, by decide +kernel⟩,
    ⟨dm .leading fun d => { d with barMode := true }, 5, by dsimp only; decide +kernel⟩,
    ⟨rdy, by decide +kernel⟩,
    ⟨dm .leading id, 0x80000009, by decide +kernel⟩,
    ⟨rdy, 0x80000009, by decide +kernel⟩,
    ⟨dm .leading fun d => { d with act := { d.act with order := some anOrder } }, 0x40000000, by decide +kernel⟩,
    ⟨dm .leading fun d => { d with act := { d.act with order := some anOrder }, stage := { d.stage with state := .armed, tag := 9 } }, anOrder,
      by decide +kernel⟩,
    ⟨dm .leading fun d => { d with act := { d.act with order := some anOrder } }, anOrder, by decide +kernel⟩,
    ⟨(dm .leading fun d => { d with act := { d.act with order := some anOrder } }).modBeat fun b => { b with number := 100000 }, anOrder,
      by decide +kernel⟩,
    ⟨dm .leading fun d => { d with act := { d.act with order := some anOrder } }, anOrder, by decide +kernel⟩,
    ⟨dm .aligned fun d => { d with seenRel := [4] }, 4, by decide +kernel⟩,
    ⟨dm .aligned fun d => { d with stage := { d.stage with state := .armed, tag := 9 } }, 300, 0, 1000, by dsimp only; decide +kernel⟩,
    ⟨dm .aligned fun d => { d with stage := { d.stage with state := .armed, actAt := some 1002 } }, 0, 0, 0, by dsimp only; decide +kernel⟩,
    ⟨dm .aligned fun d => { d with stage := { d.stage with state := .armed, actAt := some 1002 } }, 0, 0, by decide +kernel⟩,
    ⟨dm .aligned fun d => { d with stage := { d.stage with state := .armed, tag := 9, mask := d.stage.mask.set 0 1, actAt := some 1001 } }, 1001,
      by decide +kernel⟩,
    ⟨dm .aligned fun d => { d with stage := { d.stage with state := .armed, actAt := some 1002 } }, 1002, by decide +kernel⟩⟩

/-- States and operands that meet the hypotheses of MembersReportAndDigestsCompare, clause by clause. -/
theorem test_met_MembersReportAndDigestsCompare :
    (∃ (s : State) (addr : Nat), s.dom.state = .leading ∧ addr ≠ s.dom.addr) ∧
    (∃ (s : State), s.dom.state ≠ .leading) ∧
    (∃ (s : State), s.dom.state.member = true) ∧
    (∃ (s : State) (addr : Nat), s.dom.state.member = true ∧ addr ≠ s.dom.addr) ∧
    (∃ (s : State) (x : Nat), s.dom.state.member = true ∧ s.ownReports x ≠ [] ∧ (∀ b ∈ s.dom.barSent, b.id ≠ x)) ∧
    (∃ (s : State) (x : Nat), s.dom.state.member = true ∧ s.ownReports x = []) ∧
    (∃ (s : State), s.dom.state.member = true ∧ s.dom.state = .aligned ∧ 8 * s.dom.addr ≤ s.now % 10000 ∧ s.dom.dig.sweepSent ≠ some (s.now / 10000) ∧
      (s.dom.port false).up = true ∧ (s.dom.port true).up = false) ∧
    (∃ (s : State), s.dom.state.member = true ∧ s.now % 10000 < 8 * s.dom.addr) ∧
    (∃ (s : State), s.dom.state.member = true ∧ s.dom.stage.state = .armed ∧ s.dom.stage.sentAt = none) ∧
    (∃ (s : State), s.dom.state.member = true ∧ s.dom.stage.state ≠ .armed) ∧
    (∃ (s : State), s.dom.state = .leading ∧ 10000 ≤ s.now ∧ s.dom.dig.sweepDone ≠ some (s.now / 10000 - 1) ∧ s.dom.dig.queries = [] ∧ (∀ m ∈
      s.rosterMembers, ∀ x q, m.digest = some (x, q) → q = s.now / 10000 - 1 → x = s.dom.dig.shared.take 8)) ∧
    (∃ (s : State) (m : Member) (x : List Byte), s.dom.state = .leading ∧ 10000 ≤ s.now ∧ s.dom.dig.sweepDone ≠ some (s.now / 10000 - 1) ∧
      s.dom.dig.queries = [] ∧ s.rosterMembers = [m] ∧ m.digest = some (x, s.now / 10000 - 1) ∧ x ≠ s.dom.dig.shared.take 8 ∧ m.differs ≠ some x) :=
  ⟨⟨(dm .leading id).modBeat fun b => { b with number := 10000 }, 0, by decide +kernel⟩,
    ⟨rdy, by decide +kernel⟩,
    ⟨dm .aligned id, by decide +kernel⟩,
    ⟨dm .aligned id, 0, by decide +kernel⟩,
    ⟨atBarrier.inDom .aligned id, 5, by decide +kernel⟩,
    ⟨dm .aligned id, 0, by decide +kernel⟩,
    ⟨dm .aligned id, by decide +kernel⟩,
    ⟨(dm .aligned id).modBeat fun b => { b with number := 10023 }, by decide +kernel⟩,
    ⟨dm .aligned fun d => { d with stage := { d.stage with state := .armed, tag := 9 } }, by decide +kernel⟩,
    ⟨dm .aligned id, by decide +kernel⟩,
    ⟨(dm .leading id).modBeat fun b => { b with number := 10000 },
      ⟨by decide +kernel, by decide +kernel, by decide +kernel, by decide +kernel, fun m hm => absurd hm (by rw [show (((dm .leading id).modBeat fun b => { b with number := 10000 } : State)).rosterMembers = [] by decide +kernel]; exact List.not_mem_nil)⟩⟩,
    ⟨(dm .leading fun d => { d with members := [{ aMember with at_ := 10000, digest := some ([1], 0) }] }).modBeat fun b => { b with number := 10000 },
      { aMember with at_ := 10000, digest := some ([1], 0) }, [1], by decide +kernel⟩⟩

/-- States and operands that meet the hypotheses of LinkPortsAttachAndPower, clause by clause. -/
theorem test_met_LinkPortsAttachAndPower :
    (∃ (s : State), s.wdt.restarting = false) ∧
    (∃ (s : State) (x : Fin 2), let p := (s.links.port[x]); s.wdt.restarting = false ∧ p.state = .toggle) ∧
    (∃ (s : State) (x : Fin 2), let p := (s.links.port[x]); s.wdt.restarting = false ∧ p.state = .sAttachWait ∧ p.acc = .sinkSeen) ∧
    (∃ (s : State) (x : Fin 2), let p := (s.links.port[x]); s.wdt.restarting = false ∧ p.state = .kAttachWait ∧ p.acc = .sourceSeen) ∧
    (∃ (s : State) (x : Fin 2), let p := (s.links.port[x]); s.wdt.restarting = false ∧ p.state.attached = true ∧ p.acc = (if p.source then .opened
      else .none)) ∧
    (∃ (s : State) (x : Fin 2), let p := (s.links.port[x]); s.wdt.restarting = false ∧ (p.state.attached = false ∨ p.acc ≠ (if p.source then .opened
      else .none))) ∧
    (∃ (s : State) (x : Fin 2), let p := (s.links.port[x]); s.wdt.restarting = false ∧ (p.state = .kUnatt ∨ p.state = .kAttachWait) ∧ p.acc =
      .reversed) ∧
    (∃ (s : State) (x : Fin 2), let p := (s.links.port[x]); s.wdt.restarting = false ∧ p.state = .reversed ∧ p.acc = .none) ∧
    (∃ (s : State) (x : Fin 2), let p := (s.links.port[x]); s.wdt.restarting = false ∧ p.state = .reversed ∧ p.acc ≠ .none) ∧
    (∃ (s : State) (x : Fin 2) (v : Int) (vlink : Int), let p := (s.links.port[x]); s.wdt.restarting = false ∧ p.state = .sDrainWait ∧ v < 2000000 ∧
      12000000 ≤ vlink ∧ vlink ≤ 60000000) ∧
    (∃ (s : State) (x : Fin 2) (v : Int) (vlink : Int), let p := (s.links.port[x]); s.wdt.restarting = false ∧ p.state = .sDrainWait ∧ (2000000 ≤ v ∨
      vlink < 12000000 ∨ 60000000 < vlink)) ∧
    (∃ (s : State) (x : Fin 2), let p := (s.links.port[x]); s.wdt.restarting = false ∧ (p.state = .sDrainWait ∨ p.state = .hardReset) ∧ p.drained =
      false) ∧
    (∃ (s : State) (x : Fin 2), let p := (s.links.port[x]); s.wdt.restarting = false ∧ (p.state = .sDrainWait ∨ p.state = .hardReset) ∧ p.drained =
      true) ∧
    (∃ (s : State) (x : Fin 2) (v : Int) (vlink : Int), let p := (s.links.port[x]); s.wdt.restarting = false ∧ p.state = .sPrecharge ∧ (v -
      vlink).natAbs ≤ 1000000 ∧ s.linksRun = false) ∧
    (∃ (s : State) (x : Fin 2) (v : Int) (vlink : Int), let p := (s.links.port[x]); s.wdt.restarting = false ∧ p.state = .sPrecharge ∧ (v -
      vlink).natAbs ≤ 1000000 ∧ s.linksRun = true ∧ p.en = true ∧ p.idle = true) ∧
    (∃ (s : State) (x : Fin 2) (v : Int) (vlink : Int), let p := (s.links.port[x]); s.wdt.restarting = false ∧ p.state = .sPrecharge ∧ 1000000 < (v -
      vlink).natAbs) ∧
    (∃ (s : State) (x : Fin 2), let p := (s.links.port[x]); s.wdt.restarting = false ∧ p.state = .sPrecharge) ∧
    (∃ (s : State) (x : Fin 2), let p := (s.links.port[x]); s.wdt.restarting = false ∧ p.state ≠ .sPrecharge) ∧
    (∃ (s : State) (x : Fin 2) (i : Int), let p := (s.links.port[x]); s.wdt.restarting = false ∧ p.state.attached = true ∧ p.contract = none ∧ 2200000
      < i.natAbs) ∧
    (∃ (s : State) (x : Fin 2) (i : Int), let p := (s.links.port[x]); s.wdt.restarting = false ∧ (p.state.attached = false ∨ p.contract ≠ none ∨
      i.natAbs ≤ 2200000)) ∧
    (∃ (s : State) (x : Fin 2) (i : Int) (c : _), let p := (s.links.port[x]); s.wdt.restarting = false ∧ p.contract = some c ∧ (11 * c.2 : Int) < 10 *
      (if p.source then i else -i)) ∧
    (∃ (s : State) (x : Fin 2) (i : Int) (c : _), let p := (s.links.port[x]); s.wdt.restarting = false ∧ p.contract = some c ∧ 10 * (if p.source then
      i else -i) ≤ (11 * c.2 : Int)) ∧
    (∃ (s : State) (x : Fin 2) (vlink : Int), let p := (s.links.port[x]); s.wdt.restarting = false ∧ p.state.attached = true ∧ p.source = true ∧
      p.contract ≠ none ∧ (vlink < 12000000 ∨ 60000000 < vlink)) ∧
    (∃ (s : State) (x : Fin 2) (vlink : Int), let p := (s.links.port[x]); s.wdt.restarting = false ∧ p.state.attached = true ∧ p.source = true ∧
      p.contract ≠ none ∧ 12000000 ≤ vlink ∧ vlink ≤ 60000000) ∧
    (∃ (s : State) (x : Fin 2) (i : Int), let p := (s.links.port[x]); max 10 p.ocp * 1000000 < i.natAbs) ∧
    (∃ (s : State) (x : Fin 2) (i : Int), let p := (s.links.port[x]); i.natAbs ≤ max 10 p.ocp * 1000000) ∧
    (∃ (s : State) (x : Fin 2), let p := (s.links.port[x]); s.wdt.restarting = false ∧ p.state.attached = true ∧ s.linksRun = true) ∧
    (∃ (s : State), s.wdt.restarting = false ∧ s.linksRun = false) ∧
    (∃ (s : State) (x : Fin 2) (v : Int), let p := (s.links.port[x]); s.wdt.restarting = false ∧ p.state = .hardReset ∧ v < 2000000) ∧
    (∃ (s : State) (x : Fin 2) (v : Int), let p := (s.links.port[x]); s.wdt.restarting = false ∧ p.state = .hardReset ∧ 2000000 ≤ v) ∧
    (∃ (s : State) (x : Fin 2), let p := (s.links.port[x]); s.wdt.restarting = false ∧ (p.state = .sUnatt ∨ p.state = .kUnatt) ∧ p.roleHold = true) ∧
    (∃ (s : State) (x : Fin 2), let p := (s.links.port[x]); s.wdt.restarting = false ∧ p.roleHold = false) :=
  ⟨⟨rdy, by decide +kernel⟩,
    ⟨lk fun p => { p with state := .toggle }, 0, by dsimp only; decide +kernel⟩,
    ⟨lk fun p => { p with state := .sAttachWait, acc := .sinkSeen }, 0, by dsimp only; decide +kernel⟩,
    ⟨lk fun p => { p with state := .kAttachWait, acc := .sourceSeen }, 0, by dsimp only; decide +kernel⟩,
    ⟨lk fun p => { p with state := .sDefault, source := true, switch := true, acc := .opened }, 0, by dsimp only; decide +kernel⟩,
    ⟨rdy, 0, by dsimp only; decide +kernel⟩,
    ⟨lk fun p => { p with state := .kUnatt, acc := .reversed }, 0, by dsimp only; decide +kernel⟩,
    ⟨lk fun p => { p with state := .reversed }, 0, by dsimp only; decide +kernel⟩,
    ⟨lk fun p => { p with state := .reversed, acc := .reversed }, 0, by dsimp only; decide +kernel⟩,
    ⟨lk fun p => { p with state := .sDrainWait, source := true }, 0, 1999999, 12000000, by dsimp only; decide +kernel⟩,
    ⟨lk fun p => { p with state := .sDrainWait, source := true }, 0, 0, 0, by dsimp only; decide +kernel⟩,
    ⟨lk fun p => { p with state := .sDrainWait, source := true }, 0, by dsimp only; decide +kernel⟩,
    ⟨lk fun p => { p with state := .sDrainWait, source := true, drained := true }, 0, by dsimp only; decide +kernel⟩,
    ⟨(lk fun p => { p with state := .sPrecharge, source := true }).modDev fun d => { d with state := .selftest }, 0, 47000000, 48000000,
      by dsimp only; decide +kernel⟩,
    ⟨lk fun p => { p with state := .sPrecharge, source := true }, 0, 47000000, 48000000, by dsimp only; decide +kernel⟩,
    ⟨lk fun p => { p with state := .sPrecharge, source := true }, 0, 46999999, 48000000, by dsimp only; decide +kernel⟩,
    ⟨lk fun p => { p with state := .sPrecharge, source := true, switch := true }, 0, by dsimp only; decide +kernel⟩,
    ⟨lk id, 0, by dsimp only; decide +kernel⟩,
    ⟨lk fun p => { p with state := .kDefault, switch := true }, 0, 2200001, by dsimp only; decide +kernel⟩,
    ⟨lk fun p => { p with state := .kDefault, switch := true }, 0, 2200000, by dsimp only; decide +kernel⟩,
    ⟨lk fun p => { p with state := .sContract, source := true, switch := true, contract := some (aCap, 1000000) }, 0, 1100001, (aCap, 1000000),
      by dsimp only; decide +kernel⟩,
    ⟨lk fun p => { p with state := .sContract, source := true, switch := true, contract := some (aCap, 1000000) }, 0, 1100000, (aCap, 1000000),
      by dsimp only; decide +kernel⟩,
    ⟨lk fun p => { p with state := .sContract, source := true, switch := true, contract := some (aCap, 1000000) }, 0, 11999999,
      by dsimp only; decide +kernel⟩,
    ⟨lk fun p => { p with state := .sContract, source := true, switch := true, contract := some (aCap, 1000000) }, 0, 12000000,
      by dsimp only; decide +kernel⟩,
    ⟨lk fun p => { p with state := .sContract, source := true, switch := true, contract := some (aCap, 1000000) }, 0, -200000001,
      by dsimp only; decide +kernel⟩,
    ⟨lk fun p => { p with state := .sContract, source := true, switch := true, contract := some (aCap, 1000000) }, 0, -10000000,
      by dsimp only; decide +kernel⟩,
    ⟨lk fun p => { p with state := .sContract, source := true, switch := true, contract := some (aCap, 1000000) }, 0, by dsimp only; decide +kernel⟩,
    ⟨(lk fun p => { p with state := .sContract, source := true, switch := true, contract := some (aCap, 1000000) }).modDev fun d => { d with state := .selftest },
      by decide +kernel⟩,
    ⟨lk fun p => { p with state := .hardReset, policy := some aPolicy }, 0, 1999999, by dsimp only; decide +kernel⟩,
    ⟨lk fun p => { p with state := .hardReset, policy := some aPolicy }, 0, 2000000, by dsimp only; decide +kernel⟩,
    ⟨lk fun p => { p with state := .kUnatt, roleHold := true, policy := some aPolicy }, 0, by dsimp only; decide +kernel⟩,
    ⟨lk id, 0, by dsimp only; decide +kernel⟩⟩

/-- States and operands that meet the hypotheses of PacketsAreEchoedAndActedOn, clause by clause. -/
theorem test_met_PacketsAreEchoedAndActedOn :
    (∃ (s : State) (x : Fin 2) (hdr : Nat) (objs : List Word) (crc : Word), let p := (s.links.port[x]); Heard s x hdr objs crc 2 ∧ (p.state =
      .kDefault ∨ p.state = .kContract)) ∧
    (∃ (s : State) (x : Fin 2) (hdr : Nat) (objs : List Word) (crc : Word), let p := (s.links.port[x]); let w := (objs.headD 0); let k := (fld w 10
      3); let o := (p.offered.getD (k - 1) 0); Heard s x hdr objs crc 3 ∧ p.state = .sNegotiate ∧ 1 ≤ k ∧ k ≤ p.offered.length ∧ 1 ≤ fld w 0 10 ∧ fld
      w 0 10 ≤ fld o 0 10) ∧
    (∃ (s : State) (x : Fin 2) (hdr : Nat) (objs : List Word) (crc : Word), let p := (s.links.port[x]); let w := (objs.headD 0); let k := (fld w 10
      3); Heard s x hdr objs crc 3 ∧ p.state = .sNegotiate ∧ k = 0) ∧
    (∃ (s : State) (x : Fin 2) (hdr : Nat) (objs : List Word) (crc : Word), let p := (s.links.port[x]); let w := (objs.headD 0); let k := (fld w 10
      3); Heard s x hdr objs crc 3 ∧ p.state = .sNegotiate ∧ p.offered.length < k) ∧
    (∃ (s : State) (x : Fin 2) (hdr : Nat) (objs : List Word) (crc : Word), let p := (s.links.port[x]); let w := (objs.headD 0); let k := (fld w 10
      3); let o := (p.offered.getD (k - 1) 0); Heard s x hdr objs crc 3 ∧ p.state = .sNegotiate ∧ 1 ≤ k ∧ k ≤ p.offered.length ∧ (fld w 0 10 = 0 ∨ fld
      o 0 10 < fld w 0 10)) ∧
    (∃ (s : State) (x : Fin 2) (hdr : Nat) (objs : List Word) (crc : Word) (idx : _) (cur : _), let p := (s.links.port[x]); Heard s x hdr objs crc 4 ∧
      p.await = some 3 ∧ p.state = .kNegotiate ∧ p.bid = some (idx, cur)) ∧
    (∃ (s : State) (x : Fin 2) (hdr : Nat) (objs : List Word) (crc : Word), let p := (s.links.port[x]); Heard s x hdr objs crc 4 ∧ p.await = some 8) ∧
    (∃ (s : State) (x : Fin 2) (hdr : Nat) (objs : List Word) (crc : Word), let p := (s.links.port[x]); Heard s x hdr objs crc 5 ∧ p.await = some 3) ∧
    (∃ (s : State) (x : Fin 2) (hdr : Nat) (objs : List Word) (crc : Word), let p := (s.links.port[x]); Heard s x hdr objs crc 6 ∧ p.state =
      .kTransition ∧ p.switch = false) ∧
    (∃ (s : State) (x : Fin 2) (hdr : Nat) (objs : List Word) (crc : Word) (c : _), let p := (s.links.port[x]); Heard s x hdr objs crc 6 ∧ p.state =
      .kTransition ∧ p.switch = true ∧ p.agreed = some c) ∧
    (∃ (s : State) (x : Fin 2) (hdr : Nat) (objs : List Word) (crc : Word), let p := (s.links.port[x]); Heard s x hdr objs crc 7 ∧ (p.state =
      .sDefault ∨ p.state = .sContract) ∧ p.idle = true) ∧
    (∃ (s : State) (x : Fin 2) (hdr : Nat) (objs : List Word) (crc : Word), let p := (s.links.port[x]); Heard s x hdr objs crc 7 ∧ (p.state =
      .sDefault ∨ p.state = .sContract) ∧ p.idle = false) ∧
    (∃ (s : State) (x : Fin 2) (hdr : Nat) (objs : List Word) (crc : Word), let p := (s.links.port[x]); Heard s x hdr objs crc 8 ∧ p.await ≠ some 8 ∧
      (∀ b, p.tx = some b → b.msg.typ ≠ 8) ∧ p.role ≠ 3) ∧
    (∃ (s : State) (x : Fin 2) (hdr : Nat) (objs : List Word) (crc : Word), let p := (s.links.port[x]); Heard s x hdr objs crc 8 ∧ p.await ≠ some 8 ∧
      (∀ b, p.tx = some b → b.msg.typ ≠ 8) ∧ p.role = 3 ∧ p.policy.any Policy.acceptSwap = true ∧ p.state ∈ [.sDefault, .sContract, .kDefault,
      .kContract] ∧ p.idle = true ∧ (if p.source then p.wantExport else p.wantImport) = false) ∧
    (∃ (s : State) (x : Fin 2) (hdr : Nat) (objs : List Word) (crc : Word), let p := (s.links.port[x]); Heard s x hdr objs crc 9 ∧ p.await = some 8 ∧
      p.collided = false) ∧
    (∃ (s : State) (x : Fin 2) (hdr : Nat) (objs : List Word) (crc : Word), Heard s x hdr objs crc 10) ∧
    (∃ (s : State) (x : Fin 2) (hdr : Nat) (objs : List Word) (crc : Word), Heard s x hdr objs crc 11) ∧
    (∃ (s : State) (x : Fin 2) (hdr : Nat) (objs : List Word) (crc : Word), Heard s x hdr objs crc 0) ∧
    (∃ (s : State) (x : Fin 2) (hdr : Nat) (objs : List Word) (crc : Word), let p := (s.links.port[x]); p.state.attached = true ∧ s.linksRun = true ∧
      p.en = true ∧ packetType hdr objs p.source = 10 ∧ crc = packetCrc hdr objs ∧ p.rxLast = some (hdr / 2048 % 8, crc)) ∧
    (∃ (hdr : Nat) (objs : List Word) (crc : Word), crc ≠ packetCrc hdr objs) ∧
    (∃ (s : State) (x : Fin 2) (b : LinkTx) (hdr : _), let p := (s.links.port[x]); s.wdt.restarting = false ∧ p.tx = some b ∧ hdr % 64 = 1 ∧ hdr /
      2048 % 8 = b.hdr / 2048 % 8 ∧ p.swap = none ∧ b.msg.swap = false) ∧
    (∃ (s : State) (x : Fin 2) (b : LinkTx) (hdr : _), let p := (s.links.port[x]); s.wdt.restarting = false ∧ p.tx = some b ∧ hdr % 64 = 1 ∧ hdr /
      2048 % 8 = b.hdr / 2048 % 8 ∧ p.swap = none ∧ b.msg.swap = true) ∧
    (∃ (s : State) (x : Fin 2) (b : LinkTx) (hdr : _) (objs : _) (crc : _), let p := (s.links.port[x]); s.wdt.restarting = false ∧ p.tx = some b ∧
      (crc ≠ packetCrc hdr objs ∨ hdr / 2048 % 8 ≠ b.hdr / 2048 % 8 ∨ objs ≠ [packetCrc b.hdr b.msg.objs])) ∧
    (∃ (s : State) (x : Fin 2) (b : LinkTx), let p := (s.links.port[x]); s.wdt.restarting = false ∧ p.tx = some b ∧ b.due = false ∧ b.retries < 2) ∧
    (∃ (s : State) (x : Fin 2) (b : LinkTx), let p := (s.links.port[x]); s.wdt.restarting = false ∧ p.tx = some b ∧ b.due = false ∧ 2 ≤ b.retries ∧
      (b.msg.typ ≠ 2 ∨ p.acked = true) ∧ p.state.attached = true) ∧
    (∃ (s : State) (x : Fin 2) (b : LinkTx), let p := (s.links.port[x]); s.wdt.restarting = false ∧ p.tx = some b ∧ b.due = false ∧ 2 ≤ b.retries ∧
      b.msg.typ = 2 ∧ p.acked = false) ∧
    (∃ (s : State) (x : Fin 2) (b : LinkTx), let p := (s.links.port[x]); s.wdt.restarting = false ∧ p.tx = some b ∧ b.due = true ∧ p.state.attached =
      true ∧ s.linksRun = true) ∧
    (∃ (s : State) (x : Fin 2), let p := (s.links.port[x]); s.wdt.restarting = false ∧ p.repeatOffer = true ∧ p.state = .sNegotiate) ∧
    (∃ (s : State) (x : Fin 2), let p := (s.links.port[x]); s.wdt.restarting = false ∧ p.await ≠ none ∧ p.state.attached = true) ∧
    (∃ (s : State) (x : Fin 2), let p := (s.links.port[x]); s.wdt.restarting = false ∧ p.await = none) ∧
    (∃ (s : State) (x : Fin 2) (m : _) (ms : _), let p := (s.links.port[x]); p.state.attached = true ∧ s.linksRun = true ∧ p.tx = none ∧ p.queue = m
      :: ms) ∧
    (∃ (s : State) (x : Fin 2) (v : Int) (i : Int) (vlink : Int) (c : _) (cur : _), let p := (s.links.port[x]); p.state.attached = true ∧ s.linksRun =
      true ∧ p.tx = none ∧ p.state = .sTransition ∧ p.idle = true ∧ p.agreed = some (c, cur) ∧ inWindow c v = true ∧ inWindow c vlink = true ∧ 10 *
      i.natAbs ≤ 11 * cur) :=
  ⟨⟨lk fun p => { p with state := .kDefault }, 0, 322, [aCap], packetCrc 322 [aCap], by unfold Heard; dsimp only; decide +kernel⟩,
    ⟨lk fun p => { p with state := .sNegotiate, source := true, offered := [aCap] }, 0, 259, [1024 + 50], packetCrc 259 [1024 + 50],
      by unfold Heard; dsimp only; decide +kernel⟩,
    ⟨lk fun p => { p with state := .sNegotiate, source := true, offered := [aCap] }, 0, 259, [0], packetCrc 259 [0],
      by unfold Heard; dsimp only; decide +kernel⟩,
    ⟨lk fun p => { p with state := .sNegotiate, source := true, offered := [aCap] }, 0, 259, [2048 + 50], packetCrc 259 [2048 + 50],
      by unfold Heard; dsimp only; decide +kernel⟩,
    ⟨lk fun p => { p with state := .sNegotiate, source := true, offered := [aCap] }, 0, 259, [1024 + 51], packetCrc 259 [1024 + 51],
      by unfold Heard; dsimp only; decide +kernel⟩,
    ⟨lk fun p => { p with state := .kNegotiate, await := some 3, bid := some (1, 10), offered := [aCap] }, 0, 68, [], packetCrc 68 [], 1, 10,
      by unfold Heard; dsimp only; decide +kernel⟩,
    ⟨lk fun p => { p with state := .kDefault, await := some 8 }, 0, 68, [], packetCrc 68 [], by unfold Heard; dsimp only; decide +kernel⟩,
    ⟨lk fun p => { p with state := .kNegotiate, await := some 3 }, 0, 325, [1], packetCrc 325 [1], by unfold Heard; dsimp only; decide +kernel⟩,
    ⟨lk fun p => { p with state := .kTransition }, 0, 326, [4800], packetCrc 326 [4800], by unfold Heard; dsimp only; decide +kernel⟩,
    ⟨lk fun p => { p with state := .kTransition, switch := true, agreed := some (aCap, 1000000) }, 0, 326, [4800], packetCrc 326 [4800],
      (aCap, 1000000), by unfold Heard; dsimp only; decide +kernel⟩,
    ⟨lk fun p => { p with state := .sDefault, source := true }, 0, 7, [], packetCrc 7 [], by unfold Heard; dsimp only; decide +kernel⟩,
    ⟨lk fun p => { p with state := .sDefault, source := true, await := some 8 }, 0, 7, [], packetCrc 7 [],
      by unfold Heard; dsimp only; decide +kernel⟩,
    ⟨lk fun p => { p with state := .kDefault }, 0, 584, [1, 2], packetCrc 584 [1, 2], by unfold Heard; dsimp only; decide +kernel⟩,
    ⟨lk fun p => { p with state := .kDefault, policy := some { aPolicy with role := 3, flags := 8 } }, 0, 584, [1, 2], packetCrc 584 [1, 2],
      by unfold Heard; dsimp only; decide +kernel⟩,
    ⟨lk fun p => { p with state := .kDefault, await := some 8 }, 0, 73, [], packetCrc 73 [], by unfold Heard; dsimp only; decide +kernel⟩,
    ⟨lk fun p => { p with state := .sContract, source := true, switch := true, contract := some (aCap, 1000000) }, 0, 266, [1], packetCrc 266 [1],
      by unfold Heard; decide +kernel⟩,
    ⟨lk fun p => { p with state := .kDefault, tx := some aTx }, 0, 75, [], packetCrc 75 [], by unfold Heard; decide +kernel⟩,
    ⟨lk fun p => { p with state := .kDefault }, 0, 127, [], packetCrc 127 [], by unfold Heard; decide +kernel⟩,
    ⟨lk fun p => { p with state := .sContract, source := true, rxLast := some (0, packetCrc 266 [1]) }, 0, 266, [1], packetCrc 266 [1],
      by dsimp only; decide +kernel⟩,
    ⟨0, [], 0, by decide +kernel⟩,
    ⟨lk fun p => { p with state := .kDefault, tx := some aTx }, 0, aTx, 321, by dsimp only; decide +kernel⟩,
    ⟨lk fun p => { p with state := .kDefault, tx := some { aTx with msg := { aTx.msg with swap := true } } }, 0,
      { aTx with msg := { aTx.msg with swap := true } }, 321, by dsimp only; decide +kernel⟩,
    ⟨lk fun p => { p with state := .kDefault, tx := some aTx }, 0, aTx, 321, [], 0, by dsimp only; decide +kernel⟩,
    ⟨lk fun p => { p with state := .kDefault, tx := some aTx }, 0, aTx, by dsimp only; decide +kernel⟩,
    ⟨lk fun p => { p with state := .kDefault, acked := true, tx := some { aTx with retries := 2 } }, 0, { aTx with retries := 2 },
      by dsimp only; decide +kernel⟩,
    ⟨lk fun p => { p with state := .sNegotiate, source := true, tx := some { aTx with retries := 2, msg := { typ := 2, objs := [aCap], swap := false } } },
      0, { aTx with retries := 2, msg := { typ := 2, objs := [aCap], swap := false } }, by dsimp only; decide +kernel⟩,
    ⟨lk fun p => { p with state := .kDefault, tx := some { aTx with due := true } }, 0, { aTx with due := true }, by dsimp only; decide +kernel⟩,
    ⟨lk fun p => { p with state := .sNegotiate, source := true, repeatOffer := true, tx := some aTx }, 0, by dsimp only; decide +kernel⟩,
    ⟨lk fun p => { p with state := .kDefault, await := some 8 }, 0, by dsimp only; decide +kernel⟩,
    ⟨rdy, 0, by dsimp only; decide +kernel⟩,
    ⟨lk fun p => { p with state := .kDefault, queue := [aTx.msg] }, 0, aTx.msg, [], by dsimp only; decide +kernel⟩,
    ⟨lk fun p => { p with state := .sTransition, source := true, switch := true, agreed := some (aCap, 1000000) }, 0, 48000000, 1100000, 48000000,
      aCap, 1000000, by dsimp only; decide +kernel⟩⟩

/-- States and operands that meet the hypotheses of ContractsSwapsAndPolicies, clause by clause. -/
theorem test_met_ContractsSwapsAndPolicies :
    (∃ (s : State) (x : Fin 2) (v : Int) (vlink : Int) (c : Word × Nat), let p := (s.links.port[x]); let agrees := ((v - 10000 * p.live).natAbs ≤
      600000 ∧ (v - vlink).natAbs ≤ 1000000 ∧ inWindow c.1 vlink = true); s.wdt.restarting = false ∧ p.state = .kCloseWait ∧ p.agreed = some c ∧
      agrees) ∧
    (∃ (s : State) (x : Fin 2) (v : Int) (vlink : Int) (c : Word × Nat), let p := (s.links.port[x]); let agrees := ((v - 10000 * p.live).natAbs ≤
      600000 ∧ (v - vlink).natAbs ≤ 1000000 ∧ inWindow c.1 vlink = true); s.wdt.restarting = false ∧ p.state = .kCloseWait ∧ p.agreed = some c ∧
      ¬agrees) ∧
    (∃ (s : State) (x : Fin 2) (v : Int) (c : Word × Nat), let p := (s.links.port[x]); s.wdt.restarting = false ∧ p.state.attached = true ∧ p.contract
      = some c ∧ inWindow c.1 v = false) ∧
    (∃ (s : State) (x : Fin 2) (v : Int) (c : Word × Nat), let p := (s.links.port[x]); s.wdt.restarting = false ∧ p.state.attached = true ∧ p.contract
      = some c ∧ inWindow c.1 v = true) ∧
    (∃ (s : State) (x : Fin 2) (i : Int) (c : Word × Nat), let p := (s.links.port[x]); let forward := (if p.source then i else -i); s.wdt.restarting =
      false ∧ p.state.attached = true ∧ p.contract = some c ∧ forward < -2000000) ∧
    (∃ (s : State) (x : Fin 2) (i : Int) (c : Word × Nat), let p := (s.links.port[x]); let forward := (if p.source then i else -i); s.wdt.restarting =
      false ∧ p.state.attached = true ∧ p.contract = some c ∧ -2000000 ≤ forward) ∧
    (∃ (s : State) (x : Fin 2) (i : Int) (c : Word × Nat), let p := (s.links.port[x]); let forward := (if p.source then i else -i); s.wdt.restarting =
      false ∧ p.state.attached = true ∧ p.contract = some c ∧ forward < 2000000) ∧
    (∃ (s : State) (x : Fin 2) (i : Int) (c : Word × Nat), let p := (s.links.port[x]); let forward := (if p.source then i else -i); s.wdt.restarting =
      false ∧ p.state.attached = true ∧ p.contract = some c ∧ 2000000 ≤ forward) ∧
    (∃ (s : State) (x : Fin 2), let p := (s.links.port[x]); s.wdt.restarting = false ∧ p.state = .sTransition) ∧
    (∃ (s : State) (x : Fin 2), let p := (s.links.port[x]); s.wdt.restarting = false ∧ p.state = .kCloseWait) ∧
    (∃ (s : State) (x : Fin 2), let p := (s.links.port[x]); s.wdt.restarting = false ∧ p.state = .kTransition) ∧
    (∃ (s : State) (x : Fin 2), let p := (s.links.port[x]); s.wdt.restarting = false ∧ p.state ≠ .sTransition) ∧
    (∃ (s : State) (x : Fin 2), let p := (s.links.port[x]); s.wdt.restarting = false ∧ p.state ≠ .kCloseWait) ∧
    (∃ (s : State) (x : Fin 2), let p := (s.links.port[x]); s.wdt.restarting = false ∧ p.state ≠ .kTransition) ∧
    (∃ (s : State) (x : Fin 2) (v : Int) (w : _), let p := (s.links.port[x]); s.wdt.restarting = false ∧ p.state = .swapDischarge ∧ p.swap = some w ∧
      w.exchanged = false ∧ v < 2000000) ∧
    (∃ (s : State) (x : Fin 2) (v : Int) (w : _), let p := (s.links.port[x]); s.wdt.restarting = false ∧ p.state = .swapDischarge ∧ p.swap = some w ∧
      (w.exchanged = true ∨ 2000000 ≤ v)) ∧
    (∃ (s : State) (x : Fin 2) (w : _), let p := (s.links.port[x]); s.wdt.restarting = false ∧ p.state = .swapDischarge ∧ p.swap = some w ∧
      w.exchanged = true) ∧
    (∃ (s : State) (x : Fin 2) (w : _), let p := (s.links.port[x]); s.wdt.restarting = false ∧ p.state = .swapDischarge ∧ p.swap = some w ∧
      w.exchanged = false) ∧
    (∃ (s : State), s.wdt.restarting = false) ∧
    (∃ (s : State) (x : Fin 2) (q : Policy) (vlink : Int), s.wdt.restarting = false ∧ (s.links.port[x]).policy = some q ∧ q.autoExport = true ∧
      q.vExport < vlink) ∧
    (∃ (s : State) (x : Fin 2) (q : Policy) (vlink : Int), s.wdt.restarting = false ∧ (s.links.port[x]).policy = some q ∧ (q.autoExport = false ∨
      vlink ≤ q.vExport)) ∧
    (∃ (s : State) (x : Fin 2) (q : Policy) (vlink : Int), s.wdt.restarting = false ∧ (s.links.port[x]).policy = some q ∧ vlink < q.vExport - q.vHyst) ∧
    (∃ (s : State) (x : Fin 2) (q : Policy) (vlink : Int), s.wdt.restarting = false ∧ (s.links.port[x]).policy = some q ∧ q.vExport - q.vHyst ≤ vlink) ∧
    (∃ (s : State) (x : Fin 2) (q : Policy) (vlink : Int), s.wdt.restarting = false ∧ (s.links.port[x]).policy = some q ∧ q.autoImport = true ∧ vlink
      < q.vImport) ∧
    (∃ (s : State) (x : Fin 2) (q : Policy) (vlink : Int), s.wdt.restarting = false ∧ (s.links.port[x]).policy = some q ∧ (q.autoImport = false ∨
      q.vImport ≤ vlink)) ∧
    (∃ (s : State) (x : Fin 2) (q : Policy) (vlink : Int), s.wdt.restarting = false ∧ (s.links.port[x]).policy = some q ∧ q.vImport + q.vHyst < vlink) ∧
    (∃ (s : State) (x : Fin 2) (q : Policy) (vlink : Int), s.wdt.restarting = false ∧ (s.links.port[x]).policy = some q ∧ vlink ≤ q.vImport + q.vHyst) ∧
    (∃ (s : State) (x : Fin 2) (q : Policy) (vlink : Int), let p := (s.links.port[x]); s.wdt.restarting = false ∧ (s.links.port[x]).policy = some q ∧
      p.state = .kDefault ∧ s.linksRun = true ∧ p.en = true ∧ p.idle = true ∧ q.autoImport = true ∧ vlink < q.vImport ∧ p.wantImport = false) ∧
    (∃ (s : State) (x : Fin 2) (q : Policy), let p := (s.links.port[x]); s.wdt.restarting = false ∧ (s.links.port[x]).policy = some q ∧ p.state =
      .kDefault ∧ s.linksRun = true ∧ p.en = true ∧ p.idle = true ∧ p.wantImport = true) ∧
    (∃ (s : State) (x : Fin 2) (q : Policy), let p := (s.links.port[x]); s.wdt.restarting = false ∧ (s.links.port[x]).policy = some q ∧ p.state =
      .kDefault ∧ p.idle = false ∧ p.wantImport = true) ∧
    (∃ (s : State) (x : Fin 2) (q : Policy) (cmd : Option Nat), let p := (s.links.port[x]); s.wdt.restarting = false ∧ p.next = some (q, cmd) ∧ p.idle
      = true ∧ s.host.fetched = [] ∧ p.en = false) ∧
    (∃ (s : State) (x : Fin 2) (q : Policy) (cmd : Option Nat), let p := (s.links.port[x]); s.wdt.restarting = false ∧ p.next = some (q, cmd) ∧ p.idle
      = true ∧ s.host.fetched = [] ∧ p.en = true ∧ s.linksRun = true ∧ p.state.attached = true ∧ q.admits p.source = false) ∧
    (∃ (s : State) (x : Fin 2) (q : Policy) (cmd : Option Nat), let p := (s.links.port[x]); s.wdt.restarting = false ∧ p.next = some (q, cmd) ∧ p.idle
      = true ∧ s.host.fetched = [] ∧ p.en = true ∧ s.linksRun = true ∧ p.state.attached = true ∧ q.admits p.source = true) ∧
    (∃ (s : State) (x : Fin 2) (q : Policy) (cmd : Option Nat), let p := (s.links.port[x]); s.wdt.restarting = false ∧ p.next = some (q, cmd) ∧ p.idle
      = true ∧ s.host.fetched = [] ∧ p.en = true ∧ s.linksRun = true ∧ p.state ∈ [.off, .toggle, .sUnatt, .kUnatt] ∧ p.acc ≠ .sinkSeen ∧ p.acc ≠
      .sourceSeen) ∧
    (∃ (s : State) (x : Fin 2) (q : Policy) (cmd : Option Nat), let p := (s.links.port[x]); s.wdt.restarting = false ∧ p.next = some (q, cmd) ∧ p.idle
      = false) ∧
    (∃ (s : State) (x : Fin 2) (v : Word), let p := (s.links.port[x]); s.live = true ∧ bit v 0 = false ∧ p.en = true) ∧
    (∃ (s : State) (x : Fin 2) (v : Word) (q : _), let p := (s.links.port[x]); s.live = true ∧ fld v 0 4 = 1 ∧ p.en = false ∧ s.linksRun = true ∧
      p.policy = some q ∧ p.acc ≠ .sourceSeen ∧ p.acc ≠ .sinkSeen) ∧
    (∃ (s : State) (x : Fin 2) (v : Word) (q : _), let p := (s.links.port[x]); s.live = true ∧ fld v 0 4 = 1 ∧ p.en = false ∧ s.linksRun = true ∧
      p.policy = some q ∧ p.acc = .sourceSeen ∧ p.state = .fixed) ∧
    (∃ (s : State) (x : Fin 2) (v : Word), let p := (s.links.port[x]); s.live = true ∧ p.en = true ∧ s.linksRun = true ∧ p.state.attached = true ∧ fld
      v 0 4 = 3) ∧
    (∃ (s : State) (x : Fin 2) (v : Word), let p := (s.links.port[x]); s.live = true ∧ p.en = true ∧ s.linksRun = true ∧ p.state.attached = true ∧ fld
      v 0 4 = 5 ∧ s.maySwap x = true) ∧
    (∃ (s : State) (x : Fin 2) (v : Word), let p := (s.links.port[x]); s.live = true ∧ p.en = true ∧ s.linksRun = true ∧ p.state.attached = true ∧ fld
      v 0 4 = 5 ∧ p.idle = false) ∧
    (∃ (s : State) (x : Fin 2) (v : Word), let p := (s.links.port[x]); s.live = true ∧ p.en = true ∧ s.linksRun = true ∧ p.state.attached = true ∧ fld
      v 0 4 = 9 ∧ p.dealing = true) :=
  ⟨⟨lk fun p => { p with state := .kCloseWait, agreed := some (aCap, 1000000), live := 4800 }, 0, 48600000, 47600000, (aCap, 1000000),
      by dsimp only; decide +kernel⟩,
    ⟨lk fun p => { p with state := .kCloseWait, agreed := some (aCap, 1000000), live := 4800 }, 0, 48000000, 46999999, (aCap, 1000000),
      by dsimp only; decide +kernel⟩,
    ⟨lk fun p => { p with state := .kContract, switch := true, contract := some (aCap, 1000000) }, 0, 1, (aCap, 1000000),
      by dsimp only; decide +kernel⟩,
    ⟨lk fun p => { p with state := .kContract, switch := true, contract := some (aCap, 1000000) }, 0, 48000000, (aCap, 1000000),
      by dsimp only; decide +kernel⟩,
    ⟨lk fun p => { p with state := .sContract, source := true, switch := true, contract := some (aCap, 1000000) }, 0, -2000001, (aCap, 1000000),
      by dsimp only; decide +kernel⟩,
    ⟨lk fun p => { p with state := .sContract, source := true, switch := true, contract := some (aCap, 1000000) }, 0, -2000000, (aCap, 1000000),
      by dsimp only; decide +kernel⟩,
    ⟨lk fun p => { p with state := .sContract, source := true, switch := true, contract := some (aCap, 1000000) }, 0, 1999999, (aCap, 1000000),
      by dsimp only; decide +kernel⟩,
    ⟨lk fun p => { p with state := .sContract, source := true, switch := true, contract := some (aCap, 1000000) }, 0, 2000000, (aCap, 1000000),
      by dsimp only; decide +kernel⟩,
    ⟨lk fun p => { p with state := .sTransition, source := true }, 0, by dsimp only; decide +kernel⟩,
    ⟨lk fun p => { p with state := .kCloseWait }, 0, by dsimp only; decide +kernel⟩,
    ⟨lk fun p => { p with state := .kTransition }, 0, by dsimp only; decide +kernel⟩,
    ⟨rdy, 0, by dsimp only; decide +kernel⟩,
    ⟨rdy, 0, by dsimp only; decide +kernel⟩,
    ⟨rdy, 0, by dsimp only; decide +kernel⟩,
    ⟨lk fun p => { p with state := .swapDischarge, policy := some aPolicy, swap := some { before := false, exchanged := false, backoff := false } },
      0, 1999999, { before := false, exchanged := false, backoff := false }, by dsimp only; decide +kernel⟩,
    ⟨lk fun p => { p with state := .swapDischarge, policy := some aPolicy, swap := some { before := false, exchanged := false, backoff := false } },
      0, 2000000, { before := false, exchanged := false, backoff := false }, by dsimp only; decide +kernel⟩,
    ⟨lk fun p => { p with state := .swapDischarge, policy := some aPolicy, swap := some { before := false, exchanged := true, backoff := false } }, 0,
      { before := false, exchanged := true, backoff := false }, by dsimp only; decide +kernel⟩,
    ⟨lk fun p => { p with state := .swapDischarge, policy := some aPolicy, swap := some { before := false, exchanged := false, backoff := false } },
      0, { before := false, exchanged := false, backoff := false }, by dsimp only; decide +kernel⟩,
    ⟨rdy, by decide +kernel⟩,
    ⟨lk fun p => { p with policy := some { aPolicy with flags := 2 } }, 0, { aPolicy with flags := 2 }, 50000001, by decide +kernel⟩,
    ⟨lk fun p => { p with policy := some { aPolicy with flags := 2 } }, 0, { aPolicy with flags := 2 }, 50000000, by decide +kernel⟩,
    ⟨lk fun p => { p with policy := some aPolicy, wantExport := true }, 0, aPolicy, 48999999, by decide +kernel⟩,
    ⟨lk fun p => { p with policy := some aPolicy, wantExport := true }, 0, aPolicy, 49000000, by decide +kernel⟩,
    ⟨lk fun p => { p with policy := some { aPolicy with flags := 4 } }, 0, { aPolicy with flags := 4 }, 39999999, by decide +kernel⟩,
    ⟨lk fun p => { p with policy := some { aPolicy with flags := 4 } }, 0, { aPolicy with flags := 4 }, 40000000, by decide +kernel⟩,
    ⟨lk fun p => { p with policy := some aPolicy, wantImport := true }, 0, aPolicy, 41000001, by decide +kernel⟩,
    ⟨lk fun p => { p with policy := some aPolicy, wantImport := true }, 0, aPolicy, 41000000, by decide +kernel⟩,
    ⟨lk fun p => { p with policy := some { aPolicy with flags := 4 }, state := .kDefault }, 0, { aPolicy with flags := 4 }, 39999999,
      by dsimp only; decide +kernel⟩,
    ⟨lk fun p => { p with policy := some aPolicy, state := .kDefault, wantImport := true }, 0, aPolicy, by dsimp only; decide +kernel⟩,
    ⟨lk fun p => { p with policy := some aPolicy, state := .kDefault, wantImport := true, await := some 8 }, 0, aPolicy,
      by dsimp only; decide +kernel⟩,
    ⟨rdy.modLink 0 fun p => { p with next := some (aPolicy, none) }, 0, aPolicy, none, by dsimp only; decide +kernel⟩,
    ⟨lk fun p => { p with next := some (aPolicy, none), state := .kDefault }, 0, aPolicy, none, by dsimp only; decide +kernel⟩,
    ⟨lk fun p => { p with next := some (aPolicy, none), state := .sDefault, source := true }, 0, aPolicy, none, by dsimp only; decide +kernel⟩,
    ⟨lk fun p => { p with next := some (aPolicy, none), state := .kUnatt }, 0, aPolicy, none, by dsimp only; decide +kernel⟩,
    ⟨lk fun p => { p with next := some (aPolicy, none), state := .kDefault, await := some 8 }, 0, aPolicy, none, by dsimp only; decide +kernel⟩,
    ⟨lk id, 0, 0, by dsimp only; decide +kernel⟩,
    ⟨rdy.modLink 0 fun p => { p with policy := some aPolicy, state := .fixed }, 0, 1, aPolicy, by dsimp only; decide +kernel⟩,
    ⟨rdy.modLink 0 fun p => { p with policy := some { aPolicy with role := 2 }, state := .fixed, acc := .sourceSeen }, 0, 1,
      { aPolicy with role := 2 }, by dsimp only; decide +kernel⟩,
    ⟨lk fun p => { p with state := .kDefault }, 0, 3, by dsimp only; decide +kernel⟩,
    ⟨lk fun p => { p with state := .kDefault, policy := some { aPolicy with role := 3 } }, 0, 5, by dsimp only; decide +kernel⟩,
    ⟨lk fun p => { p with state := .kDefault, await := some 8 }, 0, 5, by dsimp only; decide +kernel⟩,
    ⟨lk fun p => { p with state := .sContract, source := true, contract := some (aCap, 1000000) }, 0, 9, by dsimp only; decide +kernel⟩⟩

/-- States and operands that meet the hypotheses of ChargerFollowsItsStates, clause by clause. -/
theorem test_met_ChargerFollowsItsStates :
    (∃ (s : State) (v : Word), let st := (s.hold.state); s.live = true ∧ bit v 2 = false ∧ st ≠ .noMain ∧ st ≠ .off) ∧
    (∃ (s : State) (v : Word), let st := (s.hold.state); s.live = true ∧ bit v 2 = true ∧ st = .off) ∧
    (∃ (s : State) (vhold : Int), let st := (s.hold.state); st = .shortTest ∧ vhold < 1000000) ∧
    (∃ (s : State) (vhold : Int), let fit := (s.hold.ntcFault = false ∧ s.hold.ntcRange ≠ 0 ∧ s.hold.ntcRange ≠ 3); let st := (s.hold.state); st =
      .shortTest ∧ 1000000 ≤ vhold ∧ fit) ∧
    (∃ (s : State) (vhold : Int), let fit := (s.hold.ntcFault = false ∧ s.hold.ntcRange ≠ 0 ∧ s.hold.ntcRange ≠ 3); let st := (s.hold.state); st =
      .precharge ∧ s.hold.vpre ≤ vhold ∧ fit) ∧
    (∃ (s : State) (vhold : Int), let st := (s.hold.state); (st ≠ .precharge ∨ vhold < s.hold.vpre)) ∧
    (∃ (s : State), let st := (s.hold.state); st ≠ .precharge) ∧
    (∃ (s : State), let st := (s.hold.state); st = .precharge) ∧
    (∃ (s : State) (vhold : Int), let st := (s.hold.state); st = .fast ∧ s.hold.vreg ≤ vhold) ∧
    (∃ (s : State) (vhold : Int), let st := (s.hold.state); (st ≠ .fast ∨ vhold < s.hold.vreg)) ∧
    (∃ (s : State) (i : Int), let st := (s.hold.state); st = .cv ∧ i ≤ 1000 * s.hold.itermMa) ∧
    (∃ (s : State) (i : Int), let st := (s.hold.state); (st ≠ .cv ∨ 1000 * (s.hold.itermMa : Int) < i)) ∧
    (∃ (s : State) (k : _), s.hold.timerOver = some k) ∧
    (∃ (s : State), s.hold.timerOver = none) ∧
    (∃ (s : State) (vhold : Int), let fit := (s.hold.ntcFault = false ∧ s.hold.ntcRange ≠ 0 ∧ s.hold.ntcRange ≠ 3); let st := (s.hold.state); st =
      .done ∧ s.hold.learn = .idle ∧ vhold < s.hold.vrech ∧ fit) ∧
    (∃ (s : State) (vhold : Int), let st := (s.hold.state); (st ≠ .done ∨ s.hold.vrech ≤ vhold)) ∧
    (∃ (s : State) (x : Int), let st := (s.hold.state); bit s.hold.ntcCfg 0 = true ∧ s.hold.ntcFault = false ∧ st.inCycle = true ∧ s.hold.ntcRange = 2
      ∧ s.hold.ntcFrom = 2 ∧ x < 0) ∧
    (∃ (s : State), let st := (s.hold.state); bit s.hold.ntcCfg 0 = true ∧ st.charging = true) ∧
    (∃ (s : State), bit s.hold.ntcCfg 0 = false) ∧
    (∃ (s : State), let st := (s.hold.state); st = .faultNtc) ∧
    (∃ (s : State), let st := (s.hold.state); st ≠ .faultNtc) ∧
    (∃ (s : State) (v0 : Int), let st := (s.hold.state); st = .detect ∧ v0 < s.hold.vpre) ∧
    (∃ (s : State) (v0 : Int) (v2 : Int), let st := (s.hold.state); let fit := (s.hold.ntcFault = false ∧ s.hold.ntcRange ≠ 0 ∧ s.hold.ntcRange ≠ 3);
      st = .detect ∧ s.hold.vpre ≤ v0 ∧ v0 - 300000 ≤ v2 ∧ v2 < s.hold.vrech ∧ fit) ∧
    (∃ (s : State) (v0 : Int) (v2 : Int), let st := (s.hold.state); st = .detect ∧ s.hold.vpre ≤ v0 ∧ v0 - 300000 ≤ v2 ∧ s.hold.vrech ≤ v2 ∧
      s.hold.ntcFault = false) ∧
    (∃ (s : State) (v0 : Int) (v2 : Int), let st := (s.hold.state); st ∉ [.noMain, .off, .faultShort, .supply] ∧ (st = .detect → s.hold.vpre ≤ v0) ∧
      v2 < v0 - 300000) ∧
    (∃ (s : State), let st := (s.hold.state); st ∈ [.noMain, .off, .faultShort]) ∧
    (∃ (s : State) (v0 : Int) (v2 : Int), let st := (s.hold.state); st = .supply ∧ v0 - 300000 ≤ v2) ∧
    (∃ (s : State) (v : Word) (r : _), s.live = true ∧ bit v 0 = true ∧ bit v 1 = false ∧ s.hold.state = .done ∧ s.hold.learn = .idle ∧
      s.hold.ntcRange = 2 ∧ s.hold.est.ref = some r ∧ r.age s.holdNow < restMin s.hold.estCfg) ∧
    (∃ (s : State) (v : Word), s.live = true ∧ bit v 1 = true ∧ s.hold.learn ≠ .idle) ∧
    (∃ (s : State) (soc : _) (q : _) (r : _), s.hold.learn = .rest soc q ∧ restMin s.hold.estCfg ≤ 1000 * s.hold.restMs ∧ s.holdRef = some r ∧ r.soc +
      3000 ≤ soc) ∧
    (∃ (s : State) (soc : _) (q : _) (r : _), s.hold.learn = .rest soc q ∧ restMin s.hold.estCfg ≤ 1000 * s.hold.restMs ∧ s.holdRef = some r ∧ soc <
      r.soc + 3000) ∧
    (∃ (s : State), s.hold.learn = .idle) :=
  ⟨⟨hd .fast id, 0, by dsimp only; decide +kernel⟩,
    ⟨hd .off id, 4, by dsimp only; decide +kernel⟩,
    ⟨hd .shortTest id, 999999, by dsimp only; decide +kernel⟩,
    ⟨hd .shortTest id, 1000000, by dsimp only; decide +kernel⟩,
    ⟨hd .precharge id, 3000000, by dsimp only; decide +kernel⟩,
    ⟨rdy, 0, by dsimp only; decide +kernel⟩,
    ⟨rdy, by dsimp only; decide +kernel⟩,
    ⟨hd .precharge id, by dsimp only; decide +kernel⟩,
    ⟨hd .fast id, 4200000, by dsimp only; decide +kernel⟩,
    ⟨hd .fast id, 2999999, by dsimp only; decide +kernel⟩,
    ⟨hd .cv id, 0, by dsimp only; decide +kernel⟩,
    ⟨rdy, 0, by dsimp only; decide +kernel⟩,
    ⟨hd .fast fun h => { h with timerRun := true, tUs := 18000000000 }, 0, by decide +kernel⟩,
    ⟨rdy, by decide +kernel⟩,
    ⟨hd .done id, 1, by dsimp only; decide +kernel⟩,
    ⟨rdy, 0, by dsimp only; decide +kernel⟩,
    ⟨hd .fast id, -1, by dsimp only; decide +kernel⟩,
    ⟨learnEnd, by dsimp only; decide +kernel⟩,
    ⟨hd .fast fun h => { h with ntcCfg := 0 }, by decide +kernel⟩,
    ⟨hd .faultNtc id, by dsimp only; decide +kernel⟩,
    ⟨rdy, by dsimp only; decide +kernel⟩,
    ⟨hd .detect id, 2999999, by dsimp only; decide +kernel⟩,
    ⟨hd .detect id, 3000000, 2700000, by dsimp only; decide +kernel⟩,
    ⟨hd .detect id, 4200000, 4200000, by dsimp only; decide +kernel⟩,
    ⟨hd .cv id, 4000000, 3699999, by dsimp only; decide +kernel⟩,
    ⟨rdy, by dsimp only; decide +kernel⟩,
    ⟨hd .supply id, 4000000, 3700000, by dsimp only; decide +kernel⟩,
    ⟨hd .done fun h => { h with est := { h.est with ref := some aRef } }, 1, aRef, by decide +kernel⟩,
    ⟨hd .done fun h => { h with learn := .rest 9000 100 }, 2, by decide +kernel⟩,
    ⟨learnEnd, 10000, 0, { value := 3500000, temp := 2500, soc := 5000, unc := 100, beat := 5000000, savedAge := 0, corr := 0 }, by decide +kernel⟩,
    ⟨learnEnd2, 7999, 0, { value := 3500000, temp := 2500, soc := 5000, unc := 100, beat := 5000000, savedAge := 0, corr := 0 }, by decide +kernel⟩,
    ⟨rdy, by decide +kernel⟩⟩

/-- States and operands that meet the hypotheses of ClockCountsAndLoads, clause by clause. -/
theorem test_met_ClockCountsAndLoads :
    (∃ (c : Cal), c.ok = true ∧ c.tick.2 = false) ∧
    (∃ (c : Cal), c.ok = true ∧ c.tick.2 = true) ∧
    (∃ (s : State), s.reads = true) ∧
    (∃ (s : State), s.reads = true ∧ s.rtc.frozen = true) ∧
    (∃ (s : State), s.reads = false) ∧
    (∃ (s : State) (v : Word), s.live = true ∧ bit v 0 = true ∧ s.rtc.setBuf.ok = true) ∧
    (∃ (s : State) (v : Word), s.live = true ∧ bit v 0 = true ∧ s.rtc.setBuf.ok = false) ∧
    (∃ (s : State) (v : Word), s.live = true ∧ bit v 0 = false) ∧
    (∃ (s : State) (on : Bool), s.rtc.onVrtc ≠ on ∧ s.dev.state = .ready) ∧
    (∃ (s : State) (on : Bool), s.rtc.onVrtc ≠ on ∧ s.dev.state = .powerup) ∧
    (∃ (s : State) (on : Bool), s.rtc.onVrtc = on) ∧
    (∃ (s : State), s.rtc.valid = true) ∧
    (∃ (s : State), s.rtc.valid = false) :=
  ⟨⟨{ Cal.reset with year := 2000, month := 12, day := 31, hour := 23, min := 59, sec := 59 }, by decide +kernel⟩,
    ⟨{ Cal.reset with year := 2199, month := 12, day := 31, hour := 23, min := 59, sec := 59 }, by decide +kernel⟩,
    ⟨rdy, by decide +kernel⟩,
    ⟨rdy.modRtc fun r => { r with frozen := true }, by decide +kernel⟩,
    ⟨dv .cocoon, by decide +kernel⟩,
    ⟨rdy, 1, by decide +kernel⟩,
    ⟨rdy.modRtc fun r => { r with setBuf := { r.setBuf with month := 13 } }, 1, by decide +kernel⟩,
    ⟨rdy, 0, by decide +kernel⟩,
    ⟨rdy, true, by decide +kernel⟩,
    ⟨dv .powerup, true, by decide +kernel⟩,
    ⟨rdy, false, by decide +kernel⟩,
    ⟨rdy.modRtc fun r => { r with valid := true }, by decide +kernel⟩,
    ⟨rdy, by decide +kernel⟩⟩

/-- States and operands that meet the hypotheses of MainLossRidesThroughAndSaves, clause by clause. -/
theorem test_met_MainLossRidesThroughAndSaves :
    (∃ (s : State), s.hold.main = true ∧ s.dev.state ∈ [.ready, .active, .chrysalis] ∧ s.hold.rtWindow ≠ 0) ∧
    (∃ (s : State), s.hold.main = true ∧ s.dev.state ∈ [.ready, .active, .chrysalis] ∧ s.hold.rtWindow = 0) ∧
    (∃ (s : State), s.hold.main = true ∧ s.dev.state = .orderlyStop) ∧
    (∃ (s : State), s.hold.main = false) ∧
    (∃ (s : State), s.hold.main = false ∧ s.dev.state = .rideThrough) ∧
    (∃ (s : State), s.hold.main = true) ∧
    (∃ (s : State), s.dev.state = .rideThrough) ∧
    (∃ (s : State) (v : Int), s.dev.state = .rideThrough ∧ v < s.hold.vstop) ∧
    (∃ (s : State) (v : Int), s.dev.state = .rideThrough ∧ s.hold.vstop ≤ v) ∧
    (∃ (s : State) (v : Int), s.dev.state = .rideThrough ∧ v < 10000000) ∧
    (∃ (s : State) (v : Int), s.dev.state = .rideThrough ∧ 10000000 ≤ v) ∧
    (∃ (s : State), s.dev.state ≠ .rideThrough) ∧
    (∃ (s : State) (k : Fin 2), s.dev.state = .orderlyStop ∧ s.saves.writing = some k.val ∧ s.dev.mainLostInStop = true ∧ s.seq.state = .on ∧
      s.seq.stopFirst = false) ∧
    (∃ (s : State), s.dev.state ≠ .orderlyStop) :=
  ⟨⟨hd .done id, by decide +kernel⟩,
    ⟨hd .done fun h => { h with cfg := 4 }, by decide +kernel⟩,
    ⟨(hd .done id).modDev fun d => { d with state := .orderlyStop }, by decide +kernel⟩,
    ⟨hd .done fun h => { h with main := false }, by decide +kernel⟩,
    ⟨(hd .done fun h => { h with main := false }).modDev fun d => { d with state := .rideThrough, left := .active }, by decide +kernel⟩,
    ⟨rdy, by decide +kernel⟩,
    ⟨dv .rideThrough, by decide +kernel⟩,
    ⟨dv .rideThrough, 3199999, by decide +kernel⟩,
    ⟨dv .rideThrough, 3200000, by decide +kernel⟩,
    ⟨dv .rideThrough, 9999999, by decide +kernel⟩,
    ⟨dv .rideThrough, 10000000, by decide +kernel⟩,
    ⟨dv .active, by decide +kernel⟩,
    ⟨((dv .orderlyStop).modSaves fun v => { v with writing := some 0 }) |> fun s => (s.modDev fun d => { d with mainLostInStop := true }).modSeq fun q => { q with state := .on },
      0, by decide +kernel⟩,
    ⟨dv .active, by decide +kernel⟩⟩

/-- States and operands that meet the hypotheses of RailsUpAndDown, clause by clause. -/
theorem test_met_RailsUpAndDown :
    (∃ (s : State), s.seq.vback = false) ∧
    (∃ (s : State) (v : Word), s.live = true ∧ bit v 0 = true) ∧
    (∃ (s : State), s.seq.state = .off ∧ s.upAllowed = true ∧ (s.seq.fltLow = false ∨ s.seq.profile.fltnEn = false) ∧ s.dev.boardDown = false) ∧
    (∃ (s : State), s.seq.state = .off ∧ s.upAllowed = true ∧ (s.seq.fltLow = false ∨ s.seq.profile.fltnEn = false) ∧ s.dev.boardDown = true) ∧
    (∃ (s : State), (s.seq.state ≠ .off ∨ s.upAllowed = false)) ∧
    (∃ (s : State), s.seq.state = .gap ∧ s.upAllowed = true ∧ s.dev.boardDown = false) ∧
    (∃ (s : State), (s.seq.state ≠ .gap ∨ s.upAllowed = false)) ∧
    (∃ (s : State), s.seq.state = .on) ∧
    (∃ (s : State), s.seq.state = .extWait ∧ s.upAllowed = true ∧ s.seq.fltDriven = false ∧ s.dev.boardDown = false) ∧
    (∃ (s : State), s.seq.fltDriven = false ∧ (s.seq.state = .on ∨ s.seq.state = .powerUp) ∧ s.seq.run.fltnEn = true ∧ s.seq.run.fltStop = false) ∧
    (∃ (s : State), s.seq.fltDriven = true) ∧
    (∃ (s : State) (k : Fin 12), let p := (s.seq.slots[k]); (s.seq.state = .powerUp ∨ s.seq.state = .on) ∧ p.due = true) ∧
    (∃ (s : State) (k : Fin 12) (mv : _), let c := (s.seq.run.slots[k]); let p := (s.seq.slots[k]); (s.seq.state = .on ∨ s.seq.state = .powerUp) ∧
      p.en = true ∧ p.pg = true ∧ s.slotCut k = false ∧ c.mode = 1 ∧ mv < 600 ∧ s.seq.run.fltStop = false) ∧
    (∃ (s : State) (k : Fin 12) (mv : _), let c := (s.seq.run.slots[k]); let p := (s.seq.slots[k]); s.seq.state = .powerUp ∧ c.mode = 1 ∧ 1200 < mv ∧
      p.en = true ∧ s.slotCut k = false ∧ p.due = false ∧ s.seq.rtCut = false ∧ (∀ j : Fin 12, j ≠ k → (s.seq.run.slots[j]).en = true →
      (s.seq.slots[j]).en = true ∧ (s.seq.slots[j]).pg = true ∧ (s.seq.slots[j]).due = false)) ∧
    (∃ (s : State) (k : Fin 12), let c := (s.seq.run.slots[k]); let p := (s.seq.slots[k]); s.seq.state = .powerUp ∧ p.en = true ∧ p.pg = false ∧
      s.slotCut k = false ∧ c.mode ≠ 0 ∧ s.seq.run.fltStop = false) ∧
    (∃ (s : State) (k : Fin 12), let p := (s.seq.slots[k]); s.seq.state = .powerDown ∧ s.seq.stopFirst = false ∧ p.wasOn = true ∧ p.offDone = false) ∧
    (∃ (s : State), s.seq.state = .powerDown ∧ s.seq.stopFirst = false ∧ s.seq.lockAfter = false ∧ (∀ j : Fin 12, (s.seq.slots[j]).wasOn = true →
      (s.seq.slots[j]).isOff = true ∧ (s.seq.slots[j]).offDone = true) ∧ s.seq.cause = some .stop) ∧
    (∃ (s : State), s.seq.state = .powerDown ∧ s.seq.stopFirst = false ∧ s.seq.lockAfter = false ∧ (∀ j : Fin 12, (s.seq.slots[j]).wasOn = true →
      (s.seq.slots[j]).isOff = true ∧ (s.seq.slots[j]).offDone = true) ∧ (s.seq.cause = some .pgLost ∨ s.seq.cause = some .pgTimeout) ∧ s.seq.retry <
      s.seq.run.retries ∧ s.hold.main = true) ∧
    (∃ (s : State), s.seq.state = .powerDown ∧ s.seq.stopFirst = false ∧ s.seq.lockAfter = false ∧ (∀ j : Fin 12, (s.seq.slots[j]).wasOn = true →
      (s.seq.slots[j]).isOff = true ∧ (s.seq.slots[j]).offDone = true) ∧ (s.seq.cause = some .pgLost ∨ s.seq.cause = some .pgTimeout) ∧
      s.seq.run.retries ≤ s.seq.retry) ∧
    (∃ (s : State) (k : Fin 12), let p := (s.seq.slots[k]); s.seq.state = .powerDown ∧ s.seq.stopFirst = false ∧ p.wasOn = true ∧ p.isOff = false) ∧
    (∃ (s : State) (j : Fin 4), s.resetReady j = true) ∧
    (∃ (s : State) (j : Fin 4), s.resetReady j = false) ∧
    (∃ (s : State) (v : Word), s.live = true ∧ bit v 31 = true) ∧
    (∃ (s : State), s.seq.state = .on ∧ s.live = true) ∧
    (∃ (s : State), s.seq.state = .on) :=
  ⟨⟨rdy, by decide +kernel⟩,
    ⟨rdy, 1, by decide +kernel⟩,
    ⟨seqr .off id, by decide +kernel⟩,
    ⟨(seqr .off id).modDev fun d => { d with boardDown := true, stopCause := some .windowEnd }, by decide +kernel⟩,
    ⟨rdy, by decide +kernel⟩,
    ⟨seqr .gap id, by decide +kernel⟩,
    ⟨rdy, by decide +kernel⟩,
    ⟨seqr .on fun q => { q with retry := 2 }, by decide +kernel⟩,
    ⟨seqr .extWait fun q => { q with fltLow := true }, by decide +kernel⟩,
    ⟨seqr .on fun q => { q with run := { q.run with cfg := 0x00021402 }, profile := { q.profile with cfg := 0x00021402 } }, by decide +kernel⟩,
    ⟨seqr .on fun q => { q with fltDriven := true }, by decide +kernel⟩,
    ⟨slot0 .powerUp fun p => { p with due := true }, 0, by dsimp only; decide +kernel⟩,
    ⟨slot0 .on fun p => { p with en := true, pg := true }, 0, 599, by dsimp only; decide +kernel⟩,
    ⟨slot0 .powerUp fun p => { p with en := true }, 0, 1201, by dsimp only; decide +kernel⟩,
    ⟨slot0 .powerUp fun p => { p with en := true }, 0, by dsimp only; decide +kernel⟩,
    ⟨slot0 .powerDown fun p => { p with wasOn := true }, 0, by dsimp only; decide +kernel⟩,
    ⟨(slot0 .powerDown fun p => { p with wasOn := true, isOff := true, offDone := true }).modSeq fun q => { q with cause := some .stop },
      by decide +kernel⟩,
    ⟨(slot0 .powerDown fun p => { p with wasOn := true, isOff := true, offDone := true }).modSeq fun q => { q with cause := some .pgLost, run := { q.run with cfg := 0x00021402 } },
      by decide +kernel⟩,
    ⟨(slot0 .powerDown fun p => { p with wasOn := true, isOff := true, offDone := true }).modSeq fun q => { q with cause := some .pgLost, retry := 15, run := { q.run with cfg := 0x00021402 } },
      by decide +kernel⟩,
    ⟨slot0 .powerDown fun p => { p with wasOn := true, isOff := false }, 0, by dsimp only; decide +kernel⟩,
    ⟨slot0 .on id, 0, by decide +kernel⟩,
    ⟨rdy, 0, by decide +kernel⟩,
    ⟨rdy, 0x80000000, by decide +kernel⟩,
    ⟨slot0 .on id, by decide +kernel⟩,
    ⟨slot0 .on id, by decide +kernel⟩⟩

/-- States and operands that meet the hypotheses of StartsResetsAndService, clause by clause. -/
theorem test_met_StartsResetsAndService :
    (∃ (s : State) (pins : Pins), s.dev.state = .powerup ∧ (pins.vddIo < 2200 ∨ 2500 < pins.vddIo)) ∧
    (∃ (s : State) (pins : Pins), (s.dev.state ≠ .powerup ∨ (2200 ≤ pins.vddIo ∧ pins.vddIo ≤ 2500))) ∧
    (∃ (s : State) (r : StepResult), s.dev.state = .selftest ∧ (s.dev.step = 7 ∨ s.dev.step = 8) ∧ r.code = 0) ∧
    (∃ (s : State) (r : StepResult), s.dev.state = .selftest ∧ (s.dev.step = 7 ∨ s.dev.step = 8) ∧ r.code ≠ 0) ∧
    (∃ (s : State) (k : _), s.dev.state = .selftest ∧ s.dev.step = 2 ∧ s.badRegion = some k ∧ k ≠ 3) ∧
    (∃ (s : State) (k : _), s.dev.state = .selftest ∧ s.dev.step = 2 ∧ s.badRegion = some k ∧ k = 3) ∧
    (∃ (s : State), s.dev.state = .selftest ∧ s.dev.step = 11 ∧ s.hold.shortSeen = false) ∧
    (∃ (s : State), s.dev.state = .selftest ∧ s.dev.step = 11 ∧ s.hold.shortSeen = true) ∧
    (∃ (s : State) (v : Word), fld v 0 3 = 1 ∧ fld v 24 8 = 0x5A ∧ (s.dev.state = .ready ∨ s.dev.state = .cocoon)) ∧
    (∃ (s : State) (v : Word), fld v 0 3 = 1 ∧ fld v 24 8 = 0x5A ∧ s.dev.state ∉ [.ready, .cocoon, .powerup, .otpHold]) ∧
    (∃ (v : Word), fld v 0 3 = 1 ∧ fld v 24 8 ≠ 0x5A) ∧
    (∃ (s : State) (v : Word), fld v 0 3 = 2 ∧ (s.dev.state = .ready ∨ s.dev.state = .active) ∧ s.allQuiet = true) ∧
    (∃ (s : State) (v : Word), fld v 0 3 = 2 ∧ (s.dev.state = .ready ∨ s.dev.state = .active) ∧ s.allQuiet = false) ∧
    (∃ (s : State) (v : Word), fld v 0 3 = 4 ∧ s.dev.state = .chrysalis) ∧
    (∃ (s : State) (v : Word), fld v 0 3 = 4 ∧ s.dev.state ≠ .chrysalis) ∧
    (∃ (s : State) (v : Word), s.live = true ∧ bit v 1 = true) ∧
    (∃ (s : State) (v : Word), s.live = true ∧ bit v 1 = false) ∧
    (∃ (s : State), s.dev.state = .ready ∧ s.dev.svcIndex < s.dev.svcSize) ∧
    (∃ (s : State), s.dev.state = .ready ∧ s.dev.svcSize ≤ s.dev.svcIndex) ∧
    (∃ (s : State), s.dev.state = .ready) ∧
    (∃ (s : State), s.dev.state = .otpHold) ∧
    (∃ (s : State), s.dev.state ≠ .otpHold) :=
  ⟨⟨State.reset, noPins, by decide +kernel⟩,
    ⟨rdy, noPins, by decide +kernel⟩,
    ⟨selftest 7, stepOk, by decide +kernel⟩,
    ⟨selftest 8, { stepOk with code := 0x81 }, by decide +kernel⟩,
    ⟨(otp [(511, 1)]).modDev fun d => { d with state := .selftest, step := 2 }, 0, by decide +kernel⟩,
    ⟨(otp [(511, 0x40)]).modDev fun d => { d with state := .selftest, step := 2 }, 3, by decide +kernel⟩,
    ⟨selftest 11, by decide +kernel⟩,
    ⟨(selftest 11).modHold fun h => { h with shortSeen := true }, by decide +kernel⟩,
    ⟨rdy, 0x5A000001, by decide +kernel⟩,
    ⟨dv .active, 0x5A000001, by decide +kernel⟩,
    ⟨0x5B000001, by decide +kernel⟩,
    ⟨rdy, 2, by decide +kernel⟩,
    ⟨(dv .active).modChan 0 fun c => c.withStep { StepState.reset with base := .run }, 2, by decide +kernel⟩,
    ⟨dv .chrysalis, 4, by decide +kernel⟩,
    ⟨rdy, 4, by decide +kernel⟩,
    ⟨rdy, 2, by decide +kernel⟩,
    ⟨rdy, 0, by decide +kernel⟩,
    ⟨rdy.modDev fun d => { d with svcIndex := 111 }, by decide +kernel⟩,
    ⟨rdy.modDev fun d => { d with svcIndex := 112 }, by decide +kernel⟩,
    ⟨rdy, by decide +kernel⟩,
    ⟨dv .otpHold, by decide +kernel⟩,
    ⟨rdy, by decide +kernel⟩⟩

/-- States and operands that meet the hypotheses of UpdateResetsAreArmedAndTaken, clause by clause. -/
theorem test_met_UpdateResetsAreArmedAndTaken :
    (∃ (s : State) (rseq : Nat) (mf : List Byte), s.dom.state = .aligned ∧ rseq ∉ s.dom.seenUpd ∧ padTo 4 mf = s.sec.updManifest.take 4 ∧ s.updRefused
      = none ∧ s.stagedBank.state = .staged) ∧
    (∃ (s : State) (rseq : Nat) (mf : List Byte) (st : _), s.dom.state = .aligned ∧ rseq ∉ s.dom.seenUpd ∧ padTo 4 mf = s.sec.updManifest.take 4 ∧
      s.updRefused = some st) ∧
    (∃ (s : State) (rseq : Nat), s.dom.state = .aligned ∧ rseq ∈ s.dom.seenUpd) ∧
    (∃ (s : State) (n : Beat), s.dom.updAt = some n ∧ s.beat.number = n ∧ s.stagedBank.state = .pending ∧ s.dev.state = .ready) ∧
    (∃ (s : State) (n : Beat), s.dom.updAt = some n ∧ s.beat.number ≠ n) ∧
    (∃ (s : State), s.dom.state = .aligned ∧ s.stagedBank.state = .staged ∧ s.dom.updSentAt = none ∧ (s.dom.port false).up = true ∧ (s.dom.port
      true).up = false) ∧
    (∃ (s : State), s.dom.state = .aligned ∧ s.stagedBank.state ≠ .staged) :=
  ⟨⟨(charged (dm .aligned id)).bankState 1 .staged, 0, [], by decide +kernel⟩,
    ⟨dm .aligned id, 0, [], 129, by decide +kernel⟩,
    ⟨dm .aligned fun d => { d with seenUpd := [4] }, 4, by decide +kernel⟩,
    ⟨(dm .aligned fun d => { d with updAt := some 1000 }).bankState 1 .pending, 1000, by decide +kernel⟩,
    ⟨dm .aligned fun d => { d with updAt := some 1001 }, 1001, by decide +kernel⟩,
    ⟨(dm .aligned id).bankState 1 .staged, by decide +kernel⟩,
    ⟨dm .aligned id, by decide +kernel⟩⟩

/-- States and operands that meet the hypotheses of FaultsAndTheAliveOutput, clause by clause. -/
theorem test_met_FaultsAndTheAliveOutput :
    (∃ (s : State) (k : Fin 6) (mv : Nat) (n : Fin 128), n.val = k.val ∧ railInside k s.dev.ioHigh mv = false) ∧
    (∃ (s : State) (k : Fin 6) (mv : Nat), railInside k s.dev.ioHigh mv = true) ∧
    (∃ (s : State) (refin : Bool), refin = s.dev.refin) ∧
    (∃ (s : State) (refin : Bool), refin ≠ s.dev.refin) ∧
    (∃ (x : Int), 13200 < x) ∧
    (∃ (x : Int), x < 12700) ∧
    (∃ (x : Int), 12700 ≤ x ∧ x ≤ 13200) ∧
    (∃ (s : State), (s.ic.src[(39 : Fin 64)]).sense ≠ 0) ∧
    (∃ (s : State) (i : Nat), s.live = true ∧ i < 32) ∧
    (∃ (s : State) (v : Word), s.live = true ∧ bit v 31 = true) ∧
    (∃ (s : State) (v : Word), s.live = true ∧ bit v 31 = false) ∧
    (∃ (s : State), s.live = true ∧ s.flt.factory = false) ∧
    (∃ (s : State) (v : Word) (n : Fin 128), s.live = true ∧ s.flt.factory = true ∧ bit v 31 = true ∧ fld v 0 7 = n.val ∧ srcExists n.val = true) ∧
    (∃ (s : State) (v : Word), s.live = true ∧ s.flt.testEn = true ∧ v = s.otpWord 110) ∧
    (∃ (s : State) (v : Word), s.live = true ∧ (s.flt.testEn = false ∨ v ≠ s.otpWord 110)) ∧
    (∃ (s : State) (j : Fin 16) (n : Fin 128), s.live = true ∧ n.val / 8 = j.val ∧ s.flt.lock = false) ∧
    (∃ (s : State), s.live = true ∧ s.flt.lock = true) ∧
    (∃ (s : State) (v : Word), s.live = true ∧ fld v 0 2 = 1 ∧ s.flt.mode = false ∧ s.flt.hold = false ∧ s.flt.running = false ∧ s.wbAllowed = true) ∧
    (∃ (s : State) (v : Word), s.live = true ∧ fld v 0 2 = 1 ∧ s.flt.hold = false ∧ s.wbAllowed = false) ∧
    (∃ (s : State) (v : Word), s.live = true ∧ fld v 0 2 = 2 ∧ s.flt.mode = true) ∧
    (∃ (s : State), s.flt.mode = false ∧ s.flt.running = true) ∧
    (∃ (s : State), s.flt.running = false) ∧
    (∃ (s : State), s.flt.pulse = true ∧ (s.dev.state = .ready ∨ s.dev.state = .active) ∧ s.flt.mode = true ∧ s.flt.hold = false) ∧
    (∃ (s : State), s.flt.pulse = true ∧ s.flt.hold = true) ∧
    (∃ (s : State), (∀ r ∈ s.flt.monRec, s.protected r.1 = r.2)) ∧
    (∃ (s : State), (∃ r ∈ s.flt.monRec, s.protected r.1 ≠ r.2)) ∧
    (∃ (s : State), s.flt.excuse = 0 ∧ s.flt.missed + 1 < 3) ∧
    (∃ (s : State), s.flt.excuse = 0 ∧ 2 ≤ s.flt.missed) :=
  ⟨⟨rdy, 0, 0, 0, by decide +kernel⟩,
    ⟨rdy, 2, 7000, by decide +kernel⟩,
    ⟨rdy, false, by decide +kernel⟩,
    ⟨rdy, !rdy.dev.refin, by decide +kernel⟩,
    ⟨13201, by decide +kernel⟩,
    ⟨0, by decide +kernel⟩,
    ⟨12700, by decide +kernel⟩,
    ⟨rdy, by decide +kernel⟩,
    ⟨rdy, 0, by decide +kernel⟩,
    ⟨rdy, 0x80000000, by decide +kernel⟩,
    ⟨rdy, 0, by decide +kernel⟩,
    ⟨rdy, by decide +kernel⟩,
    ⟨rdy.modFlt fun f => { f with factory := true }, 0x80000007, 7, by decide +kernel⟩,
    ⟨rdy.modFlt fun f => { f with testEn := true }, 0, by decide +kernel⟩,
    ⟨rdy, 0, by decide +kernel⟩,
    ⟨rdy, 0, 0, by decide +kernel⟩,
    ⟨rdy.modFlt fun f => { f with lock := true }, by decide +kernel⟩,
    ⟨rdy, 1, by decide +kernel⟩,
    ⟨dv .selftest, 1, by decide +kernel⟩,
    ⟨rdy.modFlt fun f => { f with mode := true }, 2, by decide +kernel⟩,
    ⟨rdy.modFlt fun f => { f with running := true }, by decide +kernel⟩,
    ⟨rdy, by decide +kernel⟩,
    ⟨rdy.modFlt fun f => { f with mode := true, pulse := true, hold := false }, by decide +kernel⟩,
    ⟨rdy.modFlt fun f => { f with mode := true, pulse := true, hold := true }, by decide +kernel⟩,
    ⟨rdy, by decide +kernel⟩,
    ⟨rdy.modFlt fun f => { f with monRec := [(0x400, 77)] }, by decide +kernel⟩,
    ⟨rdy, by decide +kernel⟩,
    ⟨rdy.modFlt fun f => { f with missed := 2 }, by decide +kernel⟩⟩

/-- States and operands that meet the hypotheses of SoftFaultsAreRaisedByTheirBits, clause by clause. -/
theorem test_met_SoftFaultsAreRaisedByTheirBits :
    (∃ (s : State), s.live = true) :=
  ⟨rdy, by decide +kernel⟩

/-- States and operands that meet the hypotheses of ClaimsAndCompletions, clause by clause. -/
theorem test_met_ClaimsAndCompletions :
    (∃ (s : State) (k : Nat) (p : Nat), s.reads = true ∧ LinesSettled s ∧ s.ic.best 2 = some (k, p)) ∧
    (∃ (s : State), s.reads = true ∧ s.ic.best 2 = none) ∧
    (∃ (s : State) (v : Word), s.live = true ∧ s.ic.activeT2 (fld v 0 7) = true) ∧
    (∃ (s : State) (v : Word), s.live = true ∧ s.ic.activeT2 (fld v 0 7) = false) ∧
    (∃ (s : State) (k : Fin 64) (v : Word), s.live = true ∧ (s.ic.src[k].target = 1 ∨ fld v 4 2 = 1 ∨ fld v 4 2 = 3)) ∧
    (∃ (s : State) (k : Fin 64) (v : Word), s.live = true ∧ s.ic.src[k].target ≠ 1 ∧ (fld v 4 2 = 0 ∨ fld v 4 2 = 2)) :=
  ⟨⟨after (exec .nop ((rdy.modFlt fun f => f).modIc fun i => { i with src := i.src.set 40 { i.src[40] with pending := true, target := 2, prio := 3 } })),
      40, 3, ⟨by decide +kernel, settled_of_check _ (by decide +kernel), by decide +kernel⟩⟩,
    ⟨rdy, by decide +kernel⟩,
    ⟨rdy.modIc fun i => { i with src := i.src.set 20 { i.src[20] with active := true, target := 2, prio := 3 } }, 20, by decide +kernel⟩,
    ⟨rdy, 0, by decide +kernel⟩,
    ⟨rdy, 0, 20, by decide +kernel⟩,
    ⟨rdy.modIc fun i => { i with src := i.src.set 20 { i.src[20] with target := 2, prio := 3 } }, 20, 0x20, by decide +kernel⟩⟩

/-- States and operands that meet the hypotheses of WatchdogWindowsAndExpiries, clause by clause. -/
theorem test_met_WatchdogWindowsAndExpiries :
    (∃ (s : State) (v : Word), s.live = true ∧ bit v 0 = true ∧ s.wdt.en = false) ∧
    (∃ (s : State), s.wdt.en = true ∧ s.wdt.restarting = false ∧ s.wdt.openPart = true ∧ s.wdt.firstWord = false) ∧
    (∃ (s : State), s.wdt.en = true ∧ s.wdt.restarting = false ∧ s.wdt.openPart = true ∧ s.wdt.firstWord = true ∧ s.wdt.allIn = true) ∧
    (∃ (s : State), s.wdt.en = true ∧ s.wdt.restarting = false ∧ s.wdt.openPart = true ∧ s.wdt.firstWord = true ∧ s.wdt.allIn = false) ∧
    (∃ (s : State) (reason : Nat) (task : Nat), s.wdt.en = true ∧ s.wdt.restarting = false ∧ s.dev.state = .ready ∧ s.wdt.openPart = false ∧ reason =
      3 ∧ task = 0xFF) ∧
    (∃ (s : State) (v : Word) (reason : Nat) (task : Nat), s.wdt.en = true ∧ s.wdt.restarting = false ∧ s.dev.state = .ready ∧ s.wdt.openPart = true ∧
      s.wdt.firstWord = false ∧ v ≠ 0x0000A5C3 ∧ reason = 4 ∧ task = 0xFF) ∧
    (∃ (s : State) (v : Word) (reason : Nat) (task : Nat), s.wdt.en = true ∧ s.wdt.restarting = false ∧ s.dev.state = .ready ∧ s.wdt.openPart = true ∧
      s.wdt.firstWord = true ∧ v ≠ 0x00003C5A ∧ reason = 4 ∧ task = 0xFF) ∧
    (∃ (s : State) (reason : Nat) (task : Nat), s.wdt.en = true ∧ s.wdt.restarting = false ∧ s.dev.state = .ready ∧ s.wdt.firstWord = true ∧ reason =
      5 ∧ task = 0xFF) ∧
    (∃ (s : State) (reason : Nat) (task : Nat), s.wdt.en = true ∧ s.wdt.restarting = false ∧ s.dev.state = .ready ∧ s.wdt.allIn = true ∧ reason = 1 ∧
      task = 0xFF) ∧
    (∃ (s : State) (reason : Nat) (task : Nat), s.wdt.en = true ∧ s.wdt.restarting = false ∧ s.dev.state = .ready ∧ task < 8 ∧ s.wdt.tasksRun.getLsbD
      task = true ∧ s.wdt.checked.getLsbD task = false ∧ (∀ i, i < task → s.wdt.tasksRun.getLsbD i = true → s.wdt.checked.getLsbD i = true) ∧ reason =
      2) ∧
    (∃ (s : State) (reason : Nat) (task : Nat), s.wdt.en = true ∧ s.wdt.restarting = false ∧ s.dev.state = .ready ∧ s.wdt.deferred = some (reason,
      task)) ∧
    (∃ (s : State) (v : Word), s.wdt.en = true ∧ fld v 8 8 = 0xC5 ∧ s.wdt.tasksRun.getLsbD (fld v 0 3) = true ∧ s.wdt.checked.getLsbD (fld v 0 3) =
      false) ∧
    (∃ (s : State) (v : Word), s.wdt.en = true ∧ fld v 8 8 = 0xC5 ∧ s.wdt.tasksRun.getLsbD (fld v 0 3) = true ∧ s.wdt.checked.getLsbD (fld v 0 3) =
      true ∧ bit s.wdt.cfgRun 25 = true) ∧
    (∃ (s : State) (v : Word), s.wdt.en = true ∧ fld v 8 8 = 0xC5 ∧ s.wdt.tasksRun.getLsbD (fld v 0 3) = true ∧ s.wdt.checked.getLsbD (fld v 0 3) =
      true ∧ bit s.wdt.cfgRun 25 = false ∧ s.dev.state = .ready ∧ s.host.nvOps = []) ∧
    (∃ (s : State), s.wdt.en = true ∧ s.wdt.restarting = false ∧ s.wdt.openPart = false) ∧
    (∃ (s : State), s.wdt.en = false) ∧
    (∃ (s : State), s.wdt.en = true ∧ s.wdt.restarting = false ∧ s.wdt.openPart = true ∧ (s.ic.src[(23 : Fin 64)]).sense ≠ 0) ∧
    (∃ (s : State), s.wdt.restarting = true ∧ s.host.fetched = []) ∧
    (∃ (s : State), s.wdt.restarting = false) :=
  ⟨⟨rdy, 1, by decide +kernel⟩,
    ⟨wd true id, by decide +kernel⟩,
    ⟨wd true fun w => { w with firstWord := true }, by decide +kernel⟩,
    ⟨wd true fun w => { w with firstWord := true, tasksRun := 1 }, by decide +kernel⟩,
    ⟨wd false id, 3, 0xFF, by decide +kernel⟩,
    ⟨wd true id, 0, 4, 0xFF, by decide +kernel⟩,
    ⟨wd true fun w => { w with firstWord := true }, 0, 4, 0xFF, by decide +kernel⟩,
    ⟨wd true fun w => { w with firstWord := true }, 5, 0xFF, by decide +kernel⟩,
    ⟨wd true id, 1, 0xFF, by decide +kernel⟩,
    ⟨wd true fun w => { w with tasksRun := 0x80 }, 2, 7, by decide +kernel⟩,
    ⟨wd true fun w => { w with deferred := some (1, 0xFF) }, 1, 0xFF, by decide +kernel⟩,
    ⟨wd true fun w => { w with tasksRun := 0x80 }, 0xC507, by decide +kernel⟩,
    ⟨wd true fun w => { w with tasksRun := 0x80, checked := 0x80, cfgRun := 0x02000000 }, 0xC507, by decide +kernel⟩,
    ⟨wd true fun w => { w with tasksRun := 0x80, checked := 0x80 }, 0xC507, by decide +kernel⟩,
    ⟨wd false id, by decide +kernel⟩,
    ⟨rdy, by decide +kernel⟩,
    ⟨wd true id, by decide +kernel⟩,
    ⟨wd true fun w => { w with restarting := true }, by decide +kernel⟩,
    ⟨rdy, by decide +kernel⟩⟩

/-- States and operands that meet the hypotheses of OtpAttestationAndDebug, clause by clause. -/
theorem test_met_OtpAttestationAndDebug :
    (∃ (s : State) (v : Word), let w := (fld s.sec.otpAddr 0 9); s.live = true ∧ s.sec.otpBusy = none ∧ fld v 0 3 = 1 ∧ fld v 24 8 = 0x4F ∧
      s.dev.state = .ready ∧ s.burnDenied w s.sec.otpData = false ∧ (∀ q, digestRegion w = some q → s.finalised q = false)) ∧
    (∃ (s : State) (v : Word) (res : Nat), let w := (fld s.sec.otpAddr 0 9); s.live = true ∧ s.sec.otpBusy = none ∧ fld v 0 3 = 1 ∧ ((res = 7 ∧ fld v
      24 8 ≠ 0x4F) ∨ (fld v 24 8 = 0x4F ∧ ((res = 3 ∧ s.dev.state ≠ .ready) ∨ (s.dev.state = .ready ∧ ((res = 2 ∧ s.burnDenied w s.sec.otpData = true)
      ∨ (res = 4 ∧ s.burnDenied w s.sec.otpData = false ∧ ∃ q, digestRegion w = some q ∧ s.finalised q = true))))))) ∧
    (∃ (s : State) (v : Word), let r := (fld v 8 2); s.live = true ∧ s.sec.otpBusy = none ∧ fld v 0 3 = 2 ∧ fld v 24 8 = 0x4F ∧ s.dev.state = .ready ∧
      s.flt.factory = false ∧ r ≤ 1) ∧
    (∃ (s : State) (v : Word) (k : _), let r := (fld v 8 2); s.live = true ∧ s.sec.otpBusy = none ∧ fld v 0 3 = 2 ∧ fld v 24 8 = 0x4F ∧ s.dev.state =
      .ready ∧ r = 3 ∧ s.finalised 3 = false ∧ s.freeSlot 3 = some k) ∧
    (∃ (s : State) (v : Word), let r := (fld v 8 2); s.live = true ∧ s.sec.otpBusy = none ∧ fld v 0 3 = 2 ∧ fld v 24 8 = 0x4F ∧ s.dev.state = .ready ∧
      r = 3 ∧ s.finalised 3 = true) ∧
    (∃ (s : State) (v : Word), s.live = true ∧ s.sec.otpBusy = none ∧ fld v 0 3 = 3) ∧
    (∃ (s : State), s.sec.otpBusy ≠ none) ∧
    (∃ (s : State) (w : Nat) (d : Word), w < 512 ∧ s.sec.otpBusy = some (.burn w d) ∧ s.sec.raiseSvn = none) ∧
    (∃ (s : State) (w : Nat) (d : Word) (a : Word) (b : Word), w < 512 ∧ s.sec.otpBusy = some (.burn w d) ∧ s.sec.raiseSvn = none ∧ d &&& ~~~s.otpWord
      w &&& (a ||| b) ≠ 0) ∧
    (∃ (s : State) (v : Word), s.live = true ∧ fld v 0 3 = 2) ∧
    (∃ (s : State) (v : Word), fld v 0 3 = 4 ∧ fld v 24 8 = 0xD5 ∧ (s.dev.state = .ready ∨ s.dev.state = .cocoon) ∧ s.debugLock = false) ∧
    (∃ (s : State) (v : Word), fld v 0 3 = 4 ∧ (fld v 24 8 ≠ 0xD5 ∨ s.debugLock = true ∨ (s.dev.state ≠ .ready ∧ s.dev.state ≠ .cocoon))) ∧
    (∃ (s : State) (nonce : _), s.sec.attRun = some nonce) ∧
    (∃ (s : State), s.sec.attRun = none) ∧
    (∃ (s : State), (s.sec.debugOpen = true ∨ s.flt.factory = true)) ∧
    (∃ (s : State), s.sec.debugOpen = false ∧ s.flt.factory = false) :=
  ⟨⟨rdy.modSec fun c => { c with otpAddr := 300, otpData := 1 }, 0x4F000001, by dsimp only; decide +kernel⟩,
    ⟨rdy, 0x4E000001, 7, by dsimp only; decide +kernel⟩,
    ⟨rdy, 0x4F000102, by dsimp only; decide +kernel⟩,
    ⟨rdy, 0x4F000302, 0, by dsimp only; decide +kernel⟩,
    ⟨otp [(511, 0x40)], 0x4F000302, by dsimp only; decide +kernel⟩,
    ⟨rdy, 3, by decide +kernel⟩,
    ⟨rdy.modSec fun c => { c with otpBusy := some (.burn 511 0x10) }, by decide +kernel⟩,
    ⟨rdy.modSec fun c => { c with otpBusy := some (.burn 511 0x10) }, 511, 0x10, by decide +kernel⟩,
    ⟨rdy.modSec fun c => { c with otpBusy := some (.burn 511 0x10) }, 511, 0x10, 0x10, 0, by decide +kernel⟩,
    ⟨rdy, 2, by decide +kernel⟩,
    ⟨rdy, 0xD5000004, by decide +kernel⟩,
    ⟨rdy, 4, by decide +kernel⟩,
    ⟨rdy.modSec fun c => { c with attRun := some (List.replicate 32 1) }, List.replicate 32 1, by decide +kernel⟩,
    ⟨rdy, by decide +kernel⟩,
    ⟨rdy.modSec fun c => { c with debugOpen := true }, by decide +kernel⟩,
    ⟨rdy, by decide +kernel⟩⟩

/-- States and operands that meet the hypotheses of TrayMapsAreWrittenWhole, clause by clause. -/
theorem test_met_TrayMapsAreWrittenWhole :
    (∃ (s : State), s.live = true) :=
  ⟨rdy, by decide +kernel⟩

/-- States and operands that meet the hypotheses of TraysComeGoAndAnswer, clause by clause. -/
theorem test_met_TraysComeGoAndAnswer :
    (∃ (s : State) (k : Fin 4), (s.sec.trays[k]).here = true ∧ (s.sec.trays[k]).exch = none) ∧
    (∃ (s : State) (k : Fin 4), (s.sec.trays[k]).here = false) ∧
    (∃ (s : State) (k : Fin 4), (s.sec.trays[k]).here = false ∧ bit s.sec.trayCfg (4 + k.val) = false) ∧
    (∃ (s : State) (k : Fin 4), (s.sec.trays[k]).here = true) ∧
    (∃ (s : State) (k : Fin 4) (e : TagExchange) (r : List Byte), (s.sec.trays[k]).exch = some e ∧ s.host.fetched = [] ∧ s.wdt.restarting = false ∧
      padTo 16 r = s.tagResponse e.serial e.challenge) ∧
    (∃ (s : State) (k : Fin 4) (e : TagExchange) (r : List Byte), (s.sec.trays[k]).exch = some e ∧ s.host.fetched = [] ∧ s.wdt.restarting = false ∧
      padTo 16 r ≠ s.tagResponse e.serial e.challenge) ∧
    (∃ (s : State) (k : Fin 4) (e : TagExchange), (s.sec.trays[k]).exch = some e ∧ s.host.fetched = [] ∧ s.wdt.restarting = false) :=
  ⟨⟨tray0 fun t => { t with here := true }, 0, by decide +kernel⟩,
    ⟨rdy, 0, by decide +kernel⟩,
    ⟨rdy, 0, by decide +kernel⟩,
    ⟨tray0 fun t => { t with here := true }, 0, by decide +kernel⟩,
    ⟨tray0 fun t => { t with here := true, state := .authenticating, exch := some anExch }, 0, anExch, rdy.tagResponse anExch.serial anExch.challenge,
      by decide +kernel⟩,
    ⟨tray0 fun t => { t with here := true, state := .authenticating, exch := some anExch }, 0, anExch, [], by decide +kernel⟩,
    ⟨tray0 fun t => { t with here := true, state := .authenticating, exch := some anExch }, 0, anExch, by decide +kernel⟩⟩

/-- States and operands that meet the hypotheses of BusesTransferAndPoll, clause by clause. -/
theorem test_met_BusesTransferAndPoll :
    (∃ (s : State) (b : Fin 5) (v : Word), let w := (v &&& 0x3F3F007F#32); let x := (s.tw.bus[busOf b]); s.live = true ∧ bit v 31 = true ∧ 8 ≤ xAddr w
      ∧ xAddr w < 0x78 ∧ xWlen w ≤ 48 ∧ xRlen w ≤ 48 ∧ x.hostWait = false ∧ x.job = .idle ∧ s.wdt.restarting = false ∧ s.tagLocked (busOf b) w =
      false) ∧
    (∃ (s : State) (b : Fin 5) (v : Word), let w := (v &&& 0x3F3F007F#32); let x := (s.tw.bus[busOf b]); s.live = true ∧ bit v 31 = true ∧ 8 ≤ xAddr w
      ∧ xAddr w < 0x78 ∧ xWlen w ≤ 48 ∧ xRlen w ≤ 48 ∧ x.hostWait = false ∧ x.job = .idle ∧ s.wdt.restarting = false ∧ s.tagLocked (busOf b) w = true) ∧
    (∃ (s : State) (b : Fin 5) (v : Word) (a : _) (r : _), let w := (v &&& 0x3F3F007F#32); let x := (s.tw.bus[busOf b]); s.live = true ∧ bit v 31 =
      true ∧ 8 ≤ xAddr w ∧ xAddr w < 0x78 ∧ xWlen w ≤ 48 ∧ xRlen w ≤ 48 ∧ x.hostWait = false ∧ x.job = .poll a r) ∧
    (∃ (s : State) (b : Fin 5) (v : Word), let w := (v &&& 0x3F3F007F#32); let x := (s.tw.bus[busOf b]); s.live = true ∧ bit v 31 = true ∧ (xAddr w <
      8 ∨ 0x78 ≤ xAddr w ∨ 48 < xWlen w ∨ 48 < xRlen w ∨ x.hostWait = true ∨ x.job = .host)) ∧
    (∃ (s : State) (b : Fin 5), (s.tw.bus[busOf b]).job = .host ∧ (s.tw.bus[busOf b]).due = [] ∧ (s.tw.bus[busOf b]).late = false) ∧
    (∃ (s : State) (b : Fin 5) (k : Nat), (s.tw.bus[busOf b]).job = .host ∧ (s.tw.bus[busOf b]).due = [] ∧ (s.tw.bus[busOf b]).late = false ∧ k < 256) ∧
    (∃ (s : State) (b : Fin 5) (res : _), (s.tw.bus[busOf b]).job = .host ∧ (s.tw.bus[busOf b]).due = [] ∧ (s.tw.bus[busOf b]).late = false ∧ (res = 3
      ∨ res = 7)) ∧
    (∃ (s : State) (b : Fin 4) (a : Nat) (r : Nat) (rest : List (Nat × Nat)), let x := (s.tw.bus[trayBus b]); s.wdt.restarting = false ∧ s.pairsOf
      b.val = (a, r) :: rest ∧ x.job = .idle ∧ x.due = [] ∧ x.hostWait = false) ∧
    (∃ (s : State) (b : Fin 4), let x := (s.tw.bus[trayBus b]); s.wdt.restarting = false ∧ s.pairsOf b.val ≠ [] ∧ x.due ≠ []) ∧
    (∃ (s : State) (b : Fin 4), s.wdt.restarting = false ∧ s.pairsOf b.val = []) ∧
    (∃ (s : State) (b : Fin 4) (a : Nat) (r : Nat) (w : BitVec 16) (n : ChanNo) (y : Int), let x := (s.tw.bus[trayBus b]); s.wdt.restarting = false ∧
      x.job = .poll a r ∧ (s.chans[n].temp).pair b.val = some (a, r) ∧ (s.chans[n].temp).oldRead = false ∧ fld (s.chans[n].temp).map 0 2 < 3 ∧
      sensorValue (fld (s.chans[n].temp).map 0 2) w = some y) ∧
    (∃ (s : State) (b : Fin 4) (a : Nat) (r : Nat), let x := (s.tw.bus[trayBus b]); s.wdt.restarting = false ∧ x.job = .poll a r) ∧
    (∃ (s : State) (b : Fin 5), s.coreUp = true ∧ (s.tw.bus[busOf b]).job = .host ∧ (s.tw.bus[busOf b]).due = [] ∧ (s.tw.bus[busOf b]).late = false ∧
      (∀ k : Fin 4, (s.sec.trays[k]).exch = none)) ∧
    (∃ (s : State) (b : Fin 5), s.coreUp = true ∧ (s.tw.bus[busOf b]).job = .idle ∧ (∀ k : Fin 4, (s.sec.trays[k]).exch = none)) ∧
    (∃ (s : State) (b : Fin 5), s.coreUp = true ∧ (s.tw.bus[busOf b]).job = .idle ∧ (s.tw.bus[busOf b]).hostWait = false ∧ (∀ k : Fin 4,
      (s.sec.trays[k]).exch = none)) ∧
    (∃ (s : State), s.coreUp = true ∧ (s.tw.bus[(5 : Fin 6)]).job = .idle) ∧
    (∃ (s : State) (b : Fin 5), s.coreUp = true ∧ (s.tw.bus[busOf b]).job ≠ .idle) ∧
    (∃ (s : State), let x := (s.tw.bus[(4 : Fin 6)]); x.job = .host ∧ x.lost + 1 < 8) ∧
    (∃ (s : State), let x := (s.tw.bus[(4 : Fin 6)]); x.job = .host ∧ 8 ≤ x.lost + 1) ∧
    (∃ (s : State), let x := (s.tw.bus[(4 : Fin 6)]); x.job = .idle ∧ x.hostWait = true ∧ s.wdt.restarting = false) ∧
    (∃ (s : State) (n : ChanNo) (v : Word), s.live = true ∧ fld v 0 2 ≠ 3 ∧ s.isConf n = true) ∧
    (∃ (s : State) (n : ChanNo) (v : Word), s.live = true ∧ (fld v 0 2 = 3 ∨ s.isConf n = false)) :=
  ⟨⟨rdy, 4, 0x80000008, by dsimp only; decide +kernel⟩,
    ⟨tray0 fun t => { t with here := true, state := .authenticating }, 0, 0x8000003A, by dsimp only; decide +kernel⟩,
    ⟨bus0 fun x => { x with job := .poll 72 1 }, 0, 0x80010050, 72, 1, by dsimp only; decide +kernel⟩,
    ⟨rdy, 0, 0x80000007, by dsimp only; decide +kernel⟩,
    ⟨bus0 fun x => { x with job := .host }, 0, by decide +kernel⟩,
    ⟨bus0 fun x => { x with job := .host }, 0, 0, by decide +kernel⟩,
    ⟨bus0 fun x => { x with job := .host }, 0, 3, by decide +kernel⟩,
    ⟨sensed, 0, 72, 1, [], by dsimp only; decide +kernel⟩,
    ⟨sensed.modBus 0 fun x => { x with due := [(1, 1)] }, 0, by dsimp only; decide +kernel⟩,
    ⟨rdy, 0, by decide +kernel⟩,
    ⟨sensed.modBus 0 fun x => { x with job := .poll 72 1 }, 0, 72, 1, 0x1900, 0, 2500, by dsimp only; decide +kernel⟩,
    ⟨sensed.modBus 0 fun x => { x with job := .poll 72 1 }, 0, 72, 1, by dsimp only; decide +kernel⟩,
    ⟨bus0 fun x => { x with job := .host }, 0, by decide +kernel⟩,
    ⟨rdy, 0, by decide +kernel⟩,
    ⟨rdy, 0, by decide +kernel⟩,
    ⟨rdy, by decide +kernel⟩,
    ⟨bus0 fun x => { x with job := .host }, 0, by decide +kernel⟩,
    ⟨rdy.modBus 4 fun x => { x with job := .host, lost := 6 }, by dsimp only; decide +kernel⟩,
    ⟨rdy.modBus 4 fun x => { x with job := .host, lost := 7 }, by dsimp only; decide +kernel⟩,
    ⟨rdy.modBus 4 fun x => { x with hostWait := true }, by dsimp only; decide +kernel⟩,
    ⟨rdy, 0, 0, by decide +kernel⟩,
    ⟨rdy, 1, 0, by decide +kernel⟩⟩

/-- States and operands that meet the hypotheses of TargetPortsAnswer, clause by clause. -/
theorem test_met_TargetPortsAnswer :
    (∃ (s : State), s.targetUp = true) ∧
    (∃ (s : State), s.targetUp = false) ∧
    (∃ (s : State) (bs : List Byte) (n : Nat), let off := (getLe bs 0 3); let good := (crc8 (s.targetAddr false :: bs.dropLast) = bs.getLastD 0); let
      inBox := (off % 4 = 0 ∧ 0xA200 ≤ off ∧ off + 4 * n ≤ 0xA220); s.targetUp = true ∧ 1 ≤ n ∧ n ≤ 8 ∧ bs.length = 4 * n + 4 ∧ good ∧ inBox ∧
      s.dev.state ≠ .cocoon ∧ bit (s.tw.bus[(4 : Fin 6)]).stat 8 = false) ∧
    (∃ (s : State) (bs : List Byte) (n : Nat), let good := (crc8 (s.targetAddr false :: bs.dropLast) = bs.getLastD 0); s.targetUp = true ∧ 1 ≤ n ∧ n ≤
      8 ∧ bs.length = 4 * n + 4 ∧ ¬good) ∧
    (∃ (s : State) (bs : List Byte) (n : Nat), let off := (getLe bs 0 3); let good := (crc8 (s.targetAddr false :: bs.dropLast) = bs.getLastD 0);
      s.targetUp = true ∧ 1 ≤ n ∧ n ≤ 8 ∧ bs.length = 4 * n + 4 ∧ good ∧ off % 4 = 0 ∧ off + 4 * n ≤ 0x40000 ∧ off < 0xA200) ∧
    (∃ (s : State) (bs : List Byte) (n : Nat), let off := (getLe bs 0 3); let good := (crc8 (s.targetAddr false :: bs.dropLast) = bs.getLastD 0); let
      inBox := (off % 4 = 0 ∧ 0xA200 ≤ off ∧ off + 4 * n ≤ 0xA220); s.targetUp = true ∧ 1 ≤ n ∧ n ≤ 8 ∧ bs.length = 4 * n + 4 ∧ good ∧ inBox ∧
      s.dev.state ≠ .cocoon ∧ bit (s.tw.bus[(4 : Fin 6)]).stat 8 = true) ∧
    (∃ (s : State) (bs : List Byte) (n : Nat), s.targetUp = true ∧ 1 ≤ n ∧ n ≤ 8 ∧ bs.length = 4 * n + 4) ∧
    (∃ (s : State) (svc : Bool), s.targetUp = true ∧ (s.target svc).ptr % 4 ≠ 0) :=
  ⟨⟨rdy, by decide +kernel⟩,
    ⟨State.reset, by decide +kernel⟩,
    ⟨rdy, framed [0x1C, 0xA2, 0, 1, 2, 3, 4], 1, by dsimp only; decide +kernel⟩,
    ⟨rdy, framed [0x1C, 0xA2, 0, 1, 2, 3, 4] |>.set 7 0, 1, by dsimp only; decide +kernel⟩,
    ⟨rdy, framed [0x00, 0x04, 0, 1, 2, 3, 4], 1, by dsimp only; decide +kernel⟩,
    ⟨rdy.modBus 4 fun x => { x with stat := 0x100 }, framed [0x00, 0xA2, 0, 1, 2, 3, 4], 1, by dsimp only; decide +kernel⟩,
    ⟨rdy, framed [0x00, 0xA2, 0, 1, 2, 3, 4], 1, by decide +kernel⟩,
    ⟨rdy.modTw fun t => { t with board := { t.board with ptr := 1 } }, false, by decide +kernel⟩⟩

/-- States and operands that meet the hypotheses of RegisterWritesActOnTheirWord, clause by clause. -/
theorem test_met_RegisterWritesActOnTheirWord :
    (∃ (off : Nat) (width : _), (off % 4 ≠ 0 ∨ width < 4)) ∧
    (∃ (s : State) (off : Nat), s.live = true ∧ 0x1A000 ≤ off ∧ off < 0x20000) ∧
    (∃ (s : State), (s.dev.state = .powerup ∨ s.dev.state = .otpHold)) ∧
    (∃ (s : State) (n : ChanNo), s.live = true ∧ s.isConf n = true) ∧
    (∃ (s : State) (n : ChanNo), s.live = true ∧ s.isConf n = false) ∧
    (∃ (s : State), s.live = true) :=
  ⟨⟨1, 4, by decide +kernel⟩,
    ⟨rdy, 0x1A000, by decide +kernel⟩,
    ⟨State.reset, by decide +kernel⟩,
    ⟨rdy, 0, by decide +kernel⟩,
    ⟨rdy, 1, by decide +kernel⟩,
    ⟨rdy, by decide +kernel⟩⟩

/-- States and operands that meet the hypotheses of AdmissionLimit, clause by clause. -/
theorem test_met_AdmissionLimit :
    (∃ (b : BeatUnit), b.engines.length = 18) ∧
    (∃ (b : BeatUnit), b.engines.length = 17) :=
  ⟨⟨BeatUnit.reset, by decide +kernel⟩,
    ⟨{ BeatUnit.reset with engMap := 0x1FFFF }, by decide +kernel⟩⟩

/-- States and operands that meet the hypotheses of CalendarIsSetWhole, clause by clause. -/
theorem test_met_CalendarIsSetWhole :
    (∃ (s : State) (k : Nat), s.live = true ∧ k < 7) ∧
    (∃ (s : State) (v : Word), s.live = true ∧ bit v 0 = true ∧ s.rtc.setBuf.ok = true) ∧
    (∃ (s : State) (v : Word), s.live = true ∧ bit v 0 = true ∧ s.rtc.setBuf.ok = false) ∧
    (∃ (c : Cal), c.year = 2031 ∧ c.month = 2 ∧ c.day = 29) ∧
    (∃ (c : Cal), c.month = 13) :=
  ⟨⟨rdy, 0, by decide +kernel⟩,
    ⟨rdy, 1, by decide +kernel⟩,
    ⟨rdy.modRtc fun r => { r with setBuf := { r.setBuf with month := 13 } }, 1, by decide +kernel⟩,
    ⟨{ Cal.reset with year := 2031, month := 2, day := 29 }, by decide +kernel⟩,
    ⟨{ Cal.reset with month := 13 }, by decide +kernel⟩⟩

end Sys2Proof.Tests
end

section
/-!
PROOFS. The scope of the device and its register map (spec/00_scope.md): phases and groups (R5), which writes of BAR0 act and on
which word (R12, R16, R444), and the snapshot that CH_COMMIT takes (R24, R98). The first parts are rules about single
operations; the statements are settled last.
-/
namespace Sys2Proof.Proofs
open Sys2Proof.Machine Sys2Proof.Laws

/-! ### Indices -/

@[simp] theorem finOf_val {n : Nat} (i : Fin n) : finOf n i.val = some i := dif_pos i.isLt

@[simp] theorem mem_allFin {n : Nat} (i : Fin n) : i ∈ allFin n := List.mem_finRange i

/-- Word `o` of window `n`, of 256 bytes, lies in that window. -/
theorem finOf_window {k : Nat} (n : Fin k) (base : Nat) {o : Nat} (ho : o < 256) :
    finOf k ((base + 256 * n.val + o - base) / 256) = some n := by
  rw [show (base + 256 * n.val + o - base) / 256 = n.val by omega, finOf_val]

/-! ### One element changed, and what that leaves as it was -/

section Elements
variable (s : State)

theorem modChan_get_same (n : ChanNo) (f : Chan → Chan) : (s.modChan n f).chans[n] = f s.chans[n] := by
  simp [modChan_chans]

theorem modChan_get_other {n m : ChanNo} (h : m ≠ n) (f : Chan → Chan) : (s.modChan n f).chans[m] = s.chans[m] := by
  simp [modChan_chans, Fin.val_ne_of_ne h.symm]

theorem modPhase_get_same (p : PhaseNo) (f : Phase → Phase) : (s.modPhase p f).phases[p] = f s.phases[p] := by
  simp [modPhase_phases]

theorem modPhase_get_other {p q : PhaseNo} (h : q ≠ p) (f : Phase → Phase) :
    (s.modPhase p f).phases[q] = s.phases[q] := by
  simp [modPhase_phases, Fin.val_ne_of_ne h.symm]

theorem frame_modChan (n : ChanNo) (f : Chan → Chan) : Frame s (s.modChan n f) [.chans] := by
  intro p hp
  cases p
  case chans => simp at hp
  all_goals exact rfl

theorem frame_modPhase (n : PhaseNo) (f : Phase → Phase) : Frame s (s.modPhase n f) [.phases] := by
  intro p hp
  cases p
  case phases => simp at hp
  all_goals exact rfl

theorem frame_modGov (f : Governor → Governor) : Frame s (s.modGov f) [.gov] := by
  intro p hp
  cases p
  case gov => simp at hp
  all_goals exact rfl

end Elements

/-! ### BAR0 acts or does not (R12, R444) -/

section Bar
variable (s : State) (off : Nat) (v : Word) (cyc : Nat)

@[simp] theorem bar_self : s.bar s = s := ite_self s

theorem bar_of_live {s : State} (h : s.live = true) (t : State) : s.bar t = t := if_pos h

theorem live_eq_false (h : s.dev.state = .powerup ∨ s.dev.state = .otpHold) : s.live = false := by
  unfold State.live
  rcases h with h | h <;> rw [h]

theorem barWrite_narrow {width : Nat} (h : width < 4) : s.barWrite off v cyc width = s := if_pos h

theorem barWrite_word : s.barWrite off v cyc 4 = s.regWrite off v cyc := if_neg (by decide)

theorem regWrite_misaligned (h : off % 4 ≠ 0) : s.regWrite off v cyc = s := if_pos h

theorem regWrite_live (h : s.live = true) (ha : off % 4 = 0) : s.regWrite off v cyc = s.writeAny off v cyc := by
  simp [State.regWrite, ha, h]

/-- Where no word answers to an offset, a write there is without effect, aligned or not. -/
theorem regWrite_unanswered (hl : s.live = true) (h : s.writeAny off v cyc = s) : s.regWrite off v cyc = s := by
  by_cases ha : off % 4 = 0
  · rw [regWrite_live s off v cyc hl ha, h]
  · exact regWrite_misaligned s off v cyc ha

/-- POWERUP and OTP_HOLD take no write at all (R444). -/
theorem regWrite_dead (h : s.dev.state = .powerup ∨ s.dev.state = .otpHold) : s.regWrite off v cyc = s := by
  have hc : s.dev.state ≠ .cocoon := by rcases h with h | h <;> rw [h] <;> decide
  simp [State.regWrite, live_eq_false s h, hc]

/-- A write that is misaligned or too narrow is discarded (R12). -/
theorem barWrite_discarded {width : Nat} (h : off % 4 ≠ 0 ∨ width < 4) : s.barWrite off v cyc width = s := by
  by_cases hw : width < 4
  · exact barWrite_narrow s off v cyc hw
  · rw [State.barWrite, if_neg hw]
    exact regWrite_misaligned s off v cyc (h.resolve_right hw)

/-- REGISTER_WRITE answers the settled effect of the write. -/
theorem exec_registerWrite (width : Nat) :
    exec (.registerWrite off v cyc width) s = done (s.barWrite off v cyc width) := rfl

/-- A write that leaves the state as it is changes no part. -/
theorem registerWrite_ignored {width : Nat} (h : s.barWrite off v cyc width = s) :
    ∃ t, exec (.registerWrite off v cyc width) s = .next t ∧ Frame s t [] := by
  rw [exec_registerWrite, h]
  exact next_done (frame_settle (frame_refl s []))

/-- A write of a whole aligned word where BAR0 acts: what holds of its settled effect holds of the state answered. -/
theorem registerWrite_live {P : State → Prop} (hl : s.live = true) (ha : off % 4 = 0)
    (h : P (settle (s.writeAny off v cyc))) : ∃ t, exec (.registerWrite off v cyc 4) s = .next t ∧ P t := by
  rw [exec_registerWrite, barWrite_word, regWrite_live s off v cyc hl ha]
  exact next_done h

end Bar

/-! ### Where a word lies (R16) and what a write of it does -/

section Windows
variable (s : State) (v : Word) (cyc : Nat)

theorem writeAny_block {off : Nat} (h : off < 0x10000) : s.writeAny off v cyc = s.writeBlock off v cyc := if_pos h

theorem writeAny_chan (n : ChanNo) {o : Nat} (ho : o < 256) :
    s.writeAny (0x10000 + 256 * n.val + o) v cyc = s.writeChan n o v cyc := by
  have hn := n.isLt
  have hmod : (0x10000 + 256 * n.val + o) % 256 = o := by omega
  unfold State.writeAny
  rw [if_neg (by omega), if_pos (by omega), finOf_window n 0x10000 ho, hmod]

/-- The page between the last channel window and the first phase window is reserved (R14). -/
theorem writeAny_reserved {off : Nat} (hlo : 0x1A000 ≤ off) (hhi : off < 0x20000) : s.writeAny off v cyc = s := by
  unfold State.writeAny
  rw [if_neg (by omega), if_neg (by omega), if_pos hhi]

theorem writeAny_phase (p : PhaseNo) {o : Nat} (ho : o < 256) :
    s.writeAny (0x20000 + 256 * p.val + o) v cyc = s.writePhase p o v cyc := by
  have hp := p.isLt
  have hmod : (0x20000 + 256 * p.val + o) % 256 = o := by omega
  unfold State.writeAny
  rw [if_neg (by omega), if_neg (by omega), if_neg (by omega), if_pos (by omega), finOf_window p 0x20000 ho, hmod]

/-- The window of a channel that is not configured ignores writes (R16). -/
theorem writeChan_unconfigured {n : ChanNo} (h : s.isConf n = false) (o : Nat) : s.writeChan n o v cyc = s := by
  simp [State.writeChan, h]

theorem writeChan_setI {n : ChanNo} (h : s.isConf n = true) :
    s.writeChan n 0x14 v cyc = s.modChan n fun c => { c with staged := { c.staged with setI := v } } := by
  simp [State.writeChan, h, ChanCfg.put]

/-- PH_GANG lies above the channel-wide words, so every phase window takes it (R74, R97). -/
theorem baseOnly_gang (p : PhaseNo) : s.baseOnly p 0x5C = false := by
  simp [State.baseOnly]

theorem writePhase_gang (p : PhaseNo) :
    s.writePhase p 0x5C v cyc = s.modPhase p fun q => { q with staged := { q.staged with gang := v &&& 7#32 } } := by
  simp [State.writePhase, baseOnly_gang, PhaseCfg.put]

theorem writeBlock_govBudget : s.writeBlock 0x400 v cyc = s.modGov fun g => { g with budget := v } := rfl

end Windows

/-! ### CH_COMMIT (R24, R98) -/

section Commit
variable (s : State) (n : ChanNo)

theorem exec_chCommit (v : Word) (cyc : Nat) : exec (.chCommit n v cyc) s = done (s.bar (s.chCommit n v cyc)) := rfl

/-- The next boundary for what is written before cycle 490, the one after from then on (R24). -/
theorem dueAt_eq (cyc : Nat) : s.dueAt cyc = s.beat.number + if cyc < 490 then 1 else 2 :=
  (apply_ite (s.beat.number + ·) _ _ _).symm

theorem chCommit_taken {v : Word} (hv : v.getLsbD 0 = true) (hc : s.isConf n = true) (cyc : Nat) :
    s.chCommit n v cyc = s.snapshot n (s.dueAt cyc) := by
  simp [State.chCommit, bit, hv, hc]

theorem chCommit_ignored {v : Word} (h : v.getLsbD 0 = false ∨ s.isConf n = false) (cyc : Nat) :
    s.chCommit n v cyc = s := by
  have hg : (bit v 0 && s.isConf n) = false := by
    rcases h with h | h <;> simp only [bit, h, Bool.false_and, Bool.and_false]
  simp [State.chCommit, hg]

/-- What a snapshot of a channel holds: the staged words of the channel, its gang, and those of the phases of its group. -/
def stagedSnapshot (due : Beat) : Snapshot :=
  { due := due, chan := s.chans[n].staged, gang := s.phases[n].staged.gang
    phases := ((allFin 160).filter fun p => groupOf p == groupOf n).map fun p => (p, s.phases[p].staged) }

theorem snapshot_get_same (due : Beat) : (s.snapshot n due).chans[n] =
    { s.chans[n] with snap := some (stagedSnapshot s n due), commitResult := 2, commitPhase := 0 } :=
  modChan_get_same s n _

theorem snapshot_get_other {m : ChanNo} (h : m ≠ n) (due : Beat) : (s.snapshot n due).chans[m] = s.chans[m] :=
  modChan_get_other s h _

theorem frame_snapshot (due : Beat) : Frame s (s.snapshot n due) [.chans] := frame_modChan s n _

theorem stagedSnapshot_has_group (due : Beat) {p : PhaseNo} (h : groupOf p = groupOf n) :
    (p, s.phases[p].staged) ∈ (stagedSnapshot s n due).phases :=
  List.mem_map.mpr ⟨p, List.mem_filter.mpr ⟨mem_allFin p, beq_iff_eq.mpr h⟩, rfl⟩

end Commit

/-! ### The statements -/

/-- Settles O50: each clause is the effect of one write, read off where its word lies. -/
theorem registerWritesActOnTheirWord : Obligations.RegisterWritesActOnTheirWord := by
  unfold Obligations.RegisterWritesActOnTheirWord
  refine ⟨fun s off cyc v => ⟨fun width h => ?misaligned, fun hl hlo hhi => ?reserved, fun h => ?dead⟩,
    fun s cyc n v hl => ⟨fun hc => ?channel, fun hc => ?unconfigured⟩, fun s cyc p v hl => ?phase, fun s cyc v hl => ?budget⟩
  case misaligned => exact registerWrite_ignored s off v cyc (barWrite_discarded s off v cyc h)
  case reserved =>
    refine registerWrite_ignored s off v cyc ?_
    rw [barWrite_word, regWrite_unanswered s off v cyc hl (writeAny_reserved s v cyc hlo hhi)]
  case dead =>
    refine registerWrite_ignored s off v cyc ?_
    rw [barWrite_word, regWrite_dead s off v cyc h]
  case channel =>
    refine registerWrite_live s _ v cyc hl (by omega) ?_
    rw [writeAny_chan s v cyc n (by decide), writeChan_setI s v cyc hc, settle_chans]
    exact ⟨modChan_get_same s n _, fun m hm => modChan_get_other s hm _, frame_settle (frame_modChan s n _)⟩
  case unconfigured =>
    refine registerWrite_ignored s _ v cyc ?_
    rw [barWrite_word]
    exact regWrite_unanswered s _ v cyc hl
      ((writeAny_chan s v cyc n (by decide)).trans (writeChan_unconfigured s v cyc hc _))
  case phase =>
    refine registerWrite_live s _ v cyc hl (by omega) ?_
    rw [writeAny_phase s v cyc p (by decide), writePhase_gang, settle_phases]
    exact ⟨modPhase_get_same s p _, fun q hq => modPhase_get_other s hq _, frame_settle (frame_modPhase s p _)⟩
  case budget =>
    refine registerWrite_live s _ v cyc hl (by decide) ?_
    rw [writeAny_block s v cyc (by decide), writeBlock_govBudget, settle_gov]
    exact ⟨rfl, frame_settle (frame_modGov s _)⟩

/-- Settles O13: an accepted write is the snapshot of the staged words and nothing else; any other leaves the state as it is. -/
theorem commitSnapshotsTheStagedWords : Obligations.CommitSnapshotsTheStagedWords := by
  unfold Obligations.CommitSnapshotsTheStagedWords
  intro s n v cyc
  simp only [exec_chCommit]
  constructor
  · intro hl hv hc
    rw [bar_of_live hl, chCommit_taken s n hv hc]
    refine ⟨_, stagedSnapshot s n (s.dueAt cyc), rfl, ?_⟩
    rw [settle_chans, snapshot_get_same]
    exact ⟨rfl, rfl, rfl, fun p hp => stagedSnapshot_has_group s n _ hp, dueAt_eq s cyc, rfl, rfl,
      fun m hm => snapshot_get_other s n hm _, frame_settle (frame_snapshot s n _)⟩
  · intro h
    rw [chCommit_ignored s n h, bar_self]
    exact next_done (frame_settle (frame_refl s []))

/-- Settles O51: the group number is the quotient by 16, so a group is sixteen phases in a row. -/
theorem phasesBelongToGroups : Obligations.PhasesBelongToGroups := by
  unfold Obligations.PhasesBelongToGroups
  intro n
  have hval : (groupOf n).val = n.val / 16 := rfl
  refine ⟨hval, fun g => ?_⟩
  rw [Fin.ext_iff, hval]
  omega

end Sys2Proof.Proofs
end

section
/-!
PROOFS. The setpoint lane (spec/03_channels_setpoints.md): what a slot does with its frame, its counters and the queue of
acknowledgements (R107, R108, R110, R115, R116). The rules about the operations come first; the statement is settled last.
-/
namespace Sys2Proof.Proofs
open Sys2Proof.Machine Sys2Proof.Laws

/-! ### The lane changed, a word sent, and what that leaves as it was -/

section Sending
variable (s : State)

theorem frame_modLane (f : Lane → Lane) : Frame s (s.modLane f) [.lane] := by
  intro p hp
  cases p
  case lane => simp at hp
  all_goals exact rfl

/-- What is sent belongs to no part of the state. -/
theorem frame_send (o : Out) : Frame s (s.send o) [] := by
  intro p _
  cases p <;> exact rfl

/-- What a command sends is still in what was sent once the state has settled. -/
theorem mem_outbox_settle {s : State} {o : Out} (h : o ∈ s.outbox) : o ∈ (settle s).outbox := by
  obtain ⟨l, hl⟩ := settle_outbox s
  rw [hl]
  exact List.mem_append_left l h

end Sending

/-! ### A slot, by whether the lane is on and by its length (R107) -/

section Slot
variable (s : State) (clocks : Nat) (frame : BitVec 48) (cyc : Nat)

theorem exec_laneSlot : exec (.laneSlot clocks frame cyc) s = done (s.laneSlot clocks frame cyc) := rfl

/-- The beat a frame is an input of: the next, or the one after where its slot ends past cycle 480 (R110). -/
def frameDue : Beat := s.beat.number + if cyc ≤ 480 then 1 else 2

theorem frameDue_eq : (if cyc ≤ 480 then s.beat.number + 1 else s.beat.number + 2) = frameDue s cyc :=
  (apply_ite (s.beat.number + ·) _ _ _).symm

/-- The lane after a frame error: the count stops at its top. -/
def frameErred (l : Lane) : Lane :=
  { l with frameErr := if l.frameErr = 0xFFFF#16 then l.frameErr else l.frameErr + 1, frameSeen := true }

/-- The lane after a slot of 48 clocks whose frame is `f`, an input of beat `due` (R108, R110, R116). -/
def frameTaken (f : LaneFrame) (due : Beat) (l : Lane) : Lane :=
  { l with queue := l.queue.drop 2
           frames := if f.crcOk then l.frames + 1 else l.frames
           crcErr := if f.crcOk || l.crcErr == 0xFFFF#16 then l.crcErr else l.crcErr + 1
           crcSeen := l.crcSeen || !f.crcOk
           inputs := if f.chan = 0xFF ∧ f.crcOk = true then l.inputs else l.inputs ++ [(due, f)] }

/-- The two oldest words of the acknowledgement queue are sent, an empty place as the empty word (R116). -/
def acksSent : State :=
  (s.send (.laneWord (s.lane.queue.headD 0))).send (.laneWord ((s.lane.queue.drop 1).headD 0))

theorem laneSlot_off (h : s.lane.en = false) : s.laneSlot clocks frame cyc = s := by
  simp [State.laneSlot, h]

theorem laneSlot_short_or_long (h : s.lane.en = true) (hc : clocks ≠ 48) :
    s.laneSlot clocks frame cyc = s.modLane frameErred := by
  simp only [State.laneSlot, h, Bool.not_true, Bool.false_eq_true, if_false, if_pos hc]
  rfl

theorem laneSlot_whole (h : s.lane.en = true) : s.laneSlot 48 frame cyc =
    (acksSent s).modLane (frameTaken (parseFrame frame) (frameDue s cyc)) := by
  simp only [State.laneSlot, h, Bool.not_true, Bool.false_eq_true, if_false, ne_eq, not_true_eq_false, frameDue_eq]
  rfl

end Slot

/-! ### What a slot of 48 clocks changes (R108, R110, R116) -/

section Taken
variable (l : Lane) (f : LaneFrame) (due : Beat)

theorem frameErred_count (h : l.frameErr ≠ 0xFFFF#16) : (frameErred l).frameErr = l.frameErr + 1 := if_neg h

/-- A good NOP is the one frame that is an input of no beat. -/
theorem frameTaken_inputs : (frameTaken f due l).inputs =
    l.inputs ++ if f.chan = 0xFF ∧ f.crcOk = true then [] else [(due, f)] := by
  unfold frameTaken
  split
  · exact (List.append_nil _).symm
  · rfl

/-- A good CRC counts in the frame count alone. -/
theorem frameTaken_good (h : f.crcOk = true) :
    (frameTaken f due l).frames = l.frames + 1 ∧ (frameTaken f due l).crcErr = l.crcErr := by
  simp [frameTaken, h]

/-- A bad CRC counts in the CRC count alone, up to its top. -/
theorem frameTaken_bad (h : f.crcOk = false) :
    (frameTaken f due l).frames = l.frames ∧ (frameTaken f due l).crcSeen = true ∧
      (l.crcErr ≠ 0xFFFF#16 → (frameTaken f due l).crcErr = l.crcErr + 1) := by
  refine ⟨?_, ?_, fun hc => ?_⟩
  · simp [frameTaken, h]
  · simp [frameTaken, h]
  · simp [frameTaken, h, hc]

end Taken

section Acks
variable (s : State)

@[simp] theorem acksSent_lane : (acksSent s).lane = s.lane := rfl

theorem frame_acksSent : Frame s (acksSent s) [] := frame_trans (frame_send s _) (frame_send _ _)

theorem acksSent_oldest : .laneWord (s.lane.queue.headD 0) ∈ (acksSent s).outbox := by
  simp [acksSent]

theorem acksSent_second : .laneWord ((s.lane.queue.drop 1).headD 0) ∈ (acksSent s).outbox :=
  List.mem_append_right _ (List.mem_singleton_self _)

end Acks

/-! ### The statement -/

/-- Settles O14: a slot is one of three effects, by the lane's enable and the slot's length. -/
theorem laneSlotTakesAFrame : Obligations.LaneSlotTakesAFrame := by
  unfold Obligations.LaneSlotTakesAFrame
  intro s clocks cyc frame
  simp only [exec_laneSlot]
  refine ⟨fun hen => ?whole, fun hen hclk htop => ?wrongLength, fun hen => ?off⟩
  case whole =>
    rw [laneSlot_whole s frame cyc hen]
    refine next_done ?_
    rw [settle_lane, modLane_lane, acksSent_lane]
    exact ⟨frameTaken_inputs s.lane _ _, rfl, rfl, frameTaken_good s.lane _ _, frameTaken_bad s.lane _ _,
      mem_outbox_settle (acksSent_oldest s), mem_outbox_settle (acksSent_second s),
      frame_settle (frame_trans (frame_acksSent s) (frame_modLane _ _))⟩
  case wrongLength =>
    rw [laneSlot_short_or_long s clocks frame cyc hen hclk]
    refine next_done ?_
    rw [settle_lane, modLane_lane]
    exact ⟨frameErred_count s.lane htop, rfl, rfl, rfl, frame_settle (frame_modLane s _)⟩
  case off =>
    rw [laneSlot_off s clocks frame cyc hen]
    exact next_done (frame_settle (frame_refl s []))

end Sys2Proof.Proofs
end

section
/-!
PROOFS. The window monitors (spec/05_window_monitors.md): what a crossing does to its group, to the phase and to the channel
(R157, R164 to R167, R172), the decisions of MOTH (R161), window words (R158), modes (R162) and readback visits (R171, R172).
The rules about the comparators of a position and about single operations come first; the statements are settled last.
-/
namespace Sys2Proof.Proofs
open Sys2Proof.Machine Sys2Proof.Laws

/-! ### One group changed, and what that leaves as it was -/

section GroupElements
variable (s : State)

theorem modGroup_get_same (g : GroupNo) (f : Group → Group) : (s.modGroup g f).groups[g] = f s.groups[g] := by
  simp [modGroup_groups]

theorem modGroup_get_other {g h : GroupNo} (hg : h ≠ g) (f : Group → Group) :
    (s.modGroup g f).groups[h] = s.groups[h] := by
  simp [modGroup_groups, Fin.val_ne_of_ne hg.symm]

theorem frame_modGroup (g : GroupNo) (f : Group → Group) : Frame s (s.modGroup g f) [.groups] := by
  intro p hp
  cases p
  case groups => simp at hp
  all_goals exact rfl

theorem frame_modCmp (n : PhaseNo) (f : Cmp → Cmp) : Frame s (s.modCmp n f) [.groups] := frame_modGroup s _ _

theorem frame_modFlt (f : Faults → Faults) : Frame s (s.modFlt f) [.flt] := by
  intro p hp
  cases p
  case flt => simp at hp
  all_goals exact rfl

theorem frame_event (k : Kind) (n t : Nat) (d : List Byte) : Frame s (s.event k n t d) [.host] := by
  intro p hp
  cases p
  case host => simp at hp
  all_goals exact rfl

/-- A pulse changes the source's pending bit alone, which counts to no part. -/
theorem frame_groupIrq (g : GroupNo) : Frame s (s.groupIrq g) [] := by
  intro p _
  cases p <;> exact rfl

end GroupElements

/-! ### The comparators of a position (R154, R157) -/

section Comparators
variable (s : State) (n : PhaseNo)

theorem cmpOf_eq : s.cmpOf n = (s.groups[groupOf n]).cmp[posOf n.val] := rfl

theorem cmpOf_congr {s t : State} (h : t.groups = s.groups) : t.cmpOf n = s.cmpOf n := by
  rw [cmpOf_eq, cmpOf_eq, h]

@[simp] theorem cmpOf_settle : (settle s).cmpOf n = s.cmpOf n := cmpOf_congr n (settle_groups s)

/-- Two positions of one group differ in their place. -/
theorem posOf_ne {n m : PhaseNo} (h : m ≠ n) (hg : groupOf m = groupOf n) : posOf m.val ≠ posOf n.val := by
  intro hp
  have hq : m.val / 16 = n.val / 16 := congrArg Fin.val hg
  have hr : m.val % 16 = n.val % 16 := congrArg Fin.val hp
  exact h (Fin.ext (by omega))

theorem cmpOf_modCmp_same (f : Cmp → Cmp) : (s.modCmp n f).cmpOf n = f (s.cmpOf n) := by
  rw [cmpOf_eq, State.modCmp, modGroup_get_same]
  exact Vector.getElem_set_self (posOf n.val).isLt

theorem cmpOf_modCmp_other {m : PhaseNo} (h : m ≠ n) (f : Cmp → Cmp) : (s.modCmp n f).cmpOf m = s.cmpOf m := by
  rw [cmpOf_eq, cmpOf_eq, State.modCmp]
  by_cases hg : groupOf m = groupOf n
  · have hp : (posOf n.val).val ≠ (posOf m.val).val := Fin.val_ne_of_ne (posOf_ne h hg).symm
    simp [hg, hp]
  · rw [modGroup_get_other s hg]

theorem modCmp_get_other {h : GroupNo} (hg : h ≠ groupOf n) (f : Cmp → Cmp) :
    (s.modCmp n f).groups[h] = s.groups[h] := modGroup_get_other s hg _

variable (c : Cmp) (w : Win) (high v : Bool)

@[simp] theorem cmpGet_put_same : (c.put w high v).get w high = v := by
  cases w <;> cases high <;> rfl

@[simp] theorem cmpGet_put_opposite : (c.put w high v).get w (!high) = c.get w (!high) := by
  cases w <;> cases high <;> rfl

@[simp] theorem inWin_put (u : Win) : (c.put w high v).inWin u = c.inWin u := by
  cases w <;> cases high <;> rfl

@[simp] theorem modeV_put : (c.put w high v).modeV = c.modeV := by
  cases w <;> cases high <;> rfl

@[simp] theorem cmpGet_setIn (u : Win) : (c.setIn w v).get u high = c.get u high := by
  cases w <;> rfl

@[simp] theorem inWin_setIn_same : (c.setIn w v).inWin w = v := by
  cases w <;> rfl

@[simp] theorem modeV_setIn : (c.setIn w v).modeV = c.modeV := by
  cases w <;> rfl

theorem moth_vtrip : c.moth .vtrip = (c.modeV == 3) := rfl

end Comparators

/-! ### What stays far from a latch and from a window's action (R90, R164) -/

section Latches
variable (s : State)

theorem groups_of_far {s t : State} (h : far t = far s) : t.groups = s.groups := congrArg (·.2.1) h

theorem store_of_far {s t : State} (h : far t = far s) : t.store = s.store := congrArg (·.2.2.2.2.2.1) h

@[simp] theorem clearLost_far (n : ChanNo) : far (s.clearLost n) = far s := by
  unfold State.clearLost
  exact ite_keep far _ rfl (forEach_far _ _ _ fun _ _ => rfl)

@[simp] theorem latchChannel_far (n : ChanNo) : far (s.latchChannel n) = far s := by
  simp [State.latchChannel, apply_ite far]

/-- The latch of R90: the event of a phase not yet latched, then that phase latches, alone or with its whole channel. -/
theorem overCurrent_cases (p : PhaseNo) (high : Bool) : ∃ u : State, far u = far s ∧
    ((∃ l n, s.overCurrent p high = (forEach l (u.modPhase p fun x => x.latch true high (!high)) fun s q =>
        s.modPhase q fun x => x.latch true false false).latchChannel n) ∨
      (∃ n f, s.overCurrent p high = (u.modPhase p fun x => x.latch false high (!high)).modChan n f) ∨
      s.overCurrent p high = u.modPhase p fun x => x.latch (bit x.run.cfg 16) high (!high)) := by
  unfold State.overCurrent
  generalize hu : (if s.phases[p].latched then s else s.event .phase p.val 5 [if high then 0 else 1]) = u
  refine ⟨u, hu ▸ ite_keep far _ rfl rfl, ?_⟩
  dsimp only
  split
  · split
    · exact .inl ⟨_, _, rfl⟩
    · exact .inr (.inl ⟨_, _, rfl⟩)
  · exact .inr (.inr rfl)

@[simp] theorem overCurrent_far (p : PhaseNo) (high : Bool) : far (s.overCurrent p high) = far s := by
  obtain ⟨u, hu, ⟨l, n, h⟩ | ⟨n, f, h⟩ | h⟩ := overCurrent_cases s p high
  · rw [h, latchChannel_far, forEach_far l _ _ fun _ q => modPhase_far _ q _, modPhase_far, hu]
  · rw [h, modChan_far, modPhase_far, hu]
  · rw [h, modPhase_far, hu]

end Latches

/-! ### A latched phase stays latched, its gates low (R90) -/

section Held

/-- A phase whose over-current latch holds: latched, both gates low. -/
def Held (x : Phase) : Prop := x.latched = true ∧ x.gh = false ∧ x.gl = false

theorem held_gatesLow {x : Phase} (h : Held x) : Held x.gatesLow := ⟨h.1, rfl, rfl⟩

theorem held_latch (x : Phase) (channel hi lo : Bool) : Held (x.latch channel hi lo) := ⟨rfl, rfl, rfl⟩

variable {s : State} {n : PhaseNo}

/-- A change of any phase that keeps a latched one latched keeps phase `n` latched. -/
theorem modPhase_held (q : PhaseNo) {f : Phase → Phase} (hf : ∀ x, Held x → Held (f x)) (h : Held s.phases[n]) :
    Held (s.modPhase q f).phases[n] := by
  by_cases hq : n = q
  · subst hq
    rw [modPhase_get_same]
    exact hf _ h
  · rw [modPhase_get_other s hq]
    exact h

theorem forEach_modPhase_held (l : List PhaseNo) {f : Phase → Phase} (hf : ∀ x, Held x → Held (f x))
    (h : Held s.phases[n]) : Held (forEach l s fun s q => s.modPhase q f).phases[n] :=
  forEach_holds (fun s => Held s.phases[n]) l _ (fun _ q => modPhase_held q hf) s h

@[simp] theorem interrupt_phases (s : State) (m : ChanNo) (r : Reason) (b : Bool) (l : Beat) :
    (s.interrupt m r b l).phases = s.phases := by
  unfold State.interrupt
  exact ite_keep State.phases _ (ite_keep State.phases _ rfl rfl) rfl

/-- A trip acts on the phases of a channel that is configured and not in OFF, and only by driving them low. -/
theorem trip_phases (s : State) (m : ChanNo) (c : TripCause) : (s.trip m c).phases =
    if !s.isRun m || s.chans[m].state == .off then s.phases else (s.lowAll (s.phasesOf m)).phases := by
  simp only [State.trip, apply_ite State.phases, modChan_phases, interrupt_phases]

theorem lowAll_held (l : List PhaseNo) (h : Held s.phases[n]) : Held (s.lowAll l).phases[n] :=
  forEach_modPhase_held l (fun _ => held_gatesLow) h

theorem trip_held (m : ChanNo) (c : TripCause) (h : Held s.phases[n]) : Held (s.trip m c).phases[n] := by
  rw [trip_phases]
  split
  · exact h
  · exact lowAll_held _ h

theorem clearLost_held (m : ChanNo) (h : Held s.phases[n]) : Held (s.clearLost m).phases[n] := by
  have refused : Held (s.modPhase m fun x => { x with clrRefused := true }).phases[n] := modPhase_held m (fun _ hx => hx) h
  unfold State.clearLost
  split
  · exact h
  · exact forEach_modPhase_held _ (fun x hx => ⟨rfl, hx.2⟩) refused

theorem latchChannel_phases (s : State) (m : ChanNo) : (s.latchChannel m).phases =
    if !s.isRun m || s.chans[m].state == .off then s.phases
    else ((s.clearLost m).lowAll ((s.clearLost m).phasesOf m)).phases := by
  simp only [State.latchChannel, apply_ite State.phases, modChan_phases, interrupt_phases]

theorem latchChannel_held (m : ChanNo) (h : Held s.phases[n]) : Held (s.latchChannel m).phases[n] := by
  rw [latchChannel_phases]
  split
  · exact h
  · exact lowAll_held _ (clearLost_held m h)

/-- The over-current latch of R90 holds the phase that crossed. -/
theorem overCurrent_holds (s : State) (n : PhaseNo) (high : Bool) : Held (s.overCurrent n high).phases[n] := by
  have latched (u : State) (channel : Phase → Bool) :
      Held (u.modPhase n fun x => x.latch (channel x) high (!high)).phases[n] := by
    rw [modPhase_get_same]
    exact held_latch _ _ _ _
  obtain ⟨u, -, ⟨l, m, h⟩ | ⟨m, f, h⟩ | h⟩ := overCurrent_cases s n high
  · rw [h]
    exact latchChannel_held m (forEach_modPhase_held l (fun x _ => held_latch x _ _ _) (latched u _))
  · rw [h, modChan_phases]
    exact latched u fun _ => false
  · rw [h]
    exact latched u fun x => bit x.run.cfg 16

/-- No action of a window releases a latched phase or drives it. -/
theorem winAct_held (p : PhaseNo) (w : Win) (action : Nat) (h : Held s.phases[n]) :
    Held (s.winAct p w action).phases[n] := by
  unfold State.winAct
  split
  · split
    · exact trip_held _ _ h
    · exact h
  · split
    · split
      · exact h
      · exact latchChannel_held _ h
    · exact h
  · exact forEach_holds (fun s => Held s.phases[n]) _ _ (fun _ m => trip_held m _) _
      (lowAll_held _ h)
  · exact h

end Held

/-! ### What a crossing does to its group (R157, R167, R170) -/

section CrossedGroup
variable (p : PhaseNo) (w : Win) (high : Bool) (g : Group)

/-- A group in which a window of position `p` goes into crossing by an edge. -/
def openedGroup : Group :=
  let x := g.stick (posOf p.val) w high
  { x with cmp := x.cmp.set (posOf p.val) (x.cmp[posOf p.val].setIn w true) }

/-- A group held in a group trip by a window of position `p` (R170). -/
def groupTripped : Group :=
  { g with gtHold := if g.gtHold.contains (p.val % 16, w) then g.gtHold else g.gtHold ++ [(p.val % 16, w)]
           gtWin := w.code, gtPos := p.val % 16 }

/-- A group after an edge of a window of position `p`: the sticky bit, and of a window that was not in crossing its crossing
and the group trip of action 3. -/
def crossedGroup : Group :=
  if g.cmp[posOf p.val].inWin w then g.stick (posOf p.val) w high
  else if g.action (posOf p.val) w = 3 then groupTripped p w (openedGroup p w high g)
  else openedGroup p w high g

@[simp] theorem stick_cmp (q : Fin 16) : (g.stick q w high).cmp = g.cmp := by
  cases w <;> rfl

theorem openedGroup_cmp :
    (openedGroup p w high g).cmp = g.cmp.set (posOf p.val) (g.cmp[posOf p.val].setIn w true) := by
  cases w <;> rfl

/-- The comparators of the position, of whose window an edge opens the crossing and changes nothing else. -/
theorem crossedGroup_cmp : (crossedGroup p w high g).cmp[posOf p.val] =
    if g.cmp[posOf p.val].inWin w then g.cmp[posOf p.val] else g.cmp[posOf p.val].setIn w true := by
  have hopen : (openedGroup p w high g).cmp[posOf p.val] = g.cmp[posOf p.val].setIn w true := by
    simp [openedGroup_cmp]
  unfold crossedGroup
  split
  · simp
  · split
    · exact hopen
    · exact hopen

/-- What an edge does not touch: the DAC a readback visit reads next and the mismatch bits (R171, R172). -/
def readbackMarks (voltage : Bool) (g : Group) : Nat × BitVec 32 :=
  (if voltage then g.rbNextV else g.rbNextI, g.rbBad voltage)

@[simp] theorem crossedGroup_readbackMarks (voltage : Bool) :
    readbackMarks voltage (crossedGroup p w high g) = readbackMarks voltage g := by
  have hstick : readbackMarks voltage (g.stick (posOf p.val) w high) = readbackMarks voltage g := by cases w <;> rfl
  have hopen : readbackMarks voltage (openedGroup p w high g) = readbackMarks voltage g := hstick
  unfold crossedGroup
  split
  · exact hstick
  · split
    · exact hopen
    · exact hopen

/-- An edge of the trip window sets its sticky bit (R167). -/
theorem crossedGroup_whitV :
    (crossedGroup p .vtrip high g).whitV.getLsbD (p.val % 16 + if high then 0 else 16) = true := by
  have hstick : (g.stick (posOf p.val) .vtrip high).whitV.getLsbD (p.val % 16 + if high then 0 else 16) = true := by
    have hlt : p.val % 16 + (if high then 0 else 16) < 32 := by split <;> omega
    simp [Group.stick, posOf, hlt]
  unfold crossedGroup
  split
  · exact hstick
  · split
    · exact hstick
    · exact hstick

end CrossedGroup

/-! ### A crossing (R164 to R167, R170) -/

section Crossing
variable (s : State) (p : PhaseNo) (w : Win) (high : Bool)

theorem modGroup_modGroup (g : GroupNo) (f h : Group → Group) :
    (s.modGroup g f).modGroup g h = s.modGroup g fun x => h (f x) := by
  simp [State.modGroup]

/-- A window goes into crossing: its edge, the event and the group's interrupt (R157, R167). -/
def crossEvent : State :=
  let g := groupOf p
  let action := (s.groups[g]).action (posOf p.val) w
  let s := (s.modGroup g fun x => x.stick (posOf p.val) w high).modCmp p fun c => c.setIn w true
  (s.event .group g.val 4 [byte (posOf p.val).val, byte w.code, if high then 0 else 1, byte action]).groupIrq g

/-- With it WINDOW_TRIP for an action of CHANNEL_TRIP or stronger (R167). -/
def crossTold : State :=
  let s' := crossEvent s p w high
  if 1 ≤ (s.groups[groupOf p]).action (posOf p.val) w then s'.raise 19 ((s'.winChan p w).getD p).val 0 false false else s'

/-- Every edge of a current window latches its phase (R164). -/
def edgeLatched : State := if w = .current then s.overCurrent p high else s

/-- An edge of a window in crossing sets its sticky bit, and latches. -/
theorem cross_in_crossing (h : (s.cmpOf p).inWin w = true) :
    s.cross p w high = edgeLatched (s.modGroup (groupOf p) fun g => g.stick (posOf p.val) w high) p w high := by
  simp only [State.cross, edgeLatched, h, if_true]

/-- An edge of a window out of crossing opens it, latches and acts. -/
theorem cross_opens (h : (s.cmpOf p).inWin w = false) : s.cross p w high =
    (edgeLatched (crossTold s p w high) p w high).winAct p w ((s.groups[groupOf p]).action (posOf p.val) w) := by
  simp only [State.cross, edgeLatched, crossTold, crossEvent, h, Bool.false_eq_true, if_false]

@[simp] theorem edgeLatched_far : far (edgeLatched s p w high) = far s :=
  ite_keep far _ (overCurrent_far s p high) rfl

theorem crossEvent_groups : (crossEvent s p w high).groups = (s.modGroup (groupOf p) (openedGroup p w high)).groups := by
  have hopen : (s.modGroup (groupOf p) fun x => x.stick (posOf p.val) w high).modCmp p (fun c => c.setIn w true) =
      s.modGroup (groupOf p) (openedGroup p w high) := modGroup_modGroup s _ _ _
  rw [← hopen]
  rfl

theorem crossTold_groups : (crossTold s p w high).groups = (s.modGroup (groupOf p) (openedGroup p w high)).groups := by
  unfold crossTold
  exact ite_keep State.groups _ ((raise_groups _ 19 _ _ _ _).trans (crossEvent_groups s p w high))
    (crossEvent_groups s p w high)

/-- Of the groups the action of a window changes only its own, and only by a group trip (R170). -/
theorem winAct_groups (action : Nat) : (s.winAct p w action).groups =
    if action = 3 then (s.modGroup (groupOf p) (groupTripped p w)).groups else s.groups := by
  unfold State.winAct
  split
  · split
    · exact groups_of_far (trip_far s _ _)
    · rfl
  · split
    · split
      · rfl
      · exact groups_of_far (latchChannel_far s _)
    · rfl
  · exact groups_of_far ((forEach_far _ _ _ fun u n => trip_far u n _).trans (lowAll_far _ _))
  · rw [if_neg ‹_›]

theorem cross_groups : (s.cross p w high).groups = (s.modGroup (groupOf p) (crossedGroup p w high)).groups := by
  cases h : (s.cmpOf p).inWin w
  case true =>
    rw [cross_in_crossing s p w high h, groups_of_far (edgeLatched_far _ p w high)]
    simp only [modGroup_groups, crossedGroup, ← cmpOf_eq, h, if_true]
  case false =>
    have hopen : (edgeLatched (crossTold s p w high) p w high).groups =
        (s.modGroup (groupOf p) (openedGroup p w high)).groups :=
      (groups_of_far (edgeLatched_far _ p w high)).trans (crossTold_groups s p w high)
    rw [cross_opens s p w high h, winAct_groups]
    simp only [modGroup_groups, crossedGroup, ← cmpOf_eq, h, hopen]
    split <;> simp

theorem cross_get_other {h : GroupNo} (hg : h ≠ groupOf p) : (s.cross p w high).groups[h] = s.groups[h] := by
  rw [cross_groups, modGroup_get_other s hg]

theorem cross_get_same : (s.cross p w high).groups[groupOf p] = crossedGroup p w high s.groups[groupOf p] := by
  rw [cross_groups, modGroup_get_same]

theorem cross_cmpOf : (s.cross p w high).cmpOf p =
    if (s.cmpOf p).inWin w then s.cmpOf p else (s.cmpOf p).setIn w true := by
  rw [cmpOf_eq, cross_get_same, crossedGroup_cmp, ← cmpOf_eq]

/-- Whatever the window's action, an edge of a current window leaves its phase latched (R164). -/
theorem cross_current_held : Held (s.cross p .current high).phases[p] := by
  cases h : (s.cmpOf p).inWin .current
  case true =>
    rw [cross_in_crossing s p .current high h]
    exact overCurrent_holds _ p high
  case false =>
    rw [cross_opens s p .current high h]
    exact winAct_held p _ _ (overCurrent_holds _ p high)

end Crossing

/-! ### Comparators that assert and de-assert (R157) -/

section Edges
variable (s : State) (p : PhaseNo) (w : Win) (high : Bool)

theorem assertCmp_eq (h : (s.cmpOf p).get w high = false) :
    s.assertCmp p w high = (s.modCmp p fun c => c.put w high true).cross p w high := by
  simp [State.assertCmp, h]

/-- The comparators after one has asserted: its level, and the window in crossing. -/
theorem assertCmp_cmpOf (h : (s.cmpOf p).get w high = false) : (s.assertCmp p w high).cmpOf p =
    if (s.cmpOf p).inWin w then (s.cmpOf p).put w high true else ((s.cmpOf p).put w high true).setIn w true := by
  rw [assertCmp_eq s p w high h, cross_cmpOf, cmpOf_modCmp_same, inWin_put]

/-- The comparators after one has de-asserted and the crossing has ended with it or goes on. -/
theorem endCross_cmpOf : (s.endCross p w).cmpOf p =
    if !(s.cmpOf p).inWin w || s.winAsserted p w then s.cmpOf p else (s.cmpOf p).setIn w false := by
  unfold State.endCross
  split
  · rfl
  · rw [cmpOf_eq, modGroup_get_same]
    exact cmpOf_modCmp_same s p _

@[simp] theorem endCross_phases : (s.endCross p w).phases = s.phases := by
  unfold State.endCross
  split <;> rfl

theorem endCross_get_other {h : GroupNo} (hg : h ≠ groupOf p) : (s.endCross p w).groups[h] = s.groups[h] := by
  unfold State.endCross
  split
  · rfl
  · rw [modGroup_get_other _ hg, modCmp_get_other s p hg]

theorem frame_endCross : Frame s (s.endCross p w) [.groups] := by
  unfold State.endCross
  split
  · exact frame_refl s _
  · exact frame_mono (frame_trans (frame_modCmp s p _) (frame_modGroup _ _ _)) (by decide)

theorem endCross_readbackMarks (voltage : Bool) (g : GroupNo) :
    readbackMarks voltage ((s.endCross p w).groups[g]) = readbackMarks voltage s.groups[g] := by
  by_cases hg : g = groupOf p
  · subst hg
    unfold State.endCross
    split
    · rfl
    · simp only [modGroup_get_same, State.modCmp]
      rfl
  · rw [endCross_get_other s p w hg]

theorem cross_readbackMarks (voltage : Bool) (g : GroupNo) :
    readbackMarks voltage ((s.cross p w high).groups[g]) = readbackMarks voltage s.groups[g] := by
  by_cases hg : g = groupOf p
  · subst hg
    rw [cross_get_same, crossedGroup_readbackMarks]
  · rw [cross_get_other s p w high hg]

/-- A comparator of the window is asserted, or a DAC of it FAILED (R157, R172). -/
theorem winAsserted_eq : s.winAsserted p w =
    ((s.cmpOf p).get w high || (s.cmpOf p).get w (!high) ||
      (s.groups[groupOf p]).dacBad (posOf p.val) w true || (s.groups[groupOf p]).dacBad (posOf p.val) w false) := by
  cases high
  · rw [Bool.or_comm ((s.cmpOf p).get w false)]
    rfl
  · rfl

theorem frame_deassertCmp : Frame s (s.deassertCmp p w high) [.groups] :=
  frame_mono (frame_trans (frame_modCmp s p _) (frame_endCross _ p w)) (by decide)

theorem deassertCmp_get_other {h : GroupNo} (hg : h ≠ groupOf p) :
    (s.deassertCmp p w high).groups[h] = s.groups[h] :=
  (endCross_get_other _ p w hg).trans (modCmp_get_other s p hg _)

/-- De-asserting changes of the comparators its own level and the crossing, and no mode. -/
theorem deassertCmp_get : ((s.deassertCmp p w high).cmpOf p).get w high = false ∧
    ((s.deassertCmp p w high).cmpOf p).get w (!high) = (s.cmpOf p).get w (!high) ∧
    ((s.deassertCmp p w high).cmpOf p).modeV = (s.cmpOf p).modeV := by
  unfold State.deassertCmp
  rw [endCross_cmpOf, cmpOf_modCmp_same]
  split <;> simp

/-- Asserting changes of the comparators its own level and the crossing, and no mode. -/
theorem assertCmp_get (h : (s.cmpOf p).get w high = false) : ((s.assertCmp p w high).cmpOf p).get w high = true ∧
    ((s.assertCmp p w high).cmpOf p).get w (!high) = (s.cmpOf p).get w (!high) ∧
    ((s.assertCmp p w high).cmpOf p).modeV = (s.cmpOf p).modeV := by
  rw [assertCmp_cmpOf s p w high h]
  split <;> simp

/-- The last comparator of a window without FAILED DAC ends the crossing (R157). -/
theorem deassertCmp_ends (ho : (s.cmpOf p).get w (!high) = false)
    (ht : (s.groups[groupOf p]).dacBad (posOf p.val) w true = false)
    (hf : (s.groups[groupOf p]).dacBad (posOf p.val) w false = false) :
    ((s.deassertCmp p w high).cmpOf p).inWin w = false := by
  have hdac (b : Bool) : ((s.modCmp p fun c => c.put w high false).groups[groupOf p]).dacBad (posOf p.val) w b =
      (s.groups[groupOf p]).dacBad (posOf p.val) w b := by
    rw [State.modCmp, modGroup_get_same]
    rfl
  have hquiet : (s.modCmp p fun c => c.put w high false).winAsserted p w = false := by
    rw [winAsserted_eq _ p w high, cmpOf_modCmp_same, hdac, hdac, cmpGet_put_same, cmpGet_put_opposite, ho, ht, hf]
    rfl
  unfold State.deassertCmp
  rw [endCross_cmpOf, hquiet, cmpOf_modCmp_same, Bool.or_false]
  split
  · simpa using ‹(!((s.cmpOf p).put w high false).inWin w) = true›
  · exact inWin_setIn_same _ w false

/-- While the window's other comparator is asserted the crossing goes on (R157). -/
theorem deassertCmp_goes_on (ho : (s.cmpOf p).get w (!high) = true) :
    ((s.deassertCmp p w high).cmpOf p).inWin w = (s.cmpOf p).inWin w := by
  have hloud : (s.modCmp p fun c => c.put w high false).winAsserted p w = true := by
    rw [winAsserted_eq _ p w high, cmpOf_modCmp_same, cmpGet_put_opposite, ho]
    simp
  unfold State.deassertCmp
  rw [endCross_cmpOf, hloud, cmpOf_modCmp_same, Bool.or_true, if_pos rfl, inWin_put]

end Edges

/-! ### A raise at severity S1 or below acts on no channel (R451, R452) -/

section QuietRaise
variable (s : State)

/-- What a power stage is driven by: the phases and the channels. -/
def stages (s : State) : Vector Phase 160 × Vector Chan 160 := (s.phases, s.chans)

theorem wbStop_stages (c : Nat) : stages (s.wbStop c) = stages s := by
  unfold State.wbStop
  exact ite_keep stages _ rfl rfl

theorem latchFirst_stages (r : FirstFault) : stages (s.latchFirst r) = stages s := by
  unfold State.latchFirst
  split <;> rfl

theorem faultAct_stages (k : Fin 128) {sev : Nat} (h : sev ≤ 1) (subj : Nat) (d : Word) (i : Bool) :
    stages (s.faultAct k sev subj d i) = stages s := by
  unfold State.faultAct
  simp only [if_neg (show ¬2 ≤ sev by omega), if_neg (show ¬sev = 4 by omega), if_neg (show ¬sev = 5 by omega)]
  refine (ite_keep stages _ (wbStop_stages _ _) rfl).trans (ite_keep stages _ ?_ rfl)
  exact latchFirst_stages _ _

theorem raise_stages (k : Fin 128) (subj : Nat) (d : Word) (l : Bool) (h : s.flt.sevOf k ≤ 1) :
    stages (s.raise k subj d l false) = stages s := by
  unfold State.raise
  dsimp only
  refine ite_keep stages _ rfl ?_
  rw [if_neg Bool.false_ne_true]
  exact (faultAct_stages _ k h _ _ _).trans (ite_keep stages _ rfl rfl)

end QuietRaise

/-! ### The action of a voltage window (R154, R164) -/

section TripAction
variable (s : State) (n : PhaseNo)

theorem isRun_congr {s t : State} (h : t.phases = s.phases) (n : ChanNo) : t.isRun n = s.isRun n := by
  rw [State.isRun, State.gang, h, State.isRun, State.gang]

theorem phasesOf_congr {s t : State} (h : t.phases = s.phases) (n : ChanNo) : t.phasesOf n = s.phasesOf n := by
  rw [State.phasesOf, State.gang, h, State.phasesOf, State.gang]

theorem lowAll_low (l : List PhaseNo) {p : PhaseNo} (h : p ∈ l) :
    ((s.lowAll l).phases[p]).gh = false ∧ ((s.lowAll l).phases[p]).gl = false := by
  refine forEach_reach (fun s => (s.phases[p]).gh = false ∧ (s.phases[p]).gl = false) l _ (fun u q hu => ?_) p h
    (fun u => ?_) s
  · by_cases hq : p = q
    · rw [← hq, modPhase_get_same]
      exact ⟨rfl, rfl⟩
    · rw [modPhase_get_other u hq]
      exact hu
  · rw [modPhase_get_same]
    exact ⟨rfl, rfl⟩

/-- A trip of a channel that is configured and not in OFF keeps its cause and drives the channel's gates low (R201). -/
theorem trip_acts (c : TripCause) (hr : s.isRun n = true) (ho : s.chans[n].state ≠ .off) :
    c ∈ ((s.trip n c).chans[n]).trips ∧
      ∀ p ∈ s.phasesOf n, ((s.trip n c).phases[p]).gh = false ∧ ((s.trip n c).phases[p]).gl = false := by
  have hon : (!s.isRun n || s.chans[n].state == .off) = false := by
    rw [hr, beq_eq_false_iff_ne.mpr ho]
    rfl
  constructor
  · simp only [State.trip, hon, Bool.false_eq_true, if_false, modChan_get_same]
    split
    · exact List.contains_iff_mem.mp ‹_›
    · simp
  · intro p hp
    rw [trip_phases, hon, if_neg Bool.false_ne_true]
    exact lowAll_low s _ hp

theorem winAct_none (p : PhaseNo) (w : Win) : s.winAct p w 0 = s := rfl

/-- CHANNEL_TRIP of a voltage window trips the channel whose base phase the position is for (R154, R164). -/
theorem winAct_trip (hr : s.isRun n = true) : s.winAct n .vtrip 1 = s.trip n (.window n .vtrip) := by
  simp [State.winAct, State.winChan, hr]

theorem crossTold_stages (p : PhaseNo) (w : Win) (high : Bool) (h : s.flt.sevOf 19 ≤ 1) :
    stages (crossTold s p w high) = stages s := by
  have hsev : (crossEvent s p w high).flt.sevOf 19 ≤ 1 := h
  unfold crossTold
  exact ite_keep stages _ (raise_stages _ 19 _ _ _ hsev) rfl

theorem crossTold_store (p : PhaseNo) (w : Win) (high : Bool) : (crossTold s p w high).store = s.store := by
  unfold crossTold
  exact ite_keep State.store _ (raise_store _ 19 _ _ _ _) rfl

/-- A window without action tells of its crossing and changes the group alone. -/
theorem frame_crossTold (p : PhaseNo) (w : Win) (high : Bool) (h : (s.groups[groupOf p]).action (posOf p.val) w = 0) :
    Frame s (crossTold s p w high) [.groups, .host] := by
  have hevent : crossTold s p w high = crossEvent s p w high := by
    unfold crossTold
    exact if_neg (by omega)
  rw [hevent]
  have hgroup := frame_trans (frame_modGroup s (groupOf p) fun x => x.stick (posOf p.val) w high)
    (frame_modCmp _ p fun c => c.setIn w true)
  exact frame_mono (frame_trans (frame_trans hgroup (frame_event _ _ _ _ _)) (frame_groupIrq _ (groupOf p))) (by decide)

theorem modCmp_action (f : Cmp → Cmp) (q : Fin 16) (w : Win) :
    ((s.modCmp n f).groups[groupOf n]).action q w = (s.groups[groupOf n]).action q w := by
  rw [State.modCmp, modGroup_get_same]
  cases w <;> rfl

end TripAction

/-! ### A voltage trip crossing (R164 to R167) -/

section VoltageTrip
variable (s : State) (n : PhaseNo) (high : Bool)

theorem exec_voltageTripCrossing : exec (.voltageTripCrossing n high) s =
    done (if (s.cmpOf n).moth .vtrip || !s.isRun n then s else s.assertCmp n .vtrip high) := rfl

/-- The trip window of a position is in crossing by a comparator, with its sticky bit. -/
def TripOpened (t : State) : Prop := (t.cmpOf n).get .vtrip high = true ∧ (t.cmpOf n).inV = true ∧
  (t.groups[groupOf n]).whitV.getLsbD (n.val % 16 + if high then 0 else 16) = true

theorem tripOpened_settle {t : State} (h : TripOpened n high t) : TripOpened n high (settle t) := by
  unfold TripOpened
  rw [cmpOf_settle, settle_groups]
  exact h

/-- The state in which the crossing of `n` opens: the comparator asserted. -/
def tripAsserted : State := s.modCmp n fun c => c.put .vtrip high true

variable (hg : (s.cmpOf n).get .vtrip high = false) (hi : (s.cmpOf n).inV = false)
include hg hi

theorem assertCmp_tripOpened : TripOpened n high (s.assertCmp n .vtrip high) := by
  have hopen : (s.assertCmp n .vtrip high).cmpOf n = ((s.cmpOf n).put .vtrip high true).setIn .vtrip true := by
    rw [assertCmp_cmpOf s n .vtrip high hg]
    exact if_neg (ne_true_of_eq_false hi)
  refine ⟨(assertCmp_get s n .vtrip high hg).1, hopen ▸ rfl, ?_⟩
  rw [assertCmp_eq s n .vtrip high hg, cross_get_same]
  exact crossedGroup_whitV n high _

/-- The crossing that opens, by the window's action. -/
theorem assertCmp_trip : s.assertCmp n .vtrip high =
    (crossTold (tripAsserted s n high) n .vtrip high).winAct n .vtrip
      ((s.groups[groupOf n]).action (posOf n.val) .vtrip) := by
  have hout : ((tripAsserted s n high).cmpOf n).inWin .vtrip = false := by
    rw [tripAsserted, cmpOf_modCmp_same, inWin_put]
    exact hi
  have hact := modCmp_action s n (fun c => c.put .vtrip high true) (posOf n.val) .vtrip
  rw [assertCmp_eq s n .vtrip high hg, ← hact]
  exact cross_opens _ n .vtrip high hout

theorem frame_assertCmp_trip (ha : (s.groups[groupOf n]).action (posOf n.val) .vtrip = 0) :
    Frame s (s.assertCmp n .vtrip high) [.groups, .host] := by
  have hact := (modCmp_action s n (fun c => c.put .vtrip high true) (posOf n.val) .vtrip).trans ha
  rw [assertCmp_trip s n high hg hi, ha, winAct_none]
  exact frame_mono (frame_trans (frame_modCmp s n _) (frame_crossTold _ n .vtrip high hact)) (by decide)

theorem assertCmp_trips (ha : (s.groups[groupOf n]).action (posOf n.val) .vtrip = 1) (hs : s.flt.sevOf 19 ≤ 1)
    (hr : s.isRun n = true) (ho : s.chans[n].state ≠ .off) :
    .window n .vtrip ∈ ((s.assertCmp n .vtrip high).chans[n]).trips ∧
      (∀ p ∈ s.phasesOf n, ((s.assertCmp n .vtrip high).phases[p]).gh = false ∧
        ((s.assertCmp n .vtrip high).phases[p]).gl = false) ∧ (s.assertCmp n .vtrip high).store = s.store := by
  have hst : stages (crossTold (tripAsserted s n high) n .vtrip high) = stages s :=
    crossTold_stages (tripAsserted s n high) n .vtrip high hs
  have hph : (crossTold (tripAsserted s n high) n .vtrip high).phases = s.phases := congrArg Prod.fst hst
  have hch : (crossTold (tripAsserted s n high) n .vtrip high).chans = s.chans := congrArg Prod.snd hst
  have hrun := (isRun_congr hph n).trans hr
  rw [assertCmp_trip s n high hg hi, ha, winAct_trip _ n hrun, ← phasesOf_congr hph]
  have htrip := trip_acts (crossTold (tripAsserted s n high) n .vtrip high) n (.window n .vtrip) hrun (by rw [hch]; exact ho)
  exact ⟨htrip.1, htrip.2, (store_of_far (trip_far _ n _)).trans (crossTold_store _ n .vtrip high)⟩

end VoltageTrip

/-! ### Decisions of MOTH (R161) -/

section Moth
variable (s : State) (n : PhaseNo) (shunt cell : Int)

theorem exec_mothDecision : exec (.mothDecision n shunt cell) s = done (s.mothDecide n shunt cell) := rfl

/-- The beat of the position's decisions. -/
def MothDue : Prop := s.beat.running = true ∧
  (s.beat.number.toNat + n.val % 16) % mothN (s.groups[groupOf n]).wcfg[posOf n.val] = 0

theorem mothDecide_early (h : ¬MothDue s n) : s.mothDecide n shunt cell = s := by
  have hb : (!s.beat.running || (s.beat.number.toNat + n.val % 16) % mothN (s.groups[groupOf n]).wcfg[posOf n.val] != 0) =
      true := by
    by_cases hr : s.beat.running = true
    · simpa [hr] using fun hm => h ⟨hr, hm⟩
    · simp [hr]
  exact if_pos hb

/-- The decisions of a position with its current window alone in MOTH. -/
theorem mothDecide_current (h : MothDue s n) (hm : (s.cmpOf n).moth .current = true)
    (hv : (((s.decide1 n .current true false shunt 1).decide1 n .current false false shunt 1).cmpOf n).moth .vtrip = false) :
    s.mothDecide n shunt cell = (s.decide1 n .current true false shunt 1).decide1 n .current false false shunt 1 := by
  obtain ⟨hr, hn⟩ := h
  simp only [State.mothDecide, hr, hn, hm, hv, Bool.not_true, bne_self_eq_false, Bool.or_self, Bool.false_eq_true,
    if_false, if_true, Bool.false_and]

/-- The phase of `n` is latched by its upper comparator, and the mode of its voltage comparators is `mode`. -/
def HighLatched (mode : Nat) (t : State) : Prop :=
  (t.cmpOf n).hi = true ∧ (t.cmpOf n).modeV = mode ∧ Held t.phases[n]

/-- A level beyond the upper threshold latches the phase (R164). -/
theorem decide1_above (h : (s.cmpOf n).hi = false)
    (hx : winLevel .current (winCodes .current (s.groups[groupOf n]).iwin[posOf n.val]).1 < shunt) :
    HighLatched n (s.cmpOf n).modeV (s.decide1 n .current true false shunt 1) := by
  have hassert : s.decide1 n .current true false shunt 1 = s.assertCmp n .current true := by
    unfold State.decide1
    simp [Cmp.get, Group.winWord, h, hx, -Fin.getElem_fin]
  obtain ⟨hget, -, hmode⟩ := assertCmp_get s n .current true h
  rw [hassert]
  refine ⟨hget, hmode, ?_⟩
  rw [assertCmp_eq s n .current true h]
  exact cross_current_held _ n true

/-- A decision by value asserts a comparator that is not asserted, de-asserts one, or leaves it (R157). -/
theorem decide1_cases (w : Win) (high inclusive : Bool) (sum cnt : Int) :
    ((s.cmpOf n).get w high = false ∧ s.decide1 n w high inclusive sum cnt = s.assertCmp n w high) ∨
      s.decide1 n w high inclusive sum cnt = s.deassertCmp n w high ∨ s.decide1 n w high inclusive sum cnt = s := by
  unfold State.decide1
  dsimp only
  generalize (if high then decide (_ < sum) else _) = beyond
  generalize (if high then (_ || _) else _) = inside
  split
  · have hoff := (Bool.and_eq_true_iff.mp ‹_›).1
    exact .inl ⟨by simpa using hoff, rfl⟩
  · split
    · exact .inr (.inl rfl)
    · exact .inr (.inr rfl)

/-- The decision on the lower comparator leaves a phase that the upper one has latched. -/
theorem decide1_low_keeps {mode : Nat} (h : HighLatched n mode s) :
    HighLatched n mode (s.decide1 n .current false false shunt 1) := by
  obtain ⟨hhi, hmode, hheld⟩ := h
  obtain ⟨hlo, hd⟩ | hd | hd := decide1_cases s n .current false false shunt 1 <;> rw [hd]
  · obtain ⟨-, hother, hmode'⟩ := assertCmp_get s n .current false hlo
    refine ⟨hother.trans hhi, hmode'.trans hmode, ?_⟩
    rw [assertCmp_eq s n .current false hlo]
    exact cross_current_held _ n false
  · obtain ⟨-, hother, hmode'⟩ := deassertCmp_get s n .current false
    refine ⟨hother.trans hhi, hmode'.trans hmode, ?_⟩
    rw [State.deassertCmp, endCross_phases]
    exact hheld
  · exact ⟨hhi, hmode, hheld⟩

end Moth

/-! ### Holds (R168) and the ends of crossings (R157) -/

section Ends
variable (s : State) (n : PhaseNo)

theorem exec_windowCrossingEnd (voltage high : Bool) : exec (.windowCrossingEnd n voltage high) s =
    done (if (s.cmpOf n).moth (if voltage then .vtrip else .current) then s
      else s.deassertCmp n (if voltage then .vtrip else .current) high) := rfl

theorem exec_tripHoldExpiry (w : Fin 3) : exec (.tripHoldExpiry n w) s =
    done (if (s.cmpOf n).inWin (winOf w) then s else s.modCmp n fun c => c.setHold (winOf w)) := rfl

/-- A command that leaves the state as it is changes no part. -/
theorem frame_done_self : ∃ t, done s = .next t ∧ Frame s t [] := next_done (frame_settle (frame_refl s []))

end Ends

/-! ### Window words (R158) -/

section Words
variable (s : State) (n : PhaseNo) (w : Win)

theorem exec_windowThresholdWrite (k : Fin 3) (v : Word) :
    exec (.windowThresholdWrite n k v) s = done (s.bar (s.winWrite n (winOf k) v)) := rfl

@[simp] theorem code_winOf (k : Fin 3) : (winOf k).code = k.val :=
  match k with
  | 0 => rfl
  | 1 => rfl
  | 2 => rfl

/-- A group with the word of a window stored, and the marks of a DAC word written (R158, R171). -/
def wordStored (pos : Fin 16) (w : Win) (x : Word) (now : Beat) (g : Group) : Group :=
  match w with
  | .current =>
      { g with iwin := g.iwin.set pos x, rbWrI := g.rbWrI ||| 3#32 <<< (2 * pos.val), wrBeatI := g.wrBeatI.set pos now }
  | .vtrip =>
      { g with vtrip := g.vtrip.set pos x, rbWrV := g.rbWrV ||| 3#32 <<< (2 * pos.val), wrBeatV := g.wrBeatV.set pos now }
  | .vwarn => { g with vwarn := g.vwarn.set pos x }

/-- A group that has refused a word of a window, which it names (R158). -/
def wordRefused (pos : Fin 16) (w : Win) (g : Group) : Group :=
  { g with wRefused := true, wWord := w.code, wPos := pos.val }

/-- A write of a window word stores it or is refused, by its thresholds (R158). -/
theorem winStore_eq (v : Word) : s.winStore n w v = s.modGroup (groupOf n) fun g =>
    if (winCodes w (v &&& 0x0FFF0FFF#32)).1 ≤ (winCodes w (v &&& 0x0FFF0FFF#32)).2 then wordRefused (posOf n.val) w g
    else wordStored (posOf n.val) w (v &&& 0x0FFF0FFF#32) s.beat.number g := by
  cases w <;> rfl

variable (pos : Fin 16) (x : Word) (now : Beat) (g : Group)

theorem winWord_wordStored_same : (wordStored pos w x now g).winWord pos w = x := by
  cases w <;> simp [wordStored, Group.winWord]

theorem winWord_wordStored_other {q : Fin 16} {u : Win} (h : q ≠ pos ∨ u ≠ w) :
    (wordStored pos w x now g).winWord q u = g.winWord q u := by
  by_cases hu : u = w
  · subst hu
    have hq : pos.val ≠ q.val := Fin.val_ne_of_ne (h.resolve_right (fun hn => hn rfl)).symm
    cases u <;> simp [wordStored, Group.winWord, hq]
  · cases w with
    | current => cases u with | current => exact absurd rfl hu | vtrip => rfl | vwarn => rfl
    | vtrip => cases u with | current => rfl | vtrip => exact absurd rfl hu | vwarn => rfl
    | vwarn => cases u with | current => rfl | vtrip => rfl | vwarn => exact absurd rfl hu

theorem wRefused_wordStored : (wordStored pos w x now g).wRefused = g.wRefused := by
  cases w <;> rfl

theorem winWrite_groups (v : Word) : (s.winWrite n w v).groups = (s.winStore n w v).groups := rfl

theorem frame_winWrite (v : Word) : Frame s (s.winWrite n w v) [.groups, .flt] :=
  frame_mono (frame_trans (frame_modGroup s _ _) (frame_modFlt _ _)) (by decide)

end Words

/-! ### Modes (R162) -/

theorem exec_comparatorSettled (s : State) (n : PhaseNo) : exec (.comparatorSettled n) s =
    done (if (s.cmpOf n).settling then s.modCmp n fun c => { c with modeI := c.nextI, modeV := c.nextV } else s) := rfl

/-! ### Readback visits (R171, R172) -/

section Readback
variable (s : State) (g : GroupNo) (voltage : Bool) (raws : Vector (BitVec 16) 12)

theorem exec_thresholdReadback :
    exec (.thresholdReadback g voltage raws) s = done (s.readback g voltage raws) := rfl

/-- The beats of a visit, with a running calibration and its slice (R128). -/
def VisitDue : Prop := s.beat.running = true ∧ ((s.groups[g]).cal voltage).active = true ∧
  (s.groups[g]).out voltage ≠ 0x1F ∧ s.beat.number.toNat % 256 ∈ [216, 224, 232, 240]

/-- The DAC that a visit reads. -/
def visitDac : Nat := (if voltage then (s.groups[g]).rbNextV else (s.groups[g]).rbNextI) % 32

/-- The DAC's word has been written within the last 8 beats (R171). -/
def DacFresh : Prop :=
  (if voltage then (s.groups[g]).rbWrV else (s.groups[g]).rbWrI).getLsbD (visitDac s g voltage) = true ∧
    s.beat.number ≤
      (if voltage then (s.groups[g]).wrBeatV else (s.groups[g]).wrBeatI)[posOf (visitDac s g voltage / 2)] + 8

/-- The mean lies more than 4 LSB from the DAC's level (R171). -/
abbrev DacOff : Prop := (4 * 12 * winLsb (if voltage then .vtrip else .current)).natAbs <
  (s.groups[g]).readbackOff voltage (visitDac s g voltage) raws

/-- The next visit reads the next DAC (R128). -/
def visitMoved : State := s.modGroup g fun x =>
  if voltage then { x with rbNextV := (visitDac s g voltage + 1) % 32 }
  else { x with rbNextI := (visitDac s g voltage + 1) % 32 }

theorem visit_guard : (!s.beat.running || !((s.groups[g]).cal voltage).active || (s.groups[g]).out voltage == 0x1F ||
    !(s.beat.number.toNat % 256 == 216 || s.beat.number.toNat % 256 == 224 || s.beat.number.toNat % 256 == 232 ||
      s.beat.number.toNat % 256 == 240)) = false ↔ VisitDue s g voltage := by
  simp [VisitDue, and_assoc, -Fin.getElem_fin]
  omega

theorem readback_idle (h : ¬VisitDue s g voltage) : s.readback g voltage raws = s :=
  if_pos (Bool.of_not_eq_false (mt (visit_guard s g voltage).mp h))

theorem visitMoved_marks : readbackMarks voltage ((visitMoved s g voltage).groups[g]) =
    ((visitDac s g voltage + 1) % 32, (s.groups[g]).rbBad voltage) := by
  rw [visitMoved, modGroup_get_same]
  cases voltage <;> rfl

theorem setRb_marks (x : Group) (bad wr fail : BitVec 32) :
    readbackMarks voltage (x.setRb voltage bad wr fail) = ((readbackMarks voltage x).1, bad) := by
  cases voltage <;> rfl

/-- A change of the mismatch bits of the group after the visit has moved on. -/
theorem visitMoved_setMarks (f : Group → Group) (bad : BitVec 32 → BitVec 32)
    (hf : ∀ x, readbackMarks voltage (f x) = ((readbackMarks voltage x).1, bad (x.rbBad voltage))) :
    readbackMarks voltage (((visitMoved s g voltage).modGroup g f).groups[g]) =
      ((visitDac s g voltage + 1) % 32, bad ((s.groups[g]).rbBad voltage)) := by
  obtain ⟨hnext, hbad⟩ := Prod.mk.inj (visitMoved_marks s g voltage)
  rw [modGroup_get_same, hf]
  exact Prod.ext hnext (congrArg bad hbad)

/-- The visit has moved on, with these mismatch bits and no fault raised. -/
def Judged (bad : BitVec 32) (u : State) : Prop :=
  readbackMarks voltage u.groups[g] = ((visitDac s g voltage + 1) % 32, bad) ∧ u.flt = s.flt

/-- A visit moves on; of a DAC not written lately it sets or clears the mismatch bit. A mismatch raises READBACK at the first
visit and may cross the window at a later one; a match may end the crossing (R171, R172). -/
theorem readback_cases (h : VisitDue s g voltage) :
    let bad := (s.groups[g]).rbBad voltage
    let bit := 1#32 <<< visitDac s g voltage
    (DacFresh s g voltage ∧ s.readback g voltage raws = visitMoved s g voltage) ∨
    (¬DacFresh s g voltage ∧ DacOff s g voltage raws ∧ ∃ u, Judged s g voltage (bad ||| bit) u ∧
      ((bad.getLsbD (visitDac s g voltage) = false ∧ ∃ d, s.readback g voltage raws = u.raise 18 g.val d false false) ∨
        (bad.getLsbD (visitDac s g voltage) = true ∧
          (s.readback g voltage raws = u ∨ ∃ p w high, s.readback g voltage raws = u.cross p w high)))) ∨
    (¬DacFresh s g voltage ∧ ¬DacOff s g voltage raws ∧ ∃ u, Judged s g voltage (bad &&& ~~~bit) u ∧
      ∃ p w, s.readback g voltage raws = u.endCross p w) := by
  intro bad bit
  generalize hr : s.readback g voltage raws = t
  unfold State.readback at hr
  extract_lets x b k dac moved pos high p w m wr fail written atW dev d again off on at hr
  rw [if_neg (ne_true_of_eq_false ((visit_guard s g voltage).mpr h))] at hr
  split at hr
  · next hc =>
    obtain ⟨hwritten, hlate⟩ := Bool.and_eq_true_iff.mp hc
    exact .inl ⟨⟨hwritten, of_decide_eq_true hlate⟩, hr.symm⟩
  · next hc =>
    have hstale : ¬DacFresh s g voltage := fun ⟨hwritten, hlate⟩ =>
      hc (Bool.and_eq_true_iff.mpr ⟨hwritten, decide_eq_true hlate⟩)
    split at hr
    · next hoff =>
      have hjudged : Judged s g voltage (bad ||| bit) off :=
        ⟨visitMoved_setMarks s g voltage _ (· ||| bit) fun x => setRb_marks voltage x _ _ _, rfl⟩
      refine .inr (.inl ⟨hstale, hoff, off, hjudged, ?_⟩)
      split at hr
      · next hfirst => exact .inl ⟨(Bool.not_eq_true' _).mp hfirst, _, hr.symm⟩
      · next hagain =>
        have hbad : again = true := by simpa using hagain
        refine .inr ⟨hbad, ?_⟩
        split at hr
        · exact .inl hr.symm
        · exact .inr ⟨_, _, _, hr.symm⟩
    · next hoff =>
      have hjudged : Judged s g voltage (bad &&& ~~~bit) on :=
        ⟨visitMoved_setMarks s g voltage _ (· &&& ~~~bit) fun x => setRb_marks voltage x _ _ _, rfl⟩
      exact .inr (.inr ⟨hstale, hoff, on, hjudged, _, _, hr.symm⟩)

theorem visitDac_lt : visitDac s g voltage < 32 := Nat.mod_lt _ (by decide)

/-- A DAC not written lately is judged by its distance: the mismatch bit says whether it is off (R171). -/
theorem readback_judges (h : VisitDue s g voltage) (hs : ¬DacFresh s g voltage) : ∃ bad,
    readbackMarks voltage ((s.readback g voltage raws).groups[g]) = ((visitDac s g voltage + 1) % 32, bad) ∧
      (bad.getLsbD (visitDac s g voltage) = true ↔ DacOff s g voltage raws) := by
  have hlt := visitDac_lt s g voltage
  obtain ⟨hf, -⟩ | ⟨-, hoff, u, ⟨hu, -⟩, hr⟩ | ⟨-, hon, u, ⟨hu, -⟩, p, w, hr⟩ :=
    readback_cases s g voltage raws h
  · exact absurd hf hs
  · refine ⟨(s.groups[g]).rbBad voltage ||| 1#32 <<< visitDac s g voltage, ?_, iff_of_true (by simp [hlt]) hoff⟩
    obtain ⟨-, d, hr⟩ | ⟨-, hr | ⟨p, w, high, hr⟩⟩ := hr <;> rw [hr]
    · rw [raise_groups, hu]
    · exact hu
    · rw [cross_readbackMarks, hu]
  · refine ⟨(s.groups[g]).rbBad voltage &&& ~~~(1#32 <<< visitDac s g voltage), ?_, iff_of_false (by simp [hlt]) hon⟩
    rw [hr, endCross_readbackMarks, hu]

/-- The first mismatch of a DAC raises READBACK (R172). -/
theorem readback_raises (h : VisitDue s g voltage) (hs : ¬DacFresh s g voltage) (ho : DacOff s g voltage raws)
    (hb : ((s.groups[g]).rbBad voltage).getLsbD (visitDac s g voltage) = false) (ha : s.flt.active.getLsbD 18 = false) :
    (s.readback g voltage raws).flt.hit.getLsbD 18 = true := by
  obtain ⟨hf, -⟩ | ⟨-, -, u, ⟨-, hflt⟩, hr⟩ | ⟨-, hon, -⟩ := readback_cases s g voltage raws h
  · exact absurd hf hs
  · obtain ⟨-, d, hr⟩ | ⟨hagain, -⟩ := hr
    · rw [hr]
      exact raise_sets u 18 g.val d false false rfl (hflt ▸ ha)
    · exact absurd hagain (ne_true_of_eq_false hb)
  · exact absurd ho hon

/-- A DAC written lately is passed over (R171). -/
theorem readback_fresh (h : VisitDue s g voltage) (hf : DacFresh s g voltage) :
    s.readback g voltage raws = visitMoved s g voltage := by
  obtain ⟨-, hr⟩ | ⟨hs, -⟩ | ⟨hs, -⟩ := readback_cases s g voltage raws h
  · exact hr
  · exact absurd hf hs
  · exact absurd hf hs

/-- Every visit moves on to the next DAC (R128). -/
theorem readback_moves (h : VisitDue s g voltage) :
    (readbackMarks voltage ((s.readback g voltage raws).groups[g])).1 = (visitDac s g voltage + 1) % 32 := by
  by_cases hf : DacFresh s g voltage
  · rw [readback_fresh s g voltage raws h hf, visitMoved_marks]
  · obtain ⟨bad, hm, -⟩ := readback_judges s g voltage raws h hf
    rw [hm]

end Readback

/-! ### The statements -/

/-- Settles O18: each clause reads off what an edge does to its group, and what the window's action does after it; a decision
above the upper threshold is an edge of the current window, which always latches. -/
theorem windowsCrossActAndEnd : Obligations.WindowsCrossActAndEnd := by
  unfold Obligations.WindowsCrossActAndEnd
  refine ⟨fun s n high hm hr hg hi => ⟨fun ha => ?recorded, fun ha hs ho => ?tripped⟩, fun s n high hr => ?unused,
    fun s n voltage high hm ho ht hf => ?ends, fun s n voltage high hm ho => ?goesOn,
    fun s n shunt cell => ⟨fun hd => ?early, fun hd hm hv hh hx => ?latched⟩,
    fun s n w => ⟨fun hi => ?held, fun hi => ?crossing⟩⟩
  case recorded =>
    rw [exec_voltageTripCrossing, hm, hr]
    exact next_done ⟨tripOpened_settle n high (assertCmp_tripOpened s n high hg hi),
      frame_settle (frame_assertCmp_trip s n high hg hi ha)⟩
  case tripped =>
    obtain ⟨htrip, hlow, hstore⟩ := assertCmp_trips s n high hg hi ha hs hr ho
    rw [exec_voltageTripCrossing, hm, hr]
    refine next_done ⟨tripOpened_settle n high (assertCmp_tripOpened s n high hg hi), ?_⟩
    rw [settle_chans, settle_phases, settle_store]
    exact ⟨htrip, hlow, hstore⟩
  case unused =>
    rw [exec_voltageTripCrossing, hr, Bool.not_false, Bool.or_true, if_pos rfl]
    exact frame_done_self s
  case ends =>
    rw [exec_windowCrossingEnd, if_neg (ne_true_of_eq_false hm)]
    refine next_done ?_
    rw [cmpOf_settle, settle_groups]
    exact ⟨(deassertCmp_get s n _ high).1, deassertCmp_ends s n _ high ho ht hf,
      fun h hg => deassertCmp_get_other s n _ high hg, frame_settle (frame_deassertCmp s n _ high)⟩
  case goesOn =>
    rw [exec_windowCrossingEnd, if_neg (ne_true_of_eq_false hm)]
    refine next_done ?_
    rw [cmpOf_settle]
    exact ⟨(deassertCmp_get s n _ high).1, deassertCmp_goes_on s n _ high ho,
      frame_settle (frame_deassertCmp s n _ high)⟩
  case early =>
    rw [exec_mothDecision, mothDecide_early s n shunt cell hd]
    exact frame_done_self s
  case latched =>
    have hend := decide1_low_keeps _ n shunt (decide1_above s n shunt hh hx)
    obtain ⟨hhi, hmode, hheld⟩ := hend
    rw [exec_mothDecision, mothDecide_current s n shunt cell hd hm (by rwa [moth_vtrip, hmode])]
    refine next_done ?_
    rw [cmpOf_settle, settle_phases]
    exact ⟨hhi, hheld⟩
  case held =>
    rw [exec_tripHoldExpiry, if_neg (ne_true_of_eq_false hi)]
    refine next_done ?_
    rw [cmpOf_settle, settle_groups]
    exact ⟨cmpOf_modCmp_same s n _, fun h hg => modCmp_get_other s n hg _, frame_settle (frame_modCmp s n _)⟩
  case crossing =>
    rw [exec_tripHoldExpiry, if_pos hi]
    exact frame_done_self s

/-- Settles O19: a word is stored or refused by its thresholds, and a visit is one of the cases of `readback_cases`. -/
theorem thresholdsAndReadback : Obligations.ThresholdsAndReadback := by
  unfold Obligations.ThresholdsAndReadback
  refine ⟨fun s n k v hl => ?word, fun s n h => ?settles, fun s n h => ?settled,
    fun s g voltage raws => ⟨fun hv => ?idle, fun hv => ?visit⟩⟩
  case word =>
    rw [exec_windowThresholdWrite, bar_of_live hl]
    refine next_done ?_
    rw [settle_groups, settle_flt, winWrite_groups, winStore_eq, modGroup_get_same]
    refine ⟨fun ha => ?stored, fun ha => ?refused, fun h hg => modGroup_get_other s hg _, rfl,
      frame_settle (frame_winWrite s n _ v)⟩
    case stored =>
      rw [if_neg (Int.not_le.mpr ha)]
      exact ⟨winWord_wordStored_same _ _ _ _ _, wRefused_wordStored _ _ _ _ _,
        fun q u h => winWord_wordStored_other _ _ _ _ _ h⟩
    case refused =>
      rw [if_pos (Int.not_lt.mp ha)]
      exact ⟨rfl, rfl, code_winOf k, fun q u => by cases u <;> rfl⟩
  case settles =>
    rw [exec_comparatorSettled, if_pos h]
    refine next_done ?_
    rw [cmpOf_settle, cmpOf_modCmp_same]
    refine ⟨rfl, rfl, rfl, fun q hq => ?_, frame_settle (frame_modCmp s n _)⟩
    rw [cmpOf_settle, cmpOf_modCmp_other s n hq]
  case settled =>
    rw [exec_comparatorSettled, if_neg (ne_true_of_eq_false h)]
    exact frame_done_self s
  case idle =>
    rw [exec_thresholdReadback, readback_idle s g voltage raws hv]
    exact frame_done_self s
  case visit =>
    rw [exec_thresholdReadback]
    refine next_done ?_
    rw [settle_groups, settle_flt]
    refine ⟨readback_moves s g voltage raws hv, fun hf => ?fresh, fun hs => ?judged,
      fun hs ho hb ha => readback_raises s g voltage raws hv hs (of_decide_eq_true ho) hb ha⟩
    case fresh =>
      rw [readback_fresh s g voltage raws hv hf]
      exact ⟨congrArg Prod.snd (visitMoved_marks s g voltage), frame_settle (frame_modGroup s g _)⟩
    case judged =>
      obtain ⟨bad, hm, hoff⟩ := readback_judges s g voltage raws hv hs
      have hbad : ((s.readback g voltage raws).groups[g]).rbBad voltage = bad := congrArg Prod.snd hm
      rw [hbad]
      exact Bool.eq_iff_iff.mpr (hoff.trans decide_eq_true_iff.symm)

end Sys2Proof.Proofs
end

section
/-!
PROOFS. Recipes, estimates and the lifetime area (spec/06_recipes.md, spec/07_estimation_grading.md): how a wait or a lost
reading interrupts a recipe (R188, R198, R203), a reference too old (R235), FORGET (R214), the lifetime slots (R244) and the
heatsinks (R245). The rules about the halves of a channel and about single operations come first; the statement is settled last.
-/
namespace Sys2Proof.Proofs
open Sys2Proof.Machine Sys2Proof.Laws

/-! ### Parts changed, and what that leaves as it was -/

section Parts
variable (s : State)

theorem frame_modStore (f : Store → Store) : Frame s (s.modStore f) [.store] := by
  intro p hp
  cases p
  case store => simp at hp
  all_goals exact rfl

theorem frame_modDev (f : Device → Device) : Frame s (s.modDev f) [.dev] := by
  intro p hp
  cases p
  case dev => simp at hp
  all_goals exact rfl

/-- A pulse of a shared source changes its pending bit alone, which counts to no part. -/
theorem frame_irq (k : Fin 64) : Frame s (s.irq k) [] := by
  intro p _
  cases p <;> exact rfl

end Parts

/-! ### The current half of a channel (R25) -/

section Halves
variable (c : Chan)

@[simp] theorem cur_both (f : Context → Context) : (c.both f).cur = f c.cur := by
  unfold Chan.cur Chan.both
  exact (apply_ite f _ _ _).symm

@[simp] theorem cur_setCur (x : Context) : (c.setCur x).cur = x := by
  unfold Chan.cur Chan.setCur
  cases c.curHalf <;> simp

@[simp] theorem cur_note (e : EstEv) : (c.note e).cur = c.cur := rfl

theorem cur_unpause_awake : ({ c.unpause with waking := false } : Chan).cur = c.cur := rfl

theorem cur_laneEnd_step (n : ChanNo) : (c.laneEnd n).cur.step = c.cur.step := by
  simp [Chan.laneEnd]

end Halves

/-! ### A recipe interrupted (R203) -/

section Interruption
variable (s : State) (n : ChanNo) (r : Reason)

/-- A step state that an interruption with reason `r` has left. -/
def StoppedBy (st : StepState) : Prop := st.running = false ∧ ∃ i, st.intr = some i ∧ i.reason = r

theorem interruptStep_stopped {st : StepState} (h : st.running = true) (crc : Word) :
    StoppedBy r (interruptStep st r crc) := by
  rw [interruptStep, if_pos h]
  exact ⟨rfl, _, rfl, rfl⟩

theorem interrupt_idle (h : (s.chans[n]).cur.step.running = false) (b : Bool) (l : Beat) : s.interrupt n r b l = s :=
  if_neg (ne_true_of_eq_false h)

theorem interrupt_stops (h : (s.chans[n]).cur.step.running = true) (b : Bool) (l : Beat) :
    StoppedBy r ((s.interrupt n r b l).chans[n]).cur.step := by
  unfold State.interrupt
  rw [if_pos h]
  simp only [apply_ite State.chans, irq_chans, event_chans, ite_self, modChan_get_same, cur_note]
  split <;> simp only [cur_note, cur_both] <;> exact interruptStep_stopped r h _

theorem interrupt_get_other {m : ChanNo} (hm : m ≠ n) (b : Bool) (l : Beat) :
    (s.interrupt n r b l).chans[m] = s.chans[m] := by
  unfold State.interrupt
  refine ite_keep (fun t : State => t.chans[m]) _ ?_ rfl
  simp only [apply_ite State.chans, irq_chans, event_chans, ite_self, modChan_get_other s hm]

theorem recipeOf_running {x : Recipe} (h : s.recipeOf n = some x) : (s.chans[n]).cur.step.running = true := by
  by_cases hr : (s.chans[n]).cur.step.running = true
  · exact hr
  · rw [State.recipeOf, if_neg hr] at h
    cases h

theorem barrierExpired_running (h : s.barrierExpired n = true) : (s.chans[n]).cur.step.running = true := by
  unfold State.barrierExpired at h
  cases hx : s.recipeOf n with
  | none => rw [hx] at h; cases h
  | some x => exact recipeOf_running s n hx

theorem tempLost_running (h : s.tempLost n = true) : (s.chans[n]).cur.step.running = true := by
  unfold State.tempLost at h
  cases hx : s.recipeOf n with
  | none => rw [hx] at h; cases h
  | some x => exact recipeOf_running s n hx

end Interruption

/-! ### A stop keeps the interruption (R81, R82) -/

section Stop
variable {r : Reason}

theorem stoppedBy_arrive {st : StepState} (h : StoppedBy r st) (target : StopTarget) : StoppedBy r (arrive st target) := by
  cases target <;> exact h

theorem stoppedBy_stopHalf {x : Context} (h : StoppedBy r x.step) (chan glideI : Nat) (target : StopTarget) (forced : Bool) :
    StoppedBy r (stopHalf x chan glideI target forced).step := by
  unfold stopHalf
  dsimp only
  split
  · refine stoppedBy_arrive ?_ _
    exact h
  · exact h

/-- A channel of which a stop has been asked. -/
def stopAsked (n : ChanNo) (glideI : Nat) (target : StopTarget) (forced : Bool) (c : Chan) : Chan :=
  { ((c.laneEnd n).both fun x => stopHalf x n glideI target forced).unpause with waking := false }

theorem stoppedBy_stopAsked {c : Chan} (h : StoppedBy r c.cur.step) (n : ChanNo) (glideI : Nat) (target : StopTarget)
    (forced : Bool) : StoppedBy r (stopAsked n glideI target forced c).cur.step := by
  rw [stopAsked, cur_unpause_awake, cur_both]
  refine stoppedBy_stopHalf ?_ _ _ _ _
  rw [cur_laneEnd_step]
  exact h

variable (s : State) (n : ChanNo) (target : StopTarget) (why : Reason) (forced : Bool)

/-- A choice is one of its two sides. -/
theorem ite_cases (c : Prop) [Decidable c] (x y : State) : (if c then x else y) = x ∨ (if c then x else y) = y := by
  by_cases h : c
  · exact .inl (if_pos h)
  · exact .inr (if_neg h)

/-- A channel in OFF or already at its target stays as it is; of any other the recipe is interrupted and a stop asked. -/
theorem stopChan_cases : s.stopChan n target why forced = s ∨ ∃ glideI, s.stopChan n target why forced =
    (s.interrupt n why false (s.beat.number - 1)).modChan n (stopAsked n glideI target forced) := by
  unfold State.stopChan
  exact (ite_cases _ _ _).imp_right fun h => ⟨_, h⟩

theorem stopChan_stopped (h : StoppedBy r (s.chans[n]).cur.step) :
    StoppedBy r ((s.stopChan n target why forced).chans[n]).cur.step := by
  rcases stopChan_cases s n target why forced with hs | ⟨glideI, hs⟩
  · rw [hs]
    exact h
  · rw [hs, interrupt_idle s n why h.1, modChan_get_same]
    exact stoppedBy_stopAsked h _ _ _ _

theorem stopChan_get_other {m : ChanNo} (hm : m ≠ n) : (s.stopChan n target why forced).chans[m] = s.chans[m] := by
  rcases stopChan_cases s n target why forced with hs | ⟨glideI, hs⟩
  · rw [hs]
  · rw [hs, modChan_get_other _ hm, interrupt_get_other s n why hm]

@[simp] theorem stopChan_phases : (s.stopChan n target why forced).phases = s.phases := by
  rcases stopChan_cases s n target why forced with hs | ⟨glideI, hs⟩
  · rw [hs]
  · rw [hs, modChan_phases, interrupt_phases]

end Stop

/-! ### Expired waits and lost readings (R188, R198) -/

section Waits
variable (s : State) (n : ChanNo)

theorem exec_barrierTimeout : exec (.barrierTimeout n) s = done (s.barrierTimeout n) := rfl

theorem exec_tempLost : exec (.tempLost n) s = done (s.dropTemp n) := rfl

/-- A half of a channel whose wait has been interrupted: RUN, mode REST. -/
def waitEnded (x : Context) : Context := { x with step := { x.step with base := .run, mode := .rest, holdBeats := 0 } }

theorem barrierTimeout_expired (h : s.barrierExpired n = true) : s.barrierTimeout n =
    (s.interrupt n .barrierTimeout false s.beat.number).modChan n fun c => c.both waitEnded := if_pos h

theorem barrierTimeout_waiting (h : s.barrierExpired n = false) : s.barrierTimeout n = s := if_neg (ne_true_of_eq_false h)

theorem dropTemp_lost (h : s.tempLost n = true) : s.dropTemp n =
    (s.interrupt n .tempLost false s.beat.number).stopChan n .rest .tempLost false := if_pos h

theorem dropTemp_read (h : s.tempLost n = false) : s.dropTemp n = s := if_neg (ne_true_of_eq_false h)

end Waits

/-! ### References and FORGET (R214, R235) -/

section Estimates
variable (s : State) (n : ChanNo)

theorem exec_referenceStale : exec (.referenceStale n) s = done (s.refStale n) := rfl

theorem refStale_old (h : s.refTooOld n = true) : s.refStale n =
    ((s.modChan n fun c => { c with estCur := c.estCur.markStale, estNext := c.estNext.markStale }).event
      .channel n 15 []).irq 45 := if_pos h

theorem refStale_young (h : s.refTooOld n = false) : s.refStale n = s := if_neg (ne_true_of_eq_false h)

theorem frame_refStale (h : s.refTooOld n = true) : Frame s (s.refStale n) [.chans, .host] := by
  rw [refStale_old s n h]
  exact frame_trans (frame_modChan s n _) (frame_trans (frame_event _ _ _ _ _) (frame_irq _ 45))

theorem exec_forget (v : Word) (cyc : Nat) : exec (.forget n v cyc) s = done (s.bar (s.estCtrl n v cyc)) := rfl

theorem estCtrl_forgets {v : Word} (hv : v.getLsbD 0 = true) (hc : s.isConf n = true) (cyc : Nat) :
    s.estCtrl n v cyc = s.forget n (s.dueAt cyc) := by
  simp [State.estCtrl, bit, hv, hc]

end Estimates

/-! ### The lifetime area (R243, R244) -/

section Lifetime
variable (s : State)

theorem exec_lifetimeWrite : exec .lifetimeWrite s = done s.lifetimeDue := rfl

theorem lifetimeDue_due (h : s.dev.lifetimeDue = true) :
    s.lifetimeDue = s.lifeWrite.modDev fun d => { d with lifetimeDue := false } := if_pos h

theorem lifetimeDue_not (h : s.dev.lifetimeDue = false) : s.lifetimeDue = s := if_neg (ne_true_of_eq_false h)

/-- What the next slot of the lifetime area takes. -/
def nextLifeSlot : LifeSlot :=
  { seq := s.store.lifeSeq + 1, phases := s.phases.toList.map fun p => p.life, hs := s.store.hs.toList
    closures := s.store.closures.toList, crcOk := true }

theorem lifeWrite_slot : (s.lifeWrite).store.lifeSlots.toList[(s.store.lifeSeq + 1) % 4]? = some (some (nextLifeSlot s)) := by
  have hk : (s.store.lifeSeq + 1) % 4 < 4 := by omega
  simp [State.lifeWrite, nextLifeSlot, hk]

theorem frame_lifeWrite : Frame s s.lifeWrite [.store] := frame_trans (frame_modStore s _) (frame_send _ _)

end Lifetime

/-! ### The housekeeping converter (R245) -/

section Housekeeping
variable (s : State)

theorem exec_hsNtcConversion (hs : Vector Nat 8) (ntc : Nat) (v i vin : Int) :
    exec (.hsNtcConversion hs ntc v i vin) s = done (s.housekeep hs ntc v i vin) := rfl

theorem exec_hsHistogramTick :
    exec .hsHistogramTick s = done (s.modStore fun t => { t with hs := t.hs.map HsInput.tick }) := rfl

@[simp] theorem unraise_far (k : Fin 128) : far (s.unraise k) = far s := rfl

@[simp] theorem aonEvent_far (t : Nat) (d : List Byte) : far (s.aonEvent t d) = far s := ite_keep far _ rfl rfl

@[simp] theorem aonEvent_hold (t : Nat) (d : List Byte) : (s.aonEvent t d).hold = s.hold := ite_keep State.hold _ rfl rfl

/-- The faults of the heatsink inputs are raised or ended, and no reading changes. -/
@[simp] theorem hsFaults_far : far s.hsFaults = far s := by
  unfold State.hsFaults
  extract_lets lim overtemp
  have hover : far overtemp = far s := by
    unfold overtemp
    split
    · exact raise_far _ _ _ _ _ _
    · exact ite_keep far _ (unraise_far _ _) rfl
  rw [← hover]
  split
  · exact raise_far _ _ _ _ _ _
  · exact unraise_far _ _

/-- What the converter last measured of the holdup bank. -/
def bankReadings (h : Holdup) : Int × Int × Int := (h.v, h.i, h.vin)

theorem holdEst_far (v i : Int) : far (s.holdEst v i) = far s := by
  unfold State.holdEst
  refine (modHold_far _ _).trans ?_
  exact ite_keep far _ ((irq_far _ _).trans (aonEvent_far _ _ _)) rfl

theorem holdEst_readings (v i : Int) : bankReadings (s.holdEst v i).hold = bankReadings s.hold := by
  unfold State.holdEst
  simp only [bankReadings, modHold_hold, apply_ite State.hold, irq_hold, aonEvent_hold, ite_self]

theorem learnLow_far : far s.learnLow = far s := by
  unfold State.learnLow
  split
  · exact ite_keep far _ rfl rfl
  · rfl

theorem learnLow_readings : bankReadings s.learnLow.hold = bankReadings s.hold := by
  unfold State.learnLow
  split
  · exact ite_keep (fun u : State => bankReadings u.hold) _ rfl rfl
  · rfl

variable (hs : Vector Nat 8) (ntc : Nat) (v i vin : Int)

/-- Every heatsink input after a conversion. -/
def hsConverted (t : Store) : Store :=
  { t with hs := Vector.ofFn fun k => (t.hs[k]).convert (bit t.hsCfg k.val) t.hsCfg hs[k] }

theorem housekeep_far : far (s.housekeep hs ntc v i vin) = far (s.modStore (hsConverted hs)) := by
  unfold State.housekeep
  dsimp only
  rw [learnLow_far, holdEst_far, modHold_far, hsFaults_far]
  rfl

theorem housekeep_readings : bankReadings (s.housekeep hs ntc v i vin).hold = (v, i, vin) := by
  unfold State.housekeep
  dsimp only
  rw [learnLow_readings, holdEst_readings]
  rfl

theorem beat_of_far {s t : State} (h : far t = far s) : t.beat = s.beat := congrArg (·.1) h

end Housekeeping

/-! ### The statement -/

/-- Settles O20: waits and readings by what an interruption leaves, references and FORGET by the channel they change, the
lifetime area and the heatsinks by the store they write. -/
theorem recipesEstimatesAndLifetime : Obligations.RecipesEstimatesAndLifetime := by
  unfold Obligations.RecipesEstimatesAndLifetime
  refine ⟨fun s n h => ?expired, fun s n => ⟨fun h => ?waiting, fun h => ?read⟩, fun s n h => ?lost, fun s n h => ?old,
    fun s n h => ?young, fun s n v cyc hl hv hc => ?forget, fun s h => ?due, fun s h => ?notDue,
    fun s hs ntc v cur vin => ?convert, fun s => ?tick⟩
  case expired =>
    rw [exec_barrierTimeout, barrierTimeout_expired s n h]
    obtain ⟨hrun, hintr⟩ := interrupt_stops s n .barrierTimeout (barrierExpired_running s n h) false s.beat.number
    refine next_done ?_
    rw [settle_chans, settle_phases, settle_groups, modChan_get_same, cur_both]
    refine ⟨rfl, rfl, hrun, hintr, fun m hm => ?_, interrupt_phases s n _ _ _, groups_of_far (interrupt_far s n _ _ _)⟩
    rw [modChan_get_other _ hm, interrupt_get_other s n _ hm]
  case waiting =>
    rw [exec_barrierTimeout, barrierTimeout_waiting s n h]
    exact frame_done_self s
  case read =>
    rw [exec_tempLost, dropTemp_read s n h]
    exact frame_done_self s
  case lost =>
    rw [exec_tempLost, dropTemp_lost s n h]
    obtain ⟨hrun, hintr⟩ := stopChan_stopped _ n .rest .tempLost false
      (interrupt_stops s n .tempLost (tempLost_running s n h) false s.beat.number)
    refine next_done ?_
    rw [settle_chans, settle_phases]
    refine ⟨hrun, hintr, fun m hm => ?_, by rw [stopChan_phases, interrupt_phases]⟩
    rw [stopChan_get_other _ n _ _ _ hm, interrupt_get_other s n _ hm]
  case old =>
    rw [exec_referenceStale]
    have hchans : (s.refStale n).chans = (s.modChan n fun c =>
        { c with estCur := c.estCur.markStale, estNext := c.estNext.markStale }).chans := by rw [refStale_old s n h]; rfl
    refine next_done ?_
    rw [settle_chans, hchans, modChan_get_same]
    exact ⟨rfl, Nat.le_max_left _ _, rfl, fun m hm => modChan_get_other s hm _, frame_settle (frame_refStale s n h)⟩
  case young =>
    rw [exec_referenceStale, refStale_young s n h]
    exact frame_done_self s
  case forget =>
    rw [exec_forget, bar_of_live hl, estCtrl_forgets s n hv hc, ← dueAt_eq]
    refine next_done ?_
    rw [settle_chans, State.forget, modChan_get_same]
    exact ⟨rfl, rfl, rfl, fun m hm => modChan_get_other s hm _, frame_settle (frame_modChan s n _)⟩
  case due =>
    rw [exec_lifetimeWrite, lifetimeDue_due s h]
    refine ⟨_, nextLifeSlot s, rfl, ?_⟩
    rw [settle_store, settle_dev]
    exact ⟨rfl, rfl, lifeWrite_slot s, rfl, rfl, frame_settle (frame_trans (frame_lifeWrite s) (frame_modDev _ _))⟩
  case notDue =>
    rw [exec_lifetimeWrite, lifetimeDue_not s h]
    exact frame_done_self s
  case convert =>
    rw [exec_hsNtcConversion]
    have hfar := housekeep_far s hs ntc v cur vin
    obtain ⟨hv, hi, hvin⟩ : _ = v ∧ _ = cur ∧ _ = vin := by
      simpa only [bankReadings, Prod.mk.injEq] using housekeep_readings s hs ntc v cur vin
    refine next_done ?_
    rw [settle_store, settle_hold, settle_groups, settle_beat, store_of_far hfar, groups_of_far hfar, beat_of_far hfar]
    refine ⟨fun k => ?_, hv, hi, hvin, rfl, rfl⟩
    simp [hsConverted, bit]
  case tick =>
    rw [exec_hsHistogramTick]
    refine next_done ?_
    rw [settle_store]
    exact ⟨fun k => Vector.getElem_map _ _, frame_settle (frame_modStore s _)⟩

end Sys2Proof.Proofs
end

section
/-!
PROOFS. NV operations at their end (spec/08_host_rings.md, spec/16_security_update.md): the store takes recipes and tables
(R175, R269), the staging takes or gives back a chunk (R504 to R506), a confirmation settles both banks (R512), and the
operation's command completes (R261 to R265). What a completion leaves as it was comes first; the statement is settled last.
-/
namespace Sys2Proof.Proofs
open Sys2Proof.Machine Sys2Proof.Laws

/-! ### What the sending of completions leaves as it was (R261 to R265, R290) -/

section Sending

/-- From `s` to `t` nothing has changed but the host interface and the interrupt controller, and of the host interface
neither the NV operations nor the descriptors fetched. -/
def Sends (s t : State) : Prop :=
  Frame s t [.host, .ic] ∧ t.host.nvOps = s.host.nvOps ∧ t.host.fetched = s.host.fetched

variable {s t u : State}

theorem sends_refl (s : State) : Sends s s := ⟨frame_refl s _, rfl, rfl⟩

theorem sends_trans (h : Sends s t) (k : Sends t u) : Sends s u := by
  obtain ⟨hf, hn, hd⟩ := h
  obtain ⟨kf, kn, kd⟩ := k
  exact ⟨frame_mono (frame_trans hf kf) (by decide), kn.trans hn, kd.trans hd⟩

theorem frame_modHost (s : State) (f : HostIf → HostIf) : Frame s (s.modHost f) [.host] := by
  intro p hp
  cases p
  case host => simp at hp
  all_goals exact rfl

theorem frame_irqPriv (s : State) (k : Fin 3) (m : Fin 16) : Frame s (s.irqPriv k m) [.ic] := by
  intro p hp
  cases p
  case ic => simp at hp
  all_goals exact rfl

theorem sends_modHost (s : State) {f : HostIf → HostIf} (hn : (f s.host).nvOps = s.host.nvOps)
    (hd : (f s.host).fetched = s.host.fetched) : Sends s (s.modHost f) :=
  ⟨frame_mono (frame_modHost s f) (by decide), hn, hd⟩

theorem sends_send (s : State) (o : Out) : Sends s (s.send o) :=
  ⟨frame_mono (frame_send s o) (by decide), rfl, rfl⟩

theorem sends_irqPriv (s : State) (k : Fin 3) (m : Fin 16) : Sends s (s.irqPriv k m) :=
  ⟨frame_mono (frame_irqPriv s k m) (by decide), rfl, rfl⟩

theorem sends_ite (c : Prop) [Decidable c] (ht : Sends s t) (hu : Sends s u) : Sends s (if c then t else u) := by
  split
  · exact ht
  · exact hu

theorem sends_foldl {α : Type} (l : List α) {f : State → α → State} (h : ∀ s a, Sends s (f s a)) (s : State) :
    Sends s (l.foldl f s) := by
  induction l generalizing s with
  | nil => exact sends_refl s
  | cons a l ih => exact sends_trans (h s a) (ih _)

theorem sends_vector (s : State) (v : Nat) : Sends s (s.vector v) :=
  sends_ite _ (sends_refl s) (sends_ite _ (sends_modHost s rfl rfl) (sends_send s _))

theorem sends_sendBytes (s : State) (a : Nat) (bs : List Byte) : Sends s (s.sendBytes a bs) :=
  sends_foldl _ (fun s _ => sends_send s _) s

theorem sends_flushData (s : State) : Sends s s.flushData :=
  sends_ite _ (sends_trans (sends_modHost s rfl rfl) (sends_foldl _ (fun s _ => sends_sendBytes s _ _) _)) (sends_refl s)

theorem sends_writeCpl (s : State) (e : CplEntry) : Sends s (s.writeCpl e) := by
  unfold State.writeCpl
  have entry (r : Ring) (o : Out) : Sends s (((s.send o).modHost fun h => { h with cplq := r }).irqPriv 2 1) :=
    sends_trans (sends_send s o) (sends_trans (sends_modHost _ rfl rfl) (sends_irqPriv _ 2 1))
  exact sends_ite _ (sends_trans (entry _ _) (sends_vector _ 1)) (entry _ _)

theorem sends_flushCpl (s : State) : Sends s s.flushCpl :=
  sends_trans (sends_flushData s)
    (sends_ite _ (sends_trans (sends_modHost _ rfl rfl) (sends_foldl _ sends_writeCpl _)) (sends_refl _))

end Sending

/-! ### The completion of a command (R261, R264) -/

section Completion
variable (s : State) (id status detail value : Nat)

/-- A status recorded as that of the last update command. -/
def withUpdLast (x : Nat) : State := s.modSec fun c => { c with updLast := x }

/-- A command runs no longer. -/
def dropCommand (h : HostIf) : HostIf := { h with running := h.running.filter fun x => x.id != id }

/-- The CPLQ entry of a command that has ended is written or waits; one without a slot is lost. -/
def answered (c : RunCmd) : State :=
  if !c.reserved then s.modHost HostIf.lose
  else
    (s.modHost fun h => { h with cplPend := h.cplPend ++
      [{ cid := c.cid, opcode := c.opcode, status := status, detail := detail, value := value
         background := c.background }] }).flushCpl

theorem sends_answered (c : RunCmd) : Sends s (answered s status detail value c) :=
  sends_ite _ (sends_modHost s rfl rfl) (sends_trans (sends_modHost s rfl rfl) (sends_flushCpl _))

theorem complete_update {c : RunCmd} (hc : s.host.running.find? (fun c => c.id == id) = some c)
    (ho : 0x10 ≤ c.opcode ∧ c.opcode ≤ 0x12) : s.complete id status detail value =
      answered ((withUpdLast s status).modHost (dropCommand id)) status detail value c := by
  simp only [State.complete, hc, if_pos ho]
  rfl

theorem complete_other {c : RunCmd} (hc : s.host.running.find? (fun c => c.id == id) = some c)
    (ho : ¬(0x10 ≤ c.opcode ∧ c.opcode ≤ 0x12)) : s.complete id status detail value =
      answered (s.modHost (dropCommand id)) status detail value c := by
  simp only [State.complete, hc, if_neg ho]
  rfl

theorem complete_absent (hc : s.host.running.find? (fun c => c.id == id) = none) :
    s.complete id status detail value = s := by
  simp only [State.complete, hc]

/-- A completion sends, and records its status as that of the last update command only where the command is one. -/
theorem complete_cases : ∃ x, Sends (withUpdLast s x) (s.complete id status detail value) ∧
    ((∀ c ∈ s.host.running, c.id = id → c.opcode < 0x10) → x = s.sec.updLast) := by
  cases hc : s.host.running.find? fun c => c.id == id with
  | none =>
    rw [complete_absent s id status detail value hc]
    exact ⟨s.sec.updLast, sends_refl s, fun _ => rfl⟩
  | some c =>
    by_cases ho : 0x10 ≤ c.opcode ∧ c.opcode ≤ 0x12
    · rw [complete_update s id status detail value hc ho]
      refine ⟨status, sends_trans (sends_modHost _ rfl rfl) (sends_answered _ status detail value c), fun h => ?_⟩
      have := h c (List.mem_of_find?_eq_some hc) (by simpa using List.find?_some hc)
      omega
    · rw [complete_other s id status detail value hc ho]
      exact ⟨s.sec.updLast, sends_trans (sends_modHost s rfl rfl) (sends_answered _ status detail value c), fun _ => rfl⟩

/-- The completion of a command that is no update command sends, and does nothing else. -/
theorem complete_sends (h : ∀ c ∈ s.host.running, c.id = id → c.opcode < 0x10) :
    Sends s (s.complete id status detail value) := by
  obtain ⟨x, hx, hlast⟩ := complete_cases s id status detail value
  rw [hlast h] at hx
  exact hx

/-- What the end of an NV operation leaves as it is: the other operations, the descriptors fetched, the channels. -/
def kept : List NvOp × List Desc × Vector Chan 160 := (s.host.nvOps, s.host.fetched, s.chans)

@[simp] theorem complete_kept : kept (s.complete id status detail value) = kept s := by
  obtain ⟨x, ⟨hf, hn, hd⟩, _⟩ := complete_cases s id status detail value
  exact Prod.ext hn (Prod.ext hd (hf .chans (by decide)))

theorem fetched_of_kept {s t : State} (h : kept t = kept s) : t.host.fetched = s.host.fetched := congrArg (·.2.1) h

/-- What a firmware update works on. -/
def firmware : Vector Bank 2 × Option Staging × Nat := (s.sec.banks, s.sec.staging, s.sec.updLength)

/-- What leaves the security block leaves its firmware. -/
theorem firmware_of_same {s t : State} (h : Same s t .sec) : firmware t = firmware s := by
  have hs : { t.sec with otpA := s.sec.otpA, otpB := s.sec.otpB, raiseSvn := s.sec.raiseSvn } = s.sec := h
  have hfw := congrArg (fun c : Sec => (c.banks, c.staging, c.updLength)) hs
  exact hfw

theorem banks_of_firmware {s t : State} (h : firmware t = firmware s) : t.sec.banks = s.sec.banks := congrArg (·.1) h

theorem staging_of_firmware {s t : State} (h : firmware t = firmware s) : t.sec.staging = s.sec.staging :=
  congrArg (·.2.1) h

theorem updLength_of_firmware {s t : State} (h : firmware t = firmware s) : t.sec.updLength = s.sec.updLength :=
  congrArg (·.2.2) h

theorem complete_firmware : firmware (s.complete id status detail value) = firmware s := by
  obtain ⟨x, ⟨hf, _, _⟩, _⟩ := complete_cases s id status detail value
  exact (firmware_of_same (hf .sec (by decide))).trans rfl

theorem settle_firmware : firmware (settle s) = firmware s :=
  firmware_of_same (frame_settle (frame_refl s []) .sec (by decide))

/-- With no descriptor fetched the queue does nothing of itself. -/
theorem pumpCmd_idle (h : s.host.fetched = []) : s.pumpCmd = s := by
  unfold State.pumpCmd
  rw [h]
  exact ite_self s

theorem updDone_idle (h : s.host.fetched = []) :
    s.updDone id status detail value = s.complete id status detail value :=
  pumpCmd_idle _ ((fetched_of_kept (complete_kept s id status detail value)).trans h)

theorem updDone_firmware (h : s.host.fetched = []) : firmware (s.updDone id status detail value) = firmware s := by
  rw [updDone_idle s id status detail value h, complete_firmware]

theorem updDone_kept (h : s.host.fetched = []) : kept (s.updDone id status detail value) = kept s := by
  rw [updDone_idle s id status detail value h, complete_kept]

end Completion

/-! ### Chunks and confirmations (R504 to R506, R512) -/

section Firmware
variable (s : State)

@[simp] theorem setBank_kept (k : Fin 2) (b : Bank) : kept (s.setBank k b) = kept s := ite_keep kept _ rfl rfl

@[simp] theorem setBank_sec (k : Fin 2) (b : Bank) :
    (s.setBank k b).sec = { s.sec with banks := s.sec.banks.set k b } := ite_keep State.sec _ rfl rfl

@[simp] theorem modSec_kept (f : Sec → Sec) : kept (s.modSec f) = kept s := rfl

@[simp] theorem secEvent_kept (k : Kind) (n t : Nat) (d : List Byte) : kept (s.secEvent k n t d) = kept s := rfl

@[simp] theorem secEvent_sec (k : Kind) (n t : Nat) (d : List Byte) : (s.secEvent k n t d).sec = s.sec := rfl

theorem stageUndo_kept : kept s.stageUndo = kept s := by
  unfold State.stageUndo
  split
  · rfl
  · rw [modSec_kept, setBank_kept]

/-- A chunk that failed: the staging and its length are those kept before it (R506). -/
theorem stageUndo_restores {b : Bank} {g : Option Staging} {len : Nat} {mf : List Byte}
    (h : s.sec.undo = some (b, g, len, mf)) : s.stageUndo.sec.staging = g ∧ s.stageUndo.sec.updLength = len := by
  simp [State.stageUndo, h]

variable (id : Nat) (data : List Byte)

/-- A chunk that has been read back, before its command completes: the image with it in the bank, staged or staging on. -/
def chunkStored (img : List Byte) (whole : Bool) : State :=
  let u := (s.setBank s.inactive { s.stagedBank with parts := stagedParts img s.baseBank.parts
                                                     state := if whole then .staged else .staging }).modSec fun c =>
    { c with undo := none, staging := if whole then none else some { image := img }
             updManifest := if img.length < 0x390 then c.updManifest else manifestTrunc img }
  if whole then u.secEvent .device 0 112 u.sec.updManifest else u

theorem chunkStored_kept (img : List Byte) (whole : Bool) : kept (chunkStored s img whole) = kept s := by
  refine ite_keep kept _ ?_ ?_
  · rw [secEvent_kept, modSec_kept, setBank_kept]
  · rw [modSec_kept, setBank_kept]

theorem chunkStored_staging (img : List Byte) (whole : Bool) :
    (chunkStored s img whole).sec.staging = if whole then none else some { image := img } :=
  ite_keep (·.sec.staging) _ rfl rfl

theorem chunkStored_bank (img : List Byte) (whole : Bool) :
    ((chunkStored s img whole).sec.banks[s.inactive]).state = if whole then .staged else .staging := by
  refine ite_keep (fun u : State => (u.sec.banks[s.inactive]).state) _ ?_ ?_ <;> simp

theorem chunkWritten_unstaged (h : s.sec.staging = none) : s.chunkWritten id data = s.updDone id 9 0 0 := by
  simp only [State.chunkWritten, h]

theorem chunkWritten_staged {g : Staging} (h : s.sec.staging = some g) : s.chunkWritten id data =
    (chunkStored s (g.image ++ data) (decide (imgLength (g.image ++ data) ≤ (g.image ++ data).length))).updDone
      id 0 0 (g.image ++ data).length := by
  simp only [State.chunkWritten, h]
  rfl

theorem chunkWritten_kept (hf : s.host.fetched = []) : kept (s.chunkWritten id data) = kept s := by
  cases h : s.sec.staging with
  | none =>
    rw [chunkWritten_unstaged s id data h]
    exact updDone_kept s _ _ _ _ hf
  | some g =>
    have hk := chunkStored_kept s (g.image ++ data) (decide (imgLength (g.image ++ data) ≤ (g.image ++ data).length))
    rw [chunkWritten_staged s id data h, updDone_kept _ _ _ _ _ ((fetched_of_kept hk).trans hf), hk]

theorem chunkWritten_firmware {g : Staging} (h : s.sec.staging = some g) (hf : s.host.fetched = []) :
    firmware (s.chunkWritten id data) = firmware (chunkStored s (g.image ++ data)
      (decide (imgLength (g.image ++ data) ≤ (g.image ++ data).length))) := by
  rw [chunkWritten_staged s id data h]
  exact updDone_firmware _ _ _ _ _ ((fetched_of_kept (chunkStored_kept s _ _)).trans hf)

/-- The bank beside a bank. -/
def otherBank (r : Fin 2) : Fin 2 := if r = 0 then 1 else 0

theorem otherBank_eq : ∀ {r o : Fin 2}, o ≠ r → otherBank r = o := by decide

theorem otherBank_ne : ∀ r : Fin 2, otherBank r ≠ r := by decide

/-- Both banks after a confirmation, before the command completes. -/
def bankConfirmed : State :=
  let u := s.setBank s.sec.running { s.sec.banks[s.sec.running] with state := .confirmed }
  u.setBank (otherBank s.sec.running) { u.sec.banks[otherBank s.sec.running] with state := .retired }

theorem bankConfirmed_kept : kept (bankConfirmed s) = kept s := by
  rw [bankConfirmed, setBank_kept, setBank_kept]

theorem bankConfirmed_running : ((bankConfirmed s).sec.banks[s.sec.running]).state = .confirmed := by
  have hne := Fin.val_ne_of_ne (otherBank_ne s.sec.running)
  simp [bankConfirmed, hne]

theorem bankConfirmed_other {o : Fin 2} (h : o ≠ s.sec.running) : ((bankConfirmed s).sec.banks[o]).state = .retired := by
  obtain rfl := otherBank_eq h
  simp [bankConfirmed]

/-- A confirmation in NV, before its command completes: the raise of the counter waits for READY. -/
def confirmRecorded : State :=
  let b := s.sec.banks[s.sec.running]
  ((bankConfirmed s).modSec fun c => { c with raiseSvn := if (bankConfirmed s).svn < b.svn then some b.svn else none }).secEvent
    .device 0 115 (leBytes 4 b.version.toNat ++ [byte b.svn])

theorem confirmRecorded_kept : kept (confirmRecorded s) = kept s := by
  rw [confirmRecorded, secEvent_kept, modSec_kept, bankConfirmed_kept]

theorem confirmRecorded_firmware : firmware (confirmRecorded s) = firmware (bankConfirmed s) := by
  rw [firmware, confirmRecorded, secEvent_sec, modSec_sec, firmware]

theorem confirm_refused (h : (s.sec.banks[s.sec.running]).state ≠ .trial) : s.confirm id = s.updDone id 140 0 0 :=
  if_pos h

theorem confirm_trial (h : (s.sec.banks[s.sec.running]).state = .trial) :
    s.confirm id = (confirmRecorded s).updDone id 0 0 0 := if_neg (not_not_intro h)

theorem confirm_kept (hf : s.host.fetched = []) : kept (s.confirm id) = kept s := by
  by_cases h : (s.sec.banks[s.sec.running]).state = .trial
  · rw [confirm_trial s id h, updDone_kept _ _ _ _ _ ((fetched_of_kept (confirmRecorded_kept s)).trans hf),
      confirmRecorded_kept]
  · rw [confirm_refused s id h, updDone_kept _ _ _ _ _ hf]

theorem confirm_firmware (h : (s.sec.banks[s.sec.running]).state = .trial) (hf : s.host.fetched = []) :
    firmware (s.confirm id) = firmware (bankConfirmed s) := by
  rw [confirm_trial s id h, updDone_firmware _ _ _ _ _ ((fetched_of_kept (confirmRecorded_kept s)).trans hf),
    confirmRecorded_firmware]

end Firmware

/-! ### The end of an operation (R175, R269, R283) -/

section End
variable (s : State) (ok : Bool) (rest : List NvOp)

theorem exec_nvDone : exec (.nvDone ok) s = done (s.nvDone ok) := rfl

/-- The oldest operation taken off, with the pulse for T0. -/
def nvTaken : State := (s.modHost fun h => { h with nvOps := rest }).irqPriv 0 2

theorem frame_nvTaken : Frame s (nvTaken s rest) [.host, .ic] := frame_trans (frame_modHost s _) (frame_irqPriv _ 0 2)

/-- The recipe of number `k` put in place, or taken out. -/
def withRecipe (k : Nat) (r : Option Recipe) (t : Store) : Store :=
  { t with recipes := (t.recipes.filter fun x => x.number != k) ++ r.toList }

theorem putRecipe_eq (k : Nat) (r : Option Recipe) : s.putRecipe k r = s.modStore (withRecipe k r) := rfl

/-- What the end of an operation does, its command's completion with it. -/
def nvEnd : NvOp → State
  | .recipe id k r => (s.putRecipe k r).complete id 0 0 (s.putRecipe k r).store.used
  | .ocv id k x => (s.modStore fun t => { t with ocvNext := t.ocvNext ++ [(k, x)] }).complete id 0 0 0
  | .grade id k x => (s.modStore fun t => { t with grade := t.grade.set k (some x) }).complete id 0 0 0
  | .chunk id data => if ok then s.chunkWritten id data else s.stageUndo.updDone id 141 0 0
  | .confirm id => if ok then s.confirm id else s.updDone id 141 0 0

theorem nvEnd_kept (hf : s.host.fetched = []) (op : NvOp) : kept (nvEnd s ok op) = kept s := by
  cases op with
  | recipe id k r => exact complete_kept _ _ _ _ _
  | ocv id k x => exact complete_kept _ _ _ _ _
  | grade id k x => exact complete_kept _ _ _ _ _
  | chunk id data =>
    refine ite_keep kept _ (chunkWritten_kept s id data hf) ?_
    rw [updDone_kept _ _ _ _ _ ((fetched_of_kept (stageUndo_kept s)).trans hf), stageUndo_kept]
  | confirm id => exact ite_keep kept _ (confirm_kept s id hf) (updDone_kept s _ _ _ _ hf)

theorem nvDone_none (h : s.host.nvOps = []) : s.nvDone ok = s := by
  simp only [State.nvDone, h]

variable {rest}

theorem nvDone_oldest {op : NvOp} (h : s.host.nvOps = op :: rest) (hf : s.host.fetched = []) :
    s.nvDone ok = nvEnd (nvTaken s rest) ok op := by
  have hpump : s.nvDone ok = (nvEnd (nvTaken s rest) ok op).pumpCmd := by
    unfold State.nvDone
    rw [h]
    cases op <;> rfl
  rw [hpump, pumpCmd_idle]
  exact (fetched_of_kept (nvEnd_kept (nvTaken s rest) ok hf op)).trans hf

/-- An operation on the store whose command is no update command changes the store as it says, and beside it only sends. -/
theorem stored_frame (f : Store → Store) {id : Nat} (h : ∀ c ∈ s.host.running, c.id = id → c.opcode < 0x10)
    (status detail value : Nat) :
    Frame s (((nvTaken s rest).modStore f).complete id status detail value) [.host, .ic, .store] ∧
      (((nvTaken s rest).modStore f).complete id status detail value).store = f s.store := by
  obtain ⟨hframe, _, _⟩ := complete_sends ((nvTaken s rest).modStore f) id status detail value h
  exact ⟨frame_mono (frame_trans (frame_trans (frame_nvTaken s rest) (frame_modStore _ f)) hframe) (by decide),
    hframe .store (by decide)⟩

end End

/-! ### The statement -/

/-- Settles O26: the oldest operation's end is one of `nvEnd`; those on the store by `stored_frame`, a chunk and a
confirmation by the firmware that they leave. -/
theorem nvOperationsEnd : Obligations.NvOperationsEnd := by
  unfold Obligations.NvOperationsEnd
  refine ⟨fun s ok h => ?none, fun s ok op rest h hf => ?oldest⟩
  case none =>
    rw [exec_nvDone, nvDone_none s ok h]
    exact frame_done_self s
  case oldest =>
    have hk := nvEnd_kept (nvTaken s rest) ok hf op
    have hchans : (nvEnd (nvTaken s rest) ok op).chans = s.chans := congrArg (·.2.2) hk
    have hops : (settle (nvEnd (nvTaken s rest) ok op)).host.nvOps = rest := by
      obtain ⟨w, p, l, hh⟩ := settle_host (nvEnd (nvTaken s rest) ok op)
      rw [hh]
      exact congrArg (·.1) hk
    rw [exec_nvDone, nvDone_oldest s ok h hf]
    refine next_done ⟨hops, ?_⟩
    have hfw := settle_firmware (nvEnd (nvTaken s rest) ok op)
    rw [settle_store, settle_chans, banks_of_firmware hfw, staging_of_firmware hfw, updLength_of_firmware hfw]
    refine ⟨fun id k r ho hid => ?loaded, fun id k ho hid => ?deleted, fun id k x ho hid => ?ocv, fun id k x ho hid => ?grade,
      fun id data g ho hok hg => ?chunk, fun id data b g len mf ho hok hu => ?failed, fun id ho hok ht => ?confirm⟩
    case loaded =>
      subst ho
      obtain ⟨hframe, hstore⟩ := stored_frame (rest := rest) s (withRecipe k (some r)) hid 0 0 _
      rw [nvEnd, putRecipe_eq, hstore]
      exact ⟨by simp [withRecipe], fun x hx hne => by simp [withRecipe, hx, hne], frame_settle hframe⟩
    case deleted =>
      subst ho
      obtain ⟨hframe, hstore⟩ := stored_frame (rest := rest) s (withRecipe k none) hid 0 0 _
      rw [nvEnd, putRecipe_eq, hstore]
      exact ⟨List.append_nil _, frame_settle hframe⟩
    case ocv =>
      subst ho
      obtain ⟨hframe, hstore⟩ := stored_frame (rest := rest) s
        (fun t => { t with ocvNext := t.ocvNext ++ [(k, x)] }) hid 0 0 0
      exact ⟨congrArg Store.ocvNext hstore, frame_settle hframe⟩
    case grade =>
      subst ho
      obtain ⟨hframe, hstore⟩ := stored_frame (rest := rest) s
        (fun t => { t with grade := t.grade.set k (some x) }) hid 0 0 0
      exact ⟨congrArg Store.grade hstore, frame_settle hframe⟩
    case chunk =>
      subst ho hok
      have hw := chunkWritten_firmware (nvTaken s rest) id data hg hf
      rw [nvEnd, if_pos rfl, banks_of_firmware hw, staging_of_firmware hw, chunkStored_staging]
      have hbank := chunkStored_bank (nvTaken s rest) (g.image ++ data)
        (decide (imgLength (g.image ++ data) ≤ (g.image ++ data).length))
      refine ⟨fun hwhole => ?_, fun hpart => ?_, hchans⟩
      · rw [decide_eq_true hwhole] at hbank ⊢
        exact ⟨rfl, hbank⟩
      · rw [decide_eq_false hpart] at hbank ⊢
        exact ⟨rfl, hbank⟩
    case failed =>
      subst ho hok
      obtain ⟨hstaging, hlen⟩ := stageUndo_restores (nvTaken s rest) hu
      have hdone := updDone_firmware (nvTaken s rest).stageUndo id 141 0 0
        ((fetched_of_kept (stageUndo_kept (nvTaken s rest))).trans hf)
      rw [nvEnd, if_neg Bool.false_ne_true, staging_of_firmware hdone, updLength_of_firmware hdone]
      exact ⟨hstaging, hlen, hchans⟩
    case confirm =>
      subst ho hok
      have hc := confirm_firmware (nvTaken s rest) id ht hf
      rw [nvEnd, if_pos rfl, banks_of_firmware hc]
      exact ⟨bankConfirmed_running (nvTaken s rest), fun o hne => bankConfirmed_other (nvTaken s rest) hne, hchans⟩

end Sys2Proof.Proofs
end
